-- ==== Sys2Proof/Word.lean ====
section
/-! DEFINITION. The word types of the M612: the widths that the spec gives its fields. -/

namespace Sys2Proof

/-- One byte of a lane unit, of the pool or of a request. -/
abbrev Byte := BitVec 8

/-- A field of two bytes. -/
abbrev U16 := BitVec 16

/-- A field of four bytes: timebase values and statistics counters. -/
abbrev U32 := BitVec 32

/-- A station address, 12 bits (00_scope, "Station addresses"). -/
abbrev Addr := BitVec 12

/-- A channel, 0 to 15. -/
abbrev Chan := BitVec 4

/-- A cell sequence number, 0 to 63, counting modulo 64. -/
abbrev Seq := BitVec 6

/-- A statistics counter: 32 bits (00_scope, "Counters"); it saturates (`Machine.satInc`). -/
abbrev Counter := BitVec 32

end Sys2Proof
end

