-- ==== Sys2Proof/Syntax.lean ====
section
/-! DEFINITION. The commands of the M612: one constructor per row of spec/opcode_table.json. -/

namespace Sys2Proof

/-- A unit that a lane delivers: its bytes, whether the lane reported a coding error on any of them (R5, R183), and
whether its reception began after the link last became UP (R2, R181, log 6). -/
structure LaneUnit where
  bytes : List Byte
  codingError : Bool
  begunInUp : Bool
  deriving DecidableEq, Repr

/-- The steps of the part. A row whose step needs something from outside carries it; every other row acts on what
the state holds (log 1). -/
inductive Instr where
  | powerOn
  | trunkUp
  | trunkLoss
  | receivedCell (unit : LaneUnit)
  | dataOnly
  | dataFirst
  | dataMiddle
  | dataLast
  | cellTransmissionEnd
  | gapTimerExpiry (context : Fin 48)
  | agingTick
  | classifierTake
  | classificationEnd
  | swap
  | idleTimerExpiry
  | refreshTimerExpiry
  | coalescingTimerExpiry
  | uplinkSignal
  | trainingComplete
  | trainingFailure
  | lossOfSignal
  | requestFrame (unit : LaneUnit)
  | creditFrame (unit : LaneUnit)
  | uplinkFrameError (unit : LaneUnit)
  | responseFrameStart
  | responseFrameEnd
  | eventFrameStart
  | eventFrameEnd
  | deliveryFrameStart
  | deliveryFrameEnd
  | deliveryMemoryError
  | removalWork
  | badTag
  | retryMatch
  | badKind
  | getStatus
  | getParam
  | setParam
  | setRights
  | softRestart
  | readStation
  | listStations
  | pinStation
  | unpinStation
  | removeStation
  | flushLearned
  | readContext
  | readPool
  | readClauseActive
  | readClauseStaging
  | readHits
  | openEdit
  | writeClause
  | writeProbes
  | setDefault
  | setCount
  | commit
  | abortEdit
  | readQueue
  | haltQueue
  | restartQueue
  | flushQueue
  | sendHold
  | sendRelease
  | readCounters
  | clearCounters
  | setEvents
  | flushEvents
  deriving DecidableEq, Repr

end Sys2Proof
end

