-- ==== Sys2Proof/Decode.lean ====
section
/-! DEFINITION. Commands from words: no row of spec/opcode_table.json has bits, so no word spells a command. -/

namespace Sys2Proof

/-- The command that a word spells by the table's bits (log 23): none does. -/
def decodeTableWord (_nbits _w : Nat) : Option Instr := none

end Sys2Proof
end

