-- ==== Sys2Proof/Config.lean ====
section
/-! DEFINITION. The one free value of the model: what the spec leaves open and no proof may see. -/

namespace Sys2Proof

/-- FREE VALUE (log 11). How many payload bytes of a DELIVERY frame have left the lane when SOFT RESTART cuts it
(R130 says that every byte not yet sent is zero and does not say how many have been sent).
The argument is the number of the draw, `State.freeDraws`. -/
opaque Config.bytesSentAtCut : Nat → Nat

end Sys2Proof
end

