-- ==== Sys2Proof/Machine/Memory.lean ====
section
/-! DEFINITION. Sparse storage in one canonical form: numbers strictly rising, no entry equal to what an unlisted
number reads as. The Block Pool's bytes, block fields and chain entries are kept so. -/

namespace Sys2Proof.Machine

namespace Sparse

/-- What place `k` holds; a place that is not listed holds `d`. -/
def get {α : Type} (d : α) : List (Nat × α) → Nat → α
  | [], _ => d
  | (j, x) :: rest, k => if k = j then x else get d rest k

/-- Put the entry `(k, v)` in its place, or take the entry of `k` out when `v` is what an unlisted place holds. -/
def set {α : Type} [DecidableEq α] (d : α) : List (Nat × α) → Nat → α → List (Nat × α)
  | [], k, v => if v = d then [] else [(k, v)]
  | (j, x) :: rest, k, v =>
    if k < j then (if v = d then (j, x) :: rest else (k, v) :: (j, x) :: rest)
    else if k = j then (if v = d then rest else (k, v) :: rest)
    else (j, x) :: set d rest k v

/-- The canonical form from place `low` on. -/
def wfFrom {α : Type} [DecidableEq α] (d : α) : Nat → List (Nat × α) → Bool
  | _, [] => true
  | low, (j, x) :: rest => decide (low ≤ j) && !decide (x = d) && wfFrom d (j + 1) rest

/-- The canonical form. -/
def wf {α : Type} [DecidableEq α] (d : α) (m : List (Nat × α)) : Bool := wfFrom d 0 m

end Sparse

/-- Store `bytes` from address `a` on. -/
def Memory.write (m : List (Nat × Byte)) (a : Nat) : List Byte → List (Nat × Byte)
  | [] => m
  | b :: rest => Memory.write (Sparse.set 0 m a b) (a + 1) rest

/-- The `n` bytes from address `a` on; a byte that nothing has written reads 0 (log 8). -/
def Memory.read (m : List (Nat × Byte)) (a : Nat) : Nat → List Byte
  | 0 => []
  | n + 1 => Sparse.get 0 m a :: Memory.read m (a + 1) n

/-- The canonical form of the pool's content. -/
def Memory.wf (m : List (Nat × Byte)) : Bool := Sparse.wf 0 m

end Sys2Proof.Machine
end

