-- ==== Sys2Proof/Machine/Flags.lean ====
section
/-! DEFINITION. Check codes and saturating counts: the CRC-16 of cells and blocks (R5, R35), the CRC-32 of uplink
frames (R183), and the counters (00_scope, "Counters"). -/

namespace Sys2Proof.Machine

/-- One more, staying at the largest value. -/
def satInc {n : Nat} (c : BitVec n) : BitVec n := if c = BitVec.allOnes n then c else c + 1

/-- `k` more, staying at the largest value. -/
def satAdd {n : Nat} (c : BitVec n) (k : Nat) : BitVec n :=
  if c.toNat + k < 2 ^ n then BitVec.ofNat n (c.toNat + k) else BitVec.allOnes n

/-- One bit into a CRC register. -/
def crcBit {n : Nat} (poly reg : BitVec n) (b : Bool) : BitVec n :=
  if reg.msb != b then (reg <<< 1) ^^^ poly else reg <<< 1

/-- One byte into a CRC register, most significant bit first (R183, last sentence of its CRC paragraph). -/
def crcByte {n : Nat} (poly reg : BitVec n) (b : Byte) : BitVec n :=
  [7, 6, 5, 4, 3, 2, 1, 0].foldl (fun r i => crcBit poly r (b.getLsbD i)) reg

/-- R35: the initial value of the CRC-16, all ones. -/
def crc16Init : U16 := 0xFFFF

/-- R5, R35: the CRC-16 continued from `reg` over `bytes`; x^16 + x^12 + x^5 + 1, result not inverted. -/
def crc16From (reg : U16) (bytes : List Byte) : U16 := bytes.foldl (crcByte 0x1021) reg

/-- R5, R35: the CRC-16 of `bytes`. -/
def crc16 (bytes : List Byte) : U16 := crc16From crc16Init bytes

/-- R183: the CRC-32 of `bytes`, register from all ones, final value inverted. -/
def crc32 (bytes : List Byte) : U32 := ~~~(bytes.foldl (crcByte 0x04C11DB7) 0xFFFFFFFF)

end Sys2Proof.Machine
end

