-- ==== Sys2Proof/Machine/State.lean ====
section
/-! DEFINITION. The state of the M612 as plain data, block by block (00_scope, "Block Diagram"), its reset value, and
the reasons a step could stop. -/

namespace Sys2Proof.Machine

/-! ### Trunk Receiver and Trunk Transmitter -/

/-- The trunk link state (R1). -/
inductive TrunkLink where
  | down
  | up
  deriving DecidableEq, Repr

/-- The trunk link state and the five receive counters (R1, R11). -/
structure TrunkReceiver where
  link : TrunkLink
  received : Counter
  badCheck : Counter
  badFormat : Counter
  notData : Counter
  notForPart : Counter
  deriving DecidableEq, Repr

/-- A composed HOLD or RELEASE cell (R13): its source and, for HOLD, its duration. The other fields are fixed. -/
inductive TxCell where
  | hold (source : Addr) (duration : U16)
  | release (source : Addr)
  deriving DecidableEq, Repr

/-- The transmit state (none is IDLE), the pending slot and the two sent counters (R12, R14). -/
structure TrunkTransmitter where
  inFlight : Option TxCell
  slot : Option TxCell
  holdSent : Counter
  releaseSent : Counter
  deriving DecidableEq, Repr

/-! ### Station Table -/

/-- How an entry came to be (R17). -/
inductive Origin where
  | learned
  | pinned
  deriving DecidableEq, Repr

/-- Whether a station's cells are taken (R17). -/
inductive Admission where
  | admits
  | blocks
  deriving DecidableEq, Repr

/-- One entry of the Station Table (R17). -/
structure StationEntry where
  address : Addr
  origin : Origin
  admission : Admission
  tag : Byte
  age : Byte
  openCount : Nat
  accepted : Counter
  completed : Counter
  errors : Counter
  deriving DecidableEq, Repr

/-- The 64 positions, the two lookup counters (R19, R20), and the microseconds since the last aging tick (R24). -/
structure StationTable where
  entries : Vector (Option StationEntry) 64
  foreign : Counter
  blocked : Counter
  microsSinceTick : Nat
  deriving DecidableEq, Repr

/-- The four kinds of data cell (chapter 1, section 1.2). -/
inductive DataKind where
  | only
  | first
  | middle
  | last
  deriving DecidableEq, Repr

/-- A data cell as the Trunk Receiver and the Station Table hand it on (R10, R18, R21). -/
structure AdmittedCell where
  kind : DataKind
  source : Addr
  channel : Chan
  sequence : Seq
  cls : Byte
  payload : List Byte
  arrival : U32
  tag : Byte
  deriving DecidableEq, Repr

/-- The stream from the Station Table to the Reassembly Unit (R21): admitted cells, and the removal work of
REMOVE_STATION and FLUSH_LEARNED with the address of every entry removed. -/
inductive StreamItem where
  | cell (c : AdmittedCell)
  | removal (stations : List Addr)
  deriving DecidableEq, Repr

/-! ### Block Pool -/

/-- Fill count, link and check code of a block (R34). -/
structure BlockFields where
  fill : Nat
  link : Option Nat
  check : U16
  deriving DecidableEq, Repr

/-- What the fields of a block read as before its first allocation (log 8; nothing reads them, R49). -/
def BlockFields.unwritten : BlockFields := { fill := 0, link := none, check := 0xFFFF }

/-- Head block, tail block and block count of a chain (R40, R50). -/
structure Chain where
  head : Nat
  tail : Nat
  count : Nat
  deriving DecidableEq, Repr

/-- The pool's entry for a chain that has left its context, beside its head block (R40). -/
structure ChainEntry where
  tail : Nat
  count : Nat
  refs : Nat
  deriving DecidableEq, Repr

/-- No chain entry. -/
def ChainEntry.absent : ChainEntry := { tail := 0, count := 0, refs := 0 }

/-- The free list, the content bytes at address 64 x block + offset, the fields of the blocks, and the chain entries
by head block (R34, R37, R40). The last three are sparse (`Sparse`). -/
structure BlockPool where
  free : List Nat
  content : List Host.Cell
  blocks : List (Nat × BlockFields)
  chains : List (Nat × ChainEntry)
  deriving DecidableEq, Repr

/-! ### Reassembly Unit -/

/-- The last abort reason of a context (R50). -/
inductive AbortReason where
  | none
  | restart
  | sequence
  | timeout
  | oversize
  | noBuffer
  | flushed
  | trunkLoss
  deriving DecidableEq, Repr

/-- What an OPEN or COMPLETE context holds of its message (R50). -/
structure Message where
  station : Addr
  channel : Chan
  tag : Byte
  cls : Byte
  arrival : U32
  byteCount : Nat
  chain : Chain
  deriving DecidableEq, Repr

/-- The state of a context with the fields present in it (R50, R51). -/
inductive ContextState where
  | free
  | opened (m : Message) (expected : Seq) (expiry : U32)
  | discarding (station : Addr) (channel : Chan) (expiry : U32)
  | complete (m : Message)
  deriving DecidableEq, Repr

/-- One reassembly context (R50). -/
structure Context where
  body : ContextState
  lastAbort : AbortReason
  deriving DecidableEq, Repr

/-- The reassembly counter group (R71). -/
structure ReassemblyCounters where
  orphan : Counter
  duplicate : Counter
  discarded : Counter
  completed : Counter
  restart : Counter
  sequence : Counter
  timeout : Counter
  oversize : Counter
  noBuffer : Counter
  noContext : Counter
  flushed : Counter
  trunkLoss : Counter
  deriving DecidableEq, Repr

/-- The contexts, the pending list (head first) and the counters (R50, R67, R71). -/
structure Reassembly where
  contexts : Vector Context 48
  pendingList : List (Fin 48)
  counters : ReassemblyCounters
  deriving DecidableEq, Repr

/-! ### Classifier and Program Store -/

/-- The ten properties of a message, in the order of their codes (R78). -/
structure Properties where
  station : U16
  channel : U16
  cls : U16
  length : U16
  tag : U16
  probe0 : U16
  probe1 : U16
  probe2 : U16
  probe3 : U16
  shorts : U16
  deriving DecidableEq, Repr

/-- What a take gathered: the properties, or a memory error at a probe read (R78, R80). -/
inductive Gathered where
  | properties (p : Properties)
  | memoryError
  deriving DecidableEq, Repr

/-- IDLE, or CLASSIFYING with the context under classification (R75). -/
inductive ClassifierState where
  | idle
  | classifying (context : Fin 48) (gathered : Gathered)
  deriving DecidableEq, Repr

/-- The Classifier's state, message ID counter (R95) and counter group (R96). -/
structure Classifier where
  state : ClassifierState
  messageId : U16
  classified : Counter
  discarded : Counter
  byDefault : Counter
  memoryErrors : Counter
  deriving DecidableEq, Repr

/-- The action of a TEST with link END (R83). Queue numbers are held as written (R103); COMMIT checks them (R111). -/
inductive ClauseAction where
  | none
  | deliver (queue : Byte) (mark : Bool)
  | mirror (queue mirrorQueue : Byte) (mark : Bool)
  | discard (mark : Bool)
  deriving DecidableEq, Repr

/-- One clause with the fields its kind uses; all others are held as 0 (R82, R103). -/
inductive Clause where
  | testAnd (property comparison : Byte) (operand : U16)
  | testEnd (property comparison : Byte) (operand : U16) (action : ClauseAction)
  | care (mask : U16)
  | gate (property comparison : Byte) (operand : U16) (resume : U16)
  deriving DecidableEq, Repr

/-- The blank clause (R81): TEST STATION EQ 0, link END, action NONE. -/
def Clause.blank : Clause := .testEnd 0 0 0 .none

/-- The default action of a program (R81). -/
inductive DefaultAction where
  | deliver (queue : Fin 8) (mark : Bool)
  | discard
  deriving DecidableEq, Repr

/-- A rule program (R81). A probe that is absent is none. -/
structure Program where
  default : DefaultAction
  probes : Vector (Option U16) 4
  count : Nat
  clauses : Vector Clause 256
  deriving DecidableEq, Repr

/-- The power-on program (R81). -/
def Program.powerOn : Program :=
  { default := .deliver 0 false, probes := Vector.replicate 4 none, count := 0,
    clauses := Vector.replicate 256 Clause.blank }

/-- The edit session, the staging program, the commit state and the idle timer in one (R100): the staging program
exists only with a session, the idle timer runs only while no commit is pending, and a pending commit's tag is the
holder's (log 19). -/
inductive EditState where
  | none
  | editing (holder : Fin 4) (staging : Program) (expiry : U32)
  | committing (holder : Fin 4) (staging : Program) (sequence : U16)
  deriving DecidableEq, Repr

/-- The active program with its generation and hit counters, and the edit state (R81, R90, R100). -/
structure ProgramStore where
  active : Program
  generation : U16
  hits : Vector Counter 256
  edit : EditState
  deriving DecidableEq, Repr

/-! ### Delivery Unit -/

/-- A message record (R118). -/
structure Record where
  messageId : U16
  generation : U16
  station : Addr
  channel : Chan
  cls : Byte
  length : Nat
  timestamp : U32
  mark : Bool
  mirrored : Bool
  replay : Bool
  chain : Nat
  deriving DecidableEq, Repr

/-- Why a queue is halted (R131). -/
inductive HaltReason where
  | memory
  | manager
  deriving DecidableEq, Repr

/-- RUNNING or HALTED (R117). -/
inductive QueueState where
  | running
  | halted (reason : HaltReason)
  deriving DecidableEq, Repr

/-- The six counters of a queue (R136). -/
structure QueueCounters where
  appended : Counter
  droppedFull : Counter
  delivered : Counter
  deliveredBytes : Counter
  memoryErrors : Counter
  flushed : Counter
  deriving DecidableEq, Repr

/-- One delivery queue (R117). The in-flight mark names the head record. -/
structure Queue where
  state : QueueState
  records : List Record
  credit : Byte
  charge : Nat
  inFlight : Bool
  counters : QueueCounters
  deriving DecidableEq, Repr

/-- The eight queues and the scheduler position (R117, R123). -/
structure Delivery where
  queues : Vector Queue 8
  current : Fin 8
  turns : Nat
  deriving DecidableEq, Repr

/-! ### Management Unit -/

/-- The request kinds of the catalogue (section 9.5). -/
inductive RequestKind where
  | getStatus
  | getParam
  | setParam
  | setRights
  | softRestart
  | readStation
  | listStations
  | pinStation
  | unpinStation
  | removeStation
  | flushLearned
  | readContext
  | readPool
  | readClause
  | readHits
  | openEdit
  | writeClause
  | writeProbes
  | setDefault
  | setCount
  | commit
  | abortEdit
  | readQueue
  | haltQueue
  | restartQueue
  | flushQueue
  | sendHold
  | sendRelease
  | readCounters
  | clearCounters
  | setEvents
  | flushEvents
  deriving DecidableEq, Repr

/-- The status codes of section 9.5, in the order of their numbers. -/
inductive Status where
  | ok
  | badTag
  | badKind
  | badArg
  | badValue
  | noRight
  | busyEdit
  | noEdit
  | commitPending
  | invalidProgram
  | notFound
  | tableFull
  | holdActive
  | linkDown
  | restarted
  | retryTooLong
  deriving DecidableEq, Repr

/-- A set of rights (R152). -/
structure Rights where
  read : Bool
  edit : Bool
  control : Bool
  supervisor : Bool
  deriving DecidableEq, Repr

/-- A request as received (R153). Its argument length is the number of its argument bytes (log 20). -/
structure Request where
  tag : Byte
  sequence : U16
  kind : Byte
  args : List Byte
  deriving DecidableEq, Repr

/-- A response (R154). -/
structure Response where
  tag : Byte
  sequence : U16
  kind : Byte
  status : Status
  data : List Byte
  deriving DecidableEq, Repr

/-- A cached response: whole, or with the RESEND_REFUSED marker (R152, R159). -/
inductive CachedResponse where
  | whole (kind : Byte) (status : Status) (data : List Byte)
  | resendRefused (kind : Byte) (status : Status)
  deriving DecidableEq, Repr

/-- One session entry (R152). MODEL's own is `awaitsSwap` (log 30): the request in progress is the COMMIT that is
pending, so no newer request of the tag has been accepted since (R114, R159). -/
structure Session where
  rights : Rights
  lastSequence : Option U16
  inProgress : Bool
  cached : Option CachedResponse
  awaitsSwap : Bool
  deriving DecidableEq, Repr

/-- IDLE, or EXECUTING a request whose answer waits for the removal work (R155). -/
inductive UnitState where
  | idle
  | executing (tag : Fin 4) (sequence : U16) (kind : RequestKind)
  deriving DecidableEq, Repr

/-- The request FIFO, the response queue, the sessions, the unit's state and the requests-dropped counter. -/
structure Management where
  fifo : List Request
  responses : List Response
  sessions : Vector Session 4
  unit : UnitState
  dropped : Counter
  deriving DecidableEq, Repr

/-! ### Uplink Port -/

/-- The uplink link state (R181). -/
inductive UplinkLink where
  | down
  | training
  | up
  deriving DecidableEq, Repr

/-- The event kinds, in the order of their codes 1 to 22 (R170). -/
inductive EventKind where
  | cellError
  | foreignStation
  | blockedStation
  | orphanCell
  | sequenceError
  | reassemblyTimeout
  | oversize
  | noContext
  | noBuffer
  | queueFull
  | memoryError
  | holdOn
  | holdOff
  | creditOverflow
  | requestDropped
  | editTimeout
  | commitDone
  | trunkDown
  | trunkUp
  | stationLearned
  | stationAged
  | uplinkFrameError
  deriving DecidableEq, Repr

/-- One entry of an EVENT frame (R175). -/
structure EventEntry where
  code : Byte
  count : U16
  detail : U16
  firstTime : U32
  deriving DecidableEq, Repr

/-- The trailer status of a DELIVERY frame (R187). -/
inductive Trailer where
  | ok
  | abortedMemory
  | abortedRestart
  deriving DecidableEq, Repr

/-- The payload of a DELIVERY frame in flight: streamed from its chain; or cut, with the payload bytes already sent
and the trailer to come (R126, R128, R130). -/
inductive FramePayload where
  | streaming
  | cut (sent : List Byte) (trailer : Trailer)
  deriving DecidableEq, Repr

/-- A DELIVERY frame in flight; the header is composed once from the record (R125). -/
structure DeliveryFrame where
  queue : Fin 8
  header : Record
  payload : FramePayload
  deriving DecidableEq, Repr

/-- The outbound lane: IDLE, or BUSY with the frame in flight, which names its owner (R185). -/
inductive Lane where
  | idle
  | response (r : Response)
  | event (entries : List EventEntry)
  | delivery (f : DeliveryFrame)
  deriving DecidableEq, Repr

/-- The uplink link state, the outbound lane and the uplink-frame-error counter. -/
structure UplinkPort where
  link : UplinkLink
  lane : Lane
  frameErrors : Counter
  deriving DecidableEq, Repr

/-! ### Hold Controller, Event Unit, parameters -/

/-- QUIET, or HOLDING with the expiry of the refresh timer, which runs in HOLDING and only there (R140). -/
inductive HoldMode where
  | quiet
  | holding (expiry : U32)
  deriving DecidableEq, Repr

/-- The Hold Controller: its mode and F as last handed to it (R140, R142). -/
structure HoldController where
  mode : HoldMode
  lastFree : Nat
  deriving DecidableEq, Repr

/-- One event slot (R170). -/
structure EventSlot where
  enabled : Bool
  count : U16
  detail : U16
  firstTime : U32
  subPending : U16
  deriving DecidableEq, Repr

/-- The timebase, the slots, the due flag, the coalescing timer and the note of a flush (R169, R170, R172, R174). -/
structure EventUnit where
  timebase : U32
  slots : Vector EventSlot 22
  due : Bool
  timer : Option U32
  flushNote : Bool
  deriving DecidableEq, Repr

/-- The parameters (R161). -/
structure Params where
  trunkAddress : Addr
  learning : Bool
  defaultTag : Byte
  ageLimit : Byte
  gapLimit : Nat
  maxLength : Nat
  contextsPerStation : Nat
  hOn : Nat
  hOff : Nat
  holdDuration : U16
  coalesceCount : Nat
  coalesceTime : Nat
  weights : Vector Nat 8
  blockLimits : Vector Nat 8
  deriving DecidableEq, Repr

/-- MODEL's own (log 12): the whole units that have left on each transmit lane, newest first. -/
structure Outputs where
  uplink : List (List Byte)
  trunk : List (List Byte)
  deriving DecidableEq, Repr

/-! ### The state -/

/-- The state of the part, and the queue of commands that wait, first in first out. -/
structure State where
  trunkRx : TrunkReceiver
  trunkTx : TrunkTransmitter
  stations : StationTable
  stream : List StreamItem
  pool : BlockPool
  reassembly : Reassembly
  classifier : Classifier
  program : ProgramStore
  delivery : Delivery
  uplink : UplinkPort
  hold : HoldController
  management : Management
  events : EventUnit
  params : Params
  outputs : Outputs
  freeDraws : Nat
  pending : List Instr
  deriving DecidableEq, Repr

/-! ### Updates, one per block -/

namespace State

def withTrunkRx (s : State) (x : TrunkReceiver) : State := { s with trunkRx := x }
def withTrunkTx (s : State) (x : TrunkTransmitter) : State := { s with trunkTx := x }
def withStations (s : State) (x : StationTable) : State := { s with stations := x }
def withStream (s : State) (x : List StreamItem) : State := { s with stream := x }
def withPool (s : State) (x : BlockPool) : State := { s with pool := x }
def withReassembly (s : State) (x : Reassembly) : State := { s with reassembly := x }
def withClassifier (s : State) (x : Classifier) : State := { s with classifier := x }
def withProgram (s : State) (x : ProgramStore) : State := { s with program := x }
def withDelivery (s : State) (x : Delivery) : State := { s with delivery := x }
def withUplink (s : State) (x : UplinkPort) : State := { s with uplink := x }
def withHold (s : State) (x : HoldController) : State := { s with hold := x }
def withManagement (s : State) (x : Management) : State := { s with management := x }
def withEvents (s : State) (x : EventUnit) : State := { s with events := x }
def withParams (s : State) (x : Params) : State := { s with params := x }
def withOutputs (s : State) (x : Outputs) : State := { s with outputs := x }
def withFreeDraws (s : State) (x : Nat) : State := { s with freeDraws := x }
def withPending (s : State) (x : List Instr) : State := { s with pending := x }

end State

/-! ### Reset -/

/-- R152: tag 0 holds all four rights. -/
def Rights.all : Rights := { read := true, edit := true, control := true, supervisor := true }

/-- R152: the rights of tags 1 to 3 after POWER-ON. -/
def Rights.readOnly : Rights := { read := true, edit := false, control := false, supervisor := false }

/-- R152: a session entry after POWER-ON, with the given rights. -/
def Session.fresh (r : Rights) : Session :=
  { rights := r, lastSequence := none, inProgress := false, cached := none, awaitsSwap := false }

/-- R50, R74: a context after POWER-ON. -/
def Context.fresh : Context := { body := .free, lastAbort := .none }

/-- R117, R136: a queue after POWER-ON. -/
def Queue.fresh : Queue :=
  { state := .running, records := [], credit := 0, charge := 0, inFlight := false,
    counters := { appended := 0, droppedFull := 0, delivered := 0, deliveredBytes := 0, memoryErrors := 0,
                  flushed := 0 } }

/-- R170: an event slot after POWER-ON. -/
def EventSlot.fresh : EventSlot := { enabled := true, count := 0, detail := 0, firstTime := 0, subPending := 0 }

/-- R161: the defaults of the parameters. -/
def Params.defaults : Params :=
  { trunkAddress := 0, learning := true, defaultTag := 0, ageLimit := 60, gapLimit := 20, maxLength := 4096,
    contextsPerStation := 8, hOn := 256, hOff := 512, holdDuration := 2000, coalesceCount := 8, coalesceTime := 10,
    weights := Vector.replicate 8 1, blockLimits := Vector.replicate 8 512 }

/-- R37, R49: the pool after POWER-ON. -/
def BlockPool.fresh : BlockPool := { free := List.range 2048, content := [], blocks := [], chains := [] }

/-- R71: the reassembly counters after POWER-ON. -/
def ReassemblyCounters.zero : ReassemblyCounters :=
  { orphan := 0, duplicate := 0, discarded := 0, completed := 0, restart := 0, sequence := 0, timeout := 0,
    oversize := 0, noBuffer := 0, noContext := 0, flushed := 0, trunkLoss := 0 }

/-- The part after POWER-ON: R1, R11, R15, R33, R49, R74, R99, R116, R139, R151, R168, R180, R181, R185. -/
def State.reset : State where
  trunkRx := { link := .down, received := 0, badCheck := 0, badFormat := 0, notData := 0, notForPart := 0 }
  trunkTx := { inFlight := none, slot := none, holdSent := 0, releaseSent := 0 }
  stations := { entries := Vector.replicate 64 none, foreign := 0, blocked := 0, microsSinceTick := 0 }
  stream := []
  pool := BlockPool.fresh
  reassembly := { contexts := Vector.replicate 48 Context.fresh, pendingList := [],
                  counters := ReassemblyCounters.zero }
  classifier := { state := .idle, messageId := 0, classified := 0, discarded := 0, byDefault := 0, memoryErrors := 0 }
  program := { active := Program.powerOn, generation := 0, hits := Vector.replicate 256 0, edit := .none }
  delivery := { queues := Vector.replicate 8 Queue.fresh, current := 7, turns := 0 }
  uplink := { link := .down, lane := .idle, frameErrors := 0 }
  hold := { mode := .quiet, lastFree := 2048 }
  management :=
    { fifo := [], responses := [],
      sessions := ⟨#[Session.fresh .all, Session.fresh .readOnly, Session.fresh .readOnly, Session.fresh .readOnly], rfl⟩,
      unit := .idle, dropped := 0 }
  events := { timebase := 0, slots := Vector.replicate 22 EventSlot.fresh, due := false, timer := none,
              flushNote := false }
  params := Params.defaults
  outputs := { uplink := [], trunk := [] }
  freeDraws := 0
  pending := []

/-! ### How a step could stop -/

/-- Nothing in the spec stops the part (INVENTORY, "Faults"): no fault exists, and nobody raises one. -/
inductive Fault where
  deriving DecidableEq, Repr

/-- Why a command would have no meaning here. -/
inductive Refusal where
  /-- Raised by an arm of `exec` whose command is not modelled; there is none. Safe: the machine stops. -/
  | notModelled (mnemonic : String)
  deriving DecidableEq, Repr

end Sys2Proof.Machine
end

