-- ==== Sys2Proof/Machine/Operands.lean ====
section
/-! DEFINITION. Byte layouts (R187) and codes: reading received units and request arguments, composing cells, frames
and response data. Multi-byte fields are most significant byte first. -/

namespace Sys2Proof.Machine

/-! ### Byte order -/

/-- Two bytes, high byte first. -/
def be16 (x : U16) : List Byte := [x.extractLsb' 8 8, x.extractLsb' 0 8]

/-- Four bytes, high byte first. -/
def be32 (x : U32) : List Byte :=
  [x.extractLsb' 24 8, x.extractLsb' 16 8, x.extractLsb' 8 8, x.extractLsb' 0 8]

/-- A number in two bytes. -/
def natBe16 (n : Nat) : List Byte := be16 (BitVec.ofNat 16 n)

/-- A number in one byte. -/
def natByte (n : Nat) : Byte := BitVec.ofNat 8 n

/-- A flag in one byte. -/
def boolByte (b : Bool) : Byte := if b then 1 else 0

/-- The byte at offset `i`; 0 beyond the end. -/
def byteAt (bytes : List Byte) (i : Nat) : Byte := bytes.getD i 0

/-- The two bytes from offset `i`, high byte first. -/
def word16At (bytes : List Byte) (i : Nat) : U16 := byteAt bytes i ++ byteAt bytes (i + 1)

/-- The four bytes from offset `i`, high byte first. -/
def word32At (bytes : List Byte) (i : Nat) : U32 := word16At bytes i ++ word16At bytes (i + 2)

/-! ### The trunk cell -/

/-- The kinds of cell (section 1.2). -/
inductive CellKind where
  | data (k : DataKind)
  | hold
  | release
  deriving DecidableEq, Repr

/-- The kind code of a cell; none for a code that is not in the table of section 1.2. -/
def cellKind (code : BitVec 4) : Option CellKind :=
  match code.toNat with
  | 1 => some (.data .only)
  | 2 => some (.data .first)
  | 3 => some (.data .middle)
  | 4 => some (.data .last)
  | 8 => some .hold
  | 9 => some .release
  | _ => none

/-- R187: the fields of a received unit, by their byte positions. -/
def cellCode (bytes : List Byte) : BitVec 4 := (byteAt bytes 0).extractLsb' 4 4
def cellChannel (bytes : List Byte) : Chan := (byteAt bytes 0).extractLsb' 0 4
def cellDestination (bytes : List Byte) : Addr := byteAt bytes 1 ++ (byteAt bytes 2).extractLsb' 4 4
def cellSource (bytes : List Byte) : Addr := (byteAt bytes 2).extractLsb' 0 4 ++ byteAt bytes 3
def cellSequence (bytes : List Byte) : Seq := (byteAt bytes 4).extractLsb' 2 6
def cellPayloadLength (bytes : List Byte) : Nat := (byteAt bytes 5).toNat
def cellClass (bytes : List Byte) : Byte := byteAt bytes 6
def cellPayload (bytes : List Byte) : List Byte := (bytes.drop 7).take (cellPayloadLength bytes)

/-- R5: what the first admission step asks. -/
def cellCheckGood (u : LaneUnit) : Bool :=
  decide (9 ≤ u.bytes.length) && !u.codingError
    && decide (crc16 (u.bytes.take (u.bytes.length - 2)) = word16At u.bytes (u.bytes.length - 2))

/-- R6: what the second admission step asks: a known kind, and a length that fits it. -/
def cellFormat (bytes : List Byte) : Option CellKind :=
  match cellKind (cellCode bytes) with
  | some (.data k) =>
    let n := cellPayloadLength bytes
    if 1 ≤ n ∧ n ≤ 56 ∧ bytes.length = 9 + n then some (.data k) else none
  | some k => if bytes.length = 9 then some k else none
  | none => none

/-- The fate of a received unit under the five admission steps (section 1.3). -/
inductive AdmissionResult where
  | badCheck
  | badFormat
  | notData
  | notForPart
  | badSource
  | admitted (k : DataKind)
  deriving DecidableEq, Repr

/-- R5 to R9: the five steps in order; the first that fails decides. -/
def admission (trunkAddress : Addr) (u : LaneUnit) : AdmissionResult :=
  if cellCheckGood u then
    match cellFormat u.bytes with
    | none => .badFormat
    | some .hold => .notData
    | some .release => .notData
    | some (.data k) =>
      let d := cellDestination u.bytes
      if d = trunkAddress ∨ d = 4095 ∨ trunkAddress = 0 then
        if cellSource u.bytes = 0 ∨ cellSource u.bytes = 4095 then .badSource else .admitted k
      else .notForPart
  else .badCheck

/-- R10: what is handed on of a data cell; the class only for DATA_ONLY and DATA_FIRST (log 24). The tag is the
Station Table's (R18). -/
def admittedCell (k : DataKind) (bytes : List Byte) (arrival : U32) (tag : Byte) : AdmittedCell :=
  { kind := k, source := cellSource bytes, channel := cellChannel bytes, sequence := cellSequence bytes,
    cls := match k with
      | .only => cellClass bytes
      | .first => cellClass bytes
      | .middle => 0
      | .last => 0,
    payload := cellPayload bytes, arrival := arrival, tag := tag }

/-- R13, R187: the seven header bytes of a HOLD or RELEASE cell. -/
def TxCell.header : TxCell → List Byte
  | .hold src d => [0x80, 0xFF, (0xF : BitVec 4) ++ src.extractLsb' 8 4, src.extractLsb' 0 8] ++ be16 d ++ [0]
  | .release src => [0x90, 0xFF, (0xF : BitVec 4) ++ src.extractLsb' 8 4, src.extractLsb' 0 8, 0, 0, 0]

/-- R13: the cell as it leaves the part, with its check code. -/
def TxCell.bytes (c : TxCell) : List Byte := c.header ++ be16 (crc16 c.header)

/-! ### Codes -/

/-- R170: the number of the slot of an event kind, one below its code. -/
def EventKind.slot : EventKind → Fin 22
  | .cellError => 0
  | .foreignStation => 1
  | .blockedStation => 2
  | .orphanCell => 3
  | .sequenceError => 4
  | .reassemblyTimeout => 5
  | .oversize => 6
  | .noContext => 7
  | .noBuffer => 8
  | .queueFull => 9
  | .memoryError => 10
  | .holdOn => 11
  | .holdOff => 12
  | .creditOverflow => 13
  | .requestDropped => 14
  | .editTimeout => 15
  | .commitDone => 16
  | .trunkDown => 17
  | .trunkUp => 18
  | .stationLearned => 19
  | .stationAged => 20
  | .uplinkFrameError => 21

/-- Section 9.5: the code of a status. -/
def Status.code : Status → Byte
  | .ok => 0
  | .badTag => 1
  | .badKind => 2
  | .badArg => 3
  | .badValue => 4
  | .noRight => 5
  | .busyEdit => 6
  | .noEdit => 7
  | .commitPending => 8
  | .invalidProgram => 9
  | .notFound => 10
  | .tableFull => 11
  | .holdActive => 12
  | .linkDown => 13
  | .restarted => 14
  | .retryTooLong => 15

/-- Section 9.5: the code of a request kind. -/
def RequestKind.code : RequestKind → Byte
  | .getStatus => 0x01
  | .getParam => 0x02
  | .setParam => 0x03
  | .setRights => 0x04
  | .softRestart => 0x05
  | .readStation => 0x10
  | .listStations => 0x11
  | .pinStation => 0x12
  | .unpinStation => 0x13
  | .removeStation => 0x14
  | .flushLearned => 0x15
  | .readContext => 0x18
  | .readPool => 0x19
  | .readClause => 0x20
  | .readHits => 0x21
  | .openEdit => 0x22
  | .writeClause => 0x23
  | .writeProbes => 0x24
  | .setDefault => 0x25
  | .setCount => 0x26
  | .commit => 0x27
  | .abortEdit => 0x28
  | .readQueue => 0x30
  | .haltQueue => 0x31
  | .restartQueue => 0x32
  | .flushQueue => 0x33
  | .sendHold => 0x38
  | .sendRelease => 0x39
  | .readCounters => 0x40
  | .clearCounters => 0x41
  | .setEvents => 0x42
  | .flushEvents => 0x43

/-- The request kinds of the catalogue (section 9.5). -/
def RequestKind.all : List RequestKind :=
  [.getStatus, .getParam, .setParam, .setRights, .softRestart, .readStation, .listStations, .pinStation,
   .unpinStation, .removeStation, .flushLearned, .readContext, .readPool, .readClause, .readHits, .openEdit,
   .writeClause, .writeProbes, .setDefault, .setCount, .commit, .abortEdit, .readQueue, .haltQueue, .restartQueue,
   .flushQueue, .sendHold, .sendRelease, .readCounters, .clearCounters, .setEvents, .flushEvents]

/-- R156 step 3: the request kind of a code; none for any other code. -/
def requestKind (code : Byte) : Option RequestKind := RequestKind.all.find? fun k => k.code == code

/-- Section 9.5: the argument bytes that a kind needs. -/
def RequestKind.argLength : RequestKind → Nat
  | .getStatus => 0
  | .getParam => 1
  | .setParam => 3
  | .setRights => 2
  | .softRestart => 0
  | .readStation => 2
  | .listStations => 1
  | .pinStation => 4
  | .unpinStation => 2
  | .removeStation => 2
  | .flushLearned => 0
  | .readContext => 1
  | .readPool => 0
  | .readClause => 2
  | .readHits => 1
  | .openEdit => 0
  | .writeClause => 13
  | .writeProbes => 8
  | .setDefault => 3
  | .setCount => 2
  | .commit => 0
  | .abortEdit => 0
  | .readQueue => 1
  | .haltQueue => 1
  | .restartQueue => 1
  | .flushQueue => 1
  | .sendHold => 2
  | .sendRelease => 0
  | .readCounters => 2
  | .clearCounters => 1
  | .setEvents => 2
  | .flushEvents => 0

/-- Section 9.5 and R156: whether `r` holds the right that a request of kind `k` with arguments `args` needs. -/
def RequestKind.allowedBy (k : RequestKind) (args : List Byte) (r : Rights) : Bool :=
  match k with
  | .getStatus => r.read
  | .getParam => r.read
  | .setParam => r.control
  | .setRights => r.supervisor
  | .softRestart => r.supervisor
  | .readStation => r.read
  | .listStations => r.read
  | .pinStation => r.control
  | .unpinStation => r.control
  | .removeStation => r.control
  | .flushLearned => r.control
  | .readContext => r.read
  | .readPool => r.read
  | .readClause => r.read
  | .readHits => r.read
  | .openEdit => r.edit
  | .writeClause => r.edit
  | .writeProbes => r.edit
  | .setDefault => r.edit
  | .setCount => r.edit
  | .commit => r.edit
  | .abortEdit => r.edit
  | .readQueue => r.read
  | .haltQueue => r.control
  | .restartQueue => r.control
  | .flushQueue => r.control
  | .sendHold => r.control
  | .sendRelease => r.control
  | .readCounters => if 2 ≤ args.length ∧ byteAt args 1 ≠ 0 then r.control else r.read
  | .clearCounters => r.control
  | .setEvents => r.control
  | .flushEvents => r.control

/-! ### Inbound frames -/

/-- What an inbound unit is under the checks of R183: a failure with its detail, or a frame to hand on. -/
inductive Inbound where
  | error (detail : U16)
  | request (r : Request)
  | credit (queue count : Byte)
  deriving DecidableEq, Repr

/-- R183 step 1. -/
def frameCheckGood (u : LaneUnit) : Bool :=
  decide (7 ≤ u.bytes.length) && decide (u.bytes.length ≤ 80) && !u.codingError
    && decide (crc32 (u.bytes.take (u.bytes.length - 4)) = word32At u.bytes (u.bytes.length - 4))

/-- The request in a REQUEST body (R187). -/
def requestOfBody (body : List Byte) : Request :=
  { tag := byteAt body 0, sequence := word16At body 1, kind := byteAt body 3, args := body.drop 6 }

/-- R183: the four checks in order, and the frame that passes them. -/
def checkInbound (u : LaneUnit) : Inbound :=
  if frameCheckGood u then
    let type := byteAt u.bytes 0
    let body := (u.bytes.drop 3).take (u.bytes.length - 7)
    if (word16At u.bytes 1).toNat = u.bytes.length - 7 then
      if type = 0x20 then
        if 6 ≤ body.length ∧ body.length = 6 + (word16At body 4).toNat then .request (requestOfBody body)
        else .error (type.zeroExtend 16)
      else if type = 0x21 then
        if body.length = 2 then .credit (byteAt body 0) (byteAt body 1) else .error (type.zeroExtend 16)
      else .error (type.zeroExtend 16)
    else .error (type.zeroExtend 16)
  else .error 0

/-! ### Outbound frames -/

/-- R183, R187: a frame of type `type` around `body`. -/
def frameBytes (type : Byte) (body : List Byte) : List Byte :=
  let unit := type :: natBe16 body.length ++ body
  unit ++ be32 (crc32 unit)

/-- R187: the RESPONSE frame of a response. -/
def Response.bytes (r : Response) : List Byte :=
  frameBytes 0x12 (r.tag :: be16 r.sequence ++ [r.kind, r.status.code] ++ natBe16 r.data.length ++ r.data)

/-- R187: one entry of an EVENT frame. -/
def EventEntry.bytes (e : EventEntry) : List Byte :=
  e.code :: be16 e.count ++ be16 e.detail ++ be32 e.firstTime

/-- R187: the EVENT frame of a snapshot. -/
def eventBytes (entries : List EventEntry) : List Byte :=
  frameBytes 0x11 (natByte entries.length :: entries.flatMap EventEntry.bytes)

/-- R187: the flags of a DELIVERY header: bit 0 mark, bit 1 replay, bit 2 mirrored. -/
def Record.flags (r : Record) : Byte :=
  boolByte r.mark ||| (boolByte r.replay <<< 1) ||| (boolByte r.mirrored <<< 2)

/-- R187: the code of a trailer status. -/
def Trailer.code : Trailer → Byte
  | .ok => 0
  | .abortedMemory => 1
  | .abortedRestart => 2

/-- R125, R187: the 16 header bytes of a DELIVERY body. -/
def deliveryHeader (queue : Fin 8) (r : Record) : List Byte :=
  [natByte queue.val, r.flags] ++ be16 r.messageId ++ be16 r.generation ++ be16 (r.station.zeroExtend 16)
    ++ [r.channel.zeroExtend 8, r.cls] ++ natBe16 r.length ++ be32 r.timestamp

/-- R125, R128, R130, R187: a DELIVERY frame whose payload bytes were `sent` and then zeros up to the length. -/
def deliveryBytes (queue : Fin 8) (r : Record) (sent : List Byte) (t : Trailer) : List Byte :=
  frameBytes 0x10 (deliveryHeader queue r ++ sent ++ List.replicate (r.length - sent.length) 0 ++ [t.code])

end Sys2Proof.Machine
end

