-- ==== Sys2Proof/Machine/Ops.lean ====
section
/-! DEFINITION. The operations that several steps share: timers, postings, the trunk transmitter, Hold Control, the
Block Pool, station reports, contexts, queue records, and the taking and answering of requests. -/

namespace Sys2Proof.Machine

/-! ### Fixed-size tables -/

/-- Apply `f` to every place of a table. -/
def mapTable {α β : Type} {n : Nat} (f : α → β) (v : Vector α n) : Vector β n :=
  ⟨⟨v.toList.map f⟩, by simp⟩

/-- The lowest place whose content satisfies `p`. -/
def firstPlace {α : Type} {n : Nat} (p : α → Bool) (v : Vector α n) : Option (Fin n) :=
  (List.finRange n).find? fun i => p v[i]

/-! ### Time -/

/-- R169: a timer's expiry, `micros` after `now`. -/
def expiryAfter (now : U32) (micros : Nat) : U32 := now + BitVec.ofNat 32 micros

/-- R169: the timebase has advanced to the expiry or past it, whether or not a wrap lies between (log 4). -/
def reached (now expiry : U32) : Bool := decide ((now - expiry).toNat < 2 ^ 31)

/-- The present timebase. -/
def State.now (s : State) : U32 := s.events.timebase

/-! ### Event Unit -/

/-- R170: the slot sum. -/
def EventUnit.sum (e : EventUnit) : Nat := (e.slots.toList.map fun x => x.count.toNat).sum

/-- R171: a posting to an enabled slot. -/
def EventSlot.record (now : U32) (detail : U16) (x : EventSlot) : EventSlot :=
  { x with firstTime := if x.count = 0 then now else x.firstTime, count := satInc x.count, detail := detail }

/-- R172: the expiry of a coalescing timer started now. -/
def EventUnit.coalesceExpiry (e : EventUnit) (p : Params) : U32 := expiryAfter e.timebase (100 * p.coalesceTime)

/-- R172: the due flag after the sum may have come to the coalesce count. -/
def EventUnit.testCount (e : EventUnit) (p : Params) : EventUnit :=
  { e with due := e.due || decide (p.coalesceCount ≤ e.sum) }

/-- R171, R172: a posting. With an EVENT frame in flight it is recorded only. -/
def EventUnit.post (inFlight : Bool) (p : Params) (k : EventKind) (detail : U16) (e : EventUnit) : EventUnit :=
  let old := e.slots[k.slot]
  if old.enabled then
    let recorded := { e with slots := e.slots.set k.slot (old.record e.timebase detail) }
    if inFlight || old.count == BitVec.allOnes 16 then recorded
    else
      let timed := if e.sum = 0 then { recorded with timer := some (e.coalesceExpiry p) } else recorded
      timed.testCount p
  else e

/-- R176: the test of the slot sum that follows the end of an EVENT frame. -/
def EventUnit.testAfterFrame (e : EventUnit) (p : Params) : EventUnit :=
  if p.coalesceCount ≤ e.sum then { e with due := true, flushNote := false }
  else if 0 < e.sum then
    if e.flushNote then { e with due := true, flushNote := false }
    else { e with timer := some (e.coalesceExpiry p), flushNote := false }
  else { e with flushNote := false }

/-- R176: a frame abandoned by UPLINK LOSS subtracts nothing. -/
def EventUnit.abandonFrame (e : EventUnit) (p : Params) : EventUnit :=
  let kept := mapTable (fun x : EventSlot => { x with subPending := 0 }) e.slots
  EventUnit.testAfterFrame { e with slots := kept } p

/-- R176: a frame sent whole subtracts its snapshot. -/
def EventUnit.finishFrame (e : EventUnit) (p : Params) : EventUnit :=
  let left := mapTable (fun x : EventSlot =>
    { x with count := BitVec.ofNat 16 (x.count.toNat - x.subPending.toNat), subPending := 0 }) e.slots
  EventUnit.testAfterFrame { e with slots := left } p

/-- R185: whether the frame in flight is the Event Unit's. -/
def Lane.isEvent : Lane → Bool
  | .event _ => true
  | .idle => false
  | .response _ => false
  | .delivery _ => false

namespace State

/-- R171: post `k` with `detail`. -/
def post (k : EventKind) (detail : U16) (s : State) : State :=
  s.withEvents (s.events.post s.uplink.lane.isEvent s.params k detail)

/-- Post an event whose detail is a station. -/
def postStation (k : EventKind) (a : Addr) (s : State) : State := s.post k (a.zeroExtend 16)

/-- Post an event whose detail is a number. -/
def postNat (k : EventKind) (n : Nat) (s : State) : State := s.post k (BitVec.ofNat 16 n)

/-! ### Trunk Transmitter -/

/-- R12: take a request to send a composed cell. -/
def transmit (c : TxCell) (s : State) : State :=
  match s.trunkRx.link with
  | .down => s
  | .up =>
    match s.trunkTx.inFlight with
    | none => s.withTrunkTx { s.trunkTx with inFlight := some c }
    | some _ => s.withTrunkTx { s.trunkTx with slot := some c }

/-- R12, R13: request a HOLD cell, composed with the trunk address in force. -/
def requestHold (duration : U16) (s : State) : State := s.transmit (.hold s.params.trunkAddress duration)

/-- R12, R13: request a RELEASE cell. -/
def requestRelease (s : State) : State := s.transmit (.release s.params.trunkAddress)

/-! ### Hold Controller -/

/-- R143, R145, R146: the refresh expiry for a hold of duration `d`: half of it, rounded down, in units of 10 µs. -/
def refreshExpiry (d : U16) (s : State) : U32 := expiryAfter s.now (10 * (d.toNat / 2))

/-- R143: begin a hold. -/
def beginHold (s : State) : State :=
  ((s.withHold { s.hold with mode := .holding (s.refreshExpiry s.params.holdDuration) }).requestHold
    s.params.holdDuration).postNat .holdOn s.hold.lastFree

/-- R144: end a hold. -/
def endHold (s : State) : State :=
  ((s.withHold { s.hold with mode := .quiet }).requestRelease).postNat .holdOff s.hold.lastFree

/-- R142: an evaluation, against F as last handed over. -/
def evaluateHold (s : State) : State :=
  match s.trunkRx.link, s.hold.mode with
  | .up, .quiet => if s.hold.lastFree < s.params.hOn then s.beginHold else s
  | .up, .holding _ => if s.params.hOff ≤ s.hold.lastFree then s.endHold else s
  | .down, .quiet => s
  | .down, .holding _ => s.withHold { s.hold with mode := .quiet }

/-- R39: hand a change of the free count to the Hold Controller. -/
def handFreeCount (s : State) : State :=
  (s.withHold { s.hold with lastFree := s.pool.free.length }).evaluateHold

end State

/-! ### Block Pool -/

namespace BlockPool

/-- The fields of block `b`. -/
def fields (p : BlockPool) (b : Nat) : BlockFields := Sparse.get BlockFields.unwritten p.blocks b

/-- The content bytes of block `b` (R34). -/
def blockContent (p : BlockPool) (b : Nat) : List Byte := Memory.read p.content (64 * b) (p.fields b).fill

/-- R45: whether block `b` verifies. -/
def verifies (p : BlockPool) (b : Nat) : Bool := decide (crc16 (p.blockContent b) = (p.fields b).check)

/-- The blocks from `b` along the links, at most `n` of them (R40). -/
def walk (p : BlockPool) : Nat → Nat → List Nat
  | 0, _ => []
  | n + 1, b =>
    b :: match (p.fields b).link with
      | none => []
      | some next => p.walk n next

/-- The blocks of a chain, head first (R40). -/
def chainBlocks (p : BlockPool) (c : Chain) : List Nat := p.walk c.count c.head

/-- R38: write bytes after the content of block `b`, which has room for them; the check code continues (R35). -/
def fillBlock (p : BlockPool) (b : Nat) (bytes : List Byte) (link : Option Nat) : BlockPool :=
  let f := p.fields b
  { p with
    content := Memory.write p.content (64 * b + f.fill) bytes,
    blocks := Sparse.set BlockFields.unwritten p.blocks b
      { fill := f.fill + bytes.length, link := link, check := crc16From f.check bytes } }

/-- R38: write bytes into a block taken from the free list: all four fields afresh. -/
def freshBlock (p : BlockPool) (b : Nat) (bytes : List Byte) : BlockPool :=
  { p with
    content := Memory.write p.content (64 * b) bytes,
    blocks := Sparse.set BlockFields.unwritten p.blocks b
      { fill := bytes.length, link := none, check := crc16 bytes } }

/-- R38: the storage request of one cell. None is the refusal, which changes nothing. -/
def store (p : BlockPool) (payload : List Byte) (chain : Option Chain) : Option (Chain × BlockPool) :=
  match chain with
  | none =>
    match p.free with
    | [] => none
    | b :: rest => some ({ head := b, tail := b, count := 1 }, { p with free := rest }.freshBlock b payload)
  | some c =>
    let room := 64 - (p.fields c.tail).fill
    if payload.length ≤ room then some (c, p.fillBlock c.tail payload (p.fields c.tail).link)
    else
      match p.free with
      | [] => none
      | b :: rest =>
        some ({ c with tail := b, count := c.count + 1 },
          (({ p with free := rest }.fillBlock c.tail (payload.take room) (some b)).freshBlock b
            (payload.drop room)))

/-- R41: a released chain joins the tail of the free list, head block first. -/
def release (p : BlockPool) (c : Chain) : BlockPool := { p with free := p.free ++ p.chainBlocks c }

/-- The chain entry of head block `h`; `ChainEntry.absent` where there is none. -/
def chainEntry (p : BlockPool) (h : Nat) : ChainEntry := Sparse.get ChainEntry.absent p.chains h

/-- Set, or with `ChainEntry.absent` remove, the chain entry of head block `h`. -/
def setChainEntry (p : BlockPool) (h : Nat) (e : ChainEntry) : BlockPool :=
  { p with chains := Sparse.set ChainEntry.absent p.chains h e }

/-- The chain that a head block names. -/
def chainOf (p : BlockPool) (h : Nat) : Chain :=
  { head := h, tail := (p.chainEntry h).tail, count := (p.chainEntry h).count }

/-- R40: message byte `o` of a chain whose blocks are `blocks`. -/
def messageByte (p : BlockPool) (blocks : List Nat) (o : Nat) : Byte :=
  Sparse.get 0 p.content (64 * blocks.getD (o / 64) 0 + o % 64)

/-- R126: the payload of a chain: the content of its blocks in order. -/
def payload (p : BlockPool) (c : Chain) : List Byte := (p.chainBlocks c).flatMap p.blockContent

/-- R45, R128: the payload before the first block of the chain that does not verify; none if every block does. -/
def damagedAfter (p : BlockPool) (c : Chain) : Option (List Byte) :=
  if (p.chainBlocks c).all p.verifies then none
  else some (((p.chainBlocks c).takeWhile p.verifies).flatMap p.blockContent)

end BlockPool

namespace State

/-- R39, R41: release a chain and hand the change of the free count on. -/
def releaseChain (c : Chain) (s : State) : State := (s.withPool (s.pool.release c)).handFreeCount

/-- R42: the chain leaves its context, named by `refs` records. -/
def adoptChain (c : Chain) (refs : Nat) (s : State) : State :=
  s.withPool (s.pool.setChainEntry c.head { tail := c.tail, count := c.count, refs := refs })

/-- R43: one record naming the chain of head block `h` is gone. -/
def dropReference (h : Nat) (s : State) : State :=
  let e := s.pool.chainEntry h
  if 2 ≤ e.refs then s.withPool (s.pool.setChainEntry h { e with refs := e.refs - 1 })
  else (s.withPool (s.pool.setChainEntry h .absent)).releaseChain (s.pool.chainOf h)

/-! ### Station Table -/

/-- The position of the entry for address `a`. -/
def findStation (a : Addr) (s : State) : Option (Fin 64) :=
  firstPlace (fun e => e.any fun x => x.address == a) s.stations.entries

/-- The entry for address `a`. -/
def stationEntry (a : Addr) (s : State) : Option StationEntry :=
  (s.findStation a).bind fun i => s.stations.entries[i]

/-- The lowest-numbered empty position (R17). -/
def emptyPosition (s : State) : Option (Fin 64) := firstPlace Option.isNone s.stations.entries

/-- Put `e` in position `i`. -/
def setEntry (i : Fin 64) (e : Option StationEntry) (s : State) : State :=
  s.withStations { s.stations with entries := s.stations.entries.set i e }

/-- R53: apply a report to the entry present for address `a`; without one it is not applied. -/
def reportStation (a : Addr) (f : StationEntry → StationEntry) (s : State) : State :=
  match s.findStation a with
  | none => s
  | some i => s.setEntry i (s.stations.entries[i].map f)

/-- R22, R53: the four reports of the Reassembly Unit. -/
def countOpen (a : Addr) (s : State) : State :=
  s.reportStation a fun e => { e with openCount := e.openCount + 1 }
def countClosed (a : Addr) (s : State) : State :=
  s.reportStation a fun e => { e with openCount := e.openCount - 1 }
def countCompleted (a : Addr) (s : State) : State :=
  s.reportStation a fun e => { e with completed := satInc e.completed }
def countError (a : Addr) (s : State) : State :=
  s.reportStation a fun e => { e with errors := satInc e.errors }

/-! ### Contexts -/

/-- Context `i`. -/
def context (i : Fin 48) (s : State) : Context := s.reassembly.contexts[i]

/-- Put `c` in context `i`. -/
def setContext (i : Fin 48) (c : Context) (s : State) : State :=
  s.withReassembly { s.reassembly with contexts := s.reassembly.contexts.set i c }

/-- Change what context `i` holds and keep its last abort reason. -/
def setBody (i : Fin 48) (b : ContextState) (s : State) : State :=
  s.setContext i { s.context i with body := b }

/-- Update the reassembly counters. -/
def countReassembly (f : ReassemblyCounters → ReassemblyCounters) (s : State) : State :=
  s.withReassembly { s.reassembly with counters := f s.reassembly.counters }

/-- R64: the expiry of a gap timer started now. -/
def gapExpiry (s : State) : U32 := expiryAfter s.now (1000 * s.params.gapLimit)

end State

/-- R51, R52: whether a context is OPEN or DISCARDING with the given key. -/
def ContextState.hasKey (a : Addr) (ch : Chan) : ContextState → Bool
  | .opened m _ _ => m.station == a && m.channel == ch
  | .discarding a' ch' _ => a' == a && ch' == ch
  | .free => false
  | .complete _ => false

/-- The station of an OPEN or DISCARDING context (R22). -/
def ContextState.openStation : ContextState → Option Addr
  | .opened m _ _ => some m.station
  | .discarding a _ _ => some a
  | .free => none
  | .complete _ => none

/-- The chain that a context holds (R51). -/
def ContextState.chain : ContextState → Option Chain
  | .opened m _ _ => some m.chain
  | .complete m => some m.chain
  | .free => none
  | .discarding _ _ _ => none

/-- R69: the global counter of an abort reason. -/
def AbortReason.count (r : AbortReason) (c : ReassemblyCounters) : ReassemblyCounters :=
  match r with
  | .none => c
  | .restart => { c with restart := satInc c.restart }
  | .sequence => { c with sequence := satInc c.sequence }
  | .timeout => { c with timeout := satInc c.timeout }
  | .oversize => { c with oversize := satInc c.oversize }
  | .noBuffer => { c with noBuffer := satInc c.noBuffer }
  | .flushed => { c with flushed := satInc c.flushed }
  | .trunkLoss => { c with trunkLoss := satInc c.trunkLoss }

/-- R69: the event that the abort of an OPEN context posts. -/
def AbortReason.event : AbortReason → Option EventKind
  | .sequence => some .sequenceError
  | .timeout => some .reassemblyTimeout
  | .oversize => some .oversize
  | .noBuffer => some .noBuffer
  | .none => Option.none
  | .restart => Option.none
  | .flushed => Option.none
  | .trunkLoss => Option.none

/-- R23, R69: whether the abort of an OPEN context counts in the station's error counter. -/
def AbortReason.isError : AbortReason → Bool
  | .restart => true
  | .sequence => true
  | .timeout => true
  | .oversize => true
  | .noBuffer => true
  | .none => false
  | .flushed => false
  | .trunkLoss => false

namespace State

/-- R69: the counting and posting of the abort of an OPEN context of station `a`. -/
def accountAbort (r : AbortReason) (a : Addr) (s : State) : State :=
  let counted := s.countReassembly r.count
  let reported := if r.isError then counted.countError a else counted
  match r.event with
  | some k => reported.postStation k a
  | none => reported

/-- R56 to R73: abort the OPEN context `i`, which holds `m`, and free it. -/
def abortToFree (i : Fin 48) (m : Message) (r : AbortReason) (s : State) : State :=
  (((s.setContext i { body := .free, lastAbort := r }).releaseChain m.chain).accountAbort r m.station).countClosed
    m.station

/-- R57, R61, R62: abort the OPEN context `i`, which holds `m`, to DISCARDING with its gap timer restarted. -/
def abortToDiscarding (i : Fin 48) (m : Message) (r : AbortReason) (s : State) : State :=
  ((s.setContext i { body := .discarding m.station m.channel s.gapExpiry, lastAbort := r }).releaseChain
    m.chain).accountAbort r m.station

/-- R56, R70, R73: end the DISCARDING context `i` of station `a` with reason `r`. -/
def endDiscarding (i : Fin 48) (a : Addr) (r : AbortReason) (s : State) : State :=
  ((s.setContext i { body := .free, lastAbort := r }).countReassembly r.count).countClosed a

/-- R70, R73: end context `i`, if it is OPEN or DISCARDING, with reason `r`. -/
def endContext (r : AbortReason) (i : Fin 48) (s : State) : State :=
  match (s.context i).body with
  | .opened m _ _ => s.abortToFree i m r
  | .discarding a _ _ => s.endDiscarding i a r
  | .free => s
  | .complete _ => s

/-- R70, R73: end the given contexts one after another. -/
def endContexts (r : AbortReason) (is : List (Fin 48)) (s : State) : State :=
  is.foldl (fun t i => t.endContext r i) s

/-! ### Delivery queues -/

/-- Queue `q`. -/
def queue (q : Fin 8) (s : State) : Queue := s.delivery.queues[q]

/-- Put `x` in place of queue `q`. -/
def setQueue (q : Fin 8) (x : Queue) (s : State) : State :=
  s.withDelivery { s.delivery with queues := s.delivery.queues.set q x }

/-- The charge of a record: the block count of its chain (R44). -/
def recordCharge (s : State) (r : Record) : Nat := (s.pool.chainEntry r.chain).count

/-- R119, R120: what the queue's list and charge become when `removed` leaves it and `kept` stays. -/
def keepRecords (q : Fin 8) (kept removed : List Record) (s : State) : State :=
  s.setQueue q { s.queue q with
    records := kept, charge := (s.queue q).charge - (removed.map s.recordCharge).sum }

/-- R43, R120: drop the references of removed records, in their order. -/
def dropReferences (removed : List Record) (s : State) : State :=
  removed.foldl (fun t r => t.dropReference r.chain) s

end State

/-- R122: whether a queue is eligible. -/
def Queue.eligible (x : Queue) : Bool :=
  decide (x.state = .running) && !x.records.isEmpty && decide (1 ≤ x.credit.toNat)

/-! ### The outbound arbiter -/

/-- The owners of outbound frames (R185). -/
inductive Owner where
  | management
  | event
  | delivery
  deriving DecidableEq, Repr

namespace State

/-- R122: whether any queue is eligible. -/
def anyEligible (s : State) : Bool := s.delivery.queues.toList.any Queue.eligible

/-- R185: the owner that the arbiter grants the lane to, if it makes a grant now. -/
def grant (s : State) : Option Owner :=
  if s.uplink.link = .up ∧ s.uplink.lane = .idle then
    if s.management.responses ≠ [] then some .management
    else if s.events.due then some .event
    else if s.anyEligible then some .delivery
    else none
  else none

/-- The outbound lane carries `l` from now on. -/
def setLane (l : Lane) (s : State) : State := s.withUplink { s.uplink with lane := l }

/-- R186: the frame in flight has left the lane whole. -/
def finishFrame (bytes : List Byte) (s : State) : State :=
  (s.setLane .idle).withOutputs { s.outputs with uplink := bytes :: s.outputs.uplink }

/-- R183, R184: count and post an uplink frame error. -/
def frameError (detail : U16) (s : State) : State :=
  (s.withUplink { s.uplink with frameErrors := satInc s.uplink.frameErrors }).post .uplinkFrameError detail

/-! ### Management Unit -/

/-- The session entry of tag `t`. -/
def session (t : Fin 4) (s : State) : Session := s.management.sessions[t]

/-- Put `x` in the session entry of tag `t`. -/
def setSession (t : Fin 4) (x : Session) (s : State) : State :=
  s.withManagement { s.management with sessions := s.management.sessions.set t x }

/-- R112: whether a commit is pending. -/
def commitPending (s : State) : Bool :=
  match s.program.edit with
  | .committing _ _ _ => true
  | .none => false
  | .editing _ _ _ => false

/-- R112, R155: the number of responses below which the Management Unit takes a request. -/
def responseLimit (s : State) : Nat := if s.commitPending then 7 else 8

/-- Place a response at the tail of the response queue (R154). -/
def queueResponse (r : Response) (s : State) : State :=
  s.withManagement { s.management with responses := s.management.responses ++ [r] }

/-- The head of the request FIFO leaves it (R155). -/
def popRequest (s : State) : State :=
  s.withManagement { s.management with fifo := s.management.fifo.tail }

/-- R159: the take accepts request `r` of tag `t`. -/
def acceptRequest (t : Fin 4) (r : Request) (s : State) : State :=
  s.popRequest.setSession t
    { s.session t with lastSequence := some r.sequence, inProgress := true, cached := none, awaitsSwap := false }

end State

/-- R159: what the cache keeps of a response. -/
def cacheEntry (kind : Byte) (st : Status) (data : List Byte) : CachedResponse :=
  if data.length ≤ 64 then .whole kind st data else .resendRefused kind st

namespace State

/-- R159: record a response in the entry of its tag, while the tag's last accepted sequence is still its own. -/
def cacheResponse (t : Fin 4) (seq : U16) (c : CachedResponse) (s : State) : State :=
  if (s.session t).lastSequence = some seq then
    s.setSession t { s.session t with inProgress := false, cached := some c, awaitsSwap := false }
  else s

/-- R110, R159: the request in progress of tag `t` is the COMMIT that is now pending. -/
def awaitSwap (t : Fin 4) (s : State) : State := s.setSession t { s.session t with awaitsSwap := true }

/-- R114, R116, R159: record the deferred answer of a pending COMMIT in the entry of its tag, unless the tag has had a
newer request accepted, whatever its number. -/
def cacheDeferred (t : Fin 4) (seq : U16) (c : CachedResponse) (s : State) : State :=
  if (s.session t).awaitsSwap then s.cacheResponse t seq c else s

/-- R154, R159: produce the response of an accepted request: queue it and cache it. -/
def respond (t : Fin 4) (seq : U16) (kind : Byte) (st : Status) (data : List Byte) (s : State) : State :=
  (s.queueResponse { tag := natByte t.val, sequence := seq, kind := kind, status := st, data := data }).cacheResponse
    t seq (cacheEntry kind st data)

/-- R114, R159: produce the deferred response of a COMMIT: queue it and, where the tag still waits for it, cache it. -/
def respondDeferred (t : Fin 4) (seq : U16) (data : List Byte) (s : State) : State :=
  (s.queueResponse { tag := natByte t.val, sequence := seq, kind := RequestKind.commit.code, status := .ok,
                     data := data }).cacheDeferred t seq (cacheEntry RequestKind.commit.code .ok data)

end State

/-- R156 step 1: the session that a tag names. -/
def sessionTag (b : Byte) : Option (Fin 4) := if h : b.toNat < 4 then some ⟨b.toNat, h⟩ else none

/-- What the next take of the Management Unit is, under R155 and steps 1 to 3 of R156. -/
inductive Take where
  | nothing
  | badTag (r : Request)
  | retry (t : Fin 4) (r : Request)
  | badKind (t : Fin 4) (r : Request)
  | request (t : Fin 4) (k : RequestKind) (r : Request)
  deriving DecidableEq, Repr

/-- R156 steps 1 to 3, for the request at the head of the FIFO. -/
def State.classify (s : State) (r : Request) : Take :=
  match sessionTag r.tag with
  | none => .badTag r
  | some t =>
    if (s.session t).lastSequence = some r.sequence then .retry t r
    else
      match requestKind r.kind with
      | none => .badKind t r
      | some k => .request t k r

/-- R155: the take that the Management Unit can make now. -/
def State.nextTake (s : State) : Take :=
  match s.management.unit, s.management.fifo with
  | .idle, r :: _ => if s.management.responses.length < s.responseLimit then s.classify r else .nothing
  | .idle, [] => .nothing
  | .executing _ _ _, _ => .nothing

/-- The answer of the block that owns a request: a status with its data, or none yet (R110, R155). -/
inductive Reply where
  | now (st : Status) (data : List Byte)
  | later
  deriving DecidableEq, Repr

/-- The owning block's part of a request: it sees the tag, the request, and the state after the take. -/
abbrev Execution := Fin 4 → Request → State → State × Reply

/-- A reply that leaves the state as it is. -/
def State.reply (s : State) (st : Status) (data : List Byte := []) : State × Reply := (s, .now st data)

/-- R156 steps 4 to 6: the right, the argument length, then the owning block; and the response, if there is one. -/
def State.perform (t : Fin 4) (k : RequestKind) (r : Request) (body : Execution) (s : State) : State :=
  if k.allowedBy r.args (s.session t).rights then
    if r.args.length = k.argLength then
      match body t r s with
      | (s', .now st data) => s'.respond t r.sequence r.kind st data
      | (s', .later) => s'
    else s.respond t r.sequence r.kind .badArg []
  else s.respond t r.sequence r.kind .noRight []

/-- R155: the Management Unit takes the head request if it is of kind `k` and `applies`, and has it carried out by
`body`. Otherwise the step is not the one that comes next and nothing happens (log 3). -/
def State.takeRequest (k : RequestKind) (applies : Request → Bool) (body : Execution) (s : State) : State :=
  match s.nextTake with
  | .request t k' r =>
    if k' = k ∧ applies r = true then (s.acceptRequest t r).perform t k r body else s
  | .nothing => s
  | .badTag _ => s
  | .retry _ _ => s
  | .badKind _ _ => s

/-- `takeRequest` for a kind that is one row of the table. -/
def State.take (k : RequestKind) (body : Execution) (s : State) : State := s.takeRequest k (fun _ => true) body

/-- Argument byte `i` and argument word at `i` of a request. -/
abbrev Request.byte (r : Request) (i : Nat) : Byte := byteAt r.args i
abbrev Request.word (r : Request) (i : Nat) : U16 := word16At r.args i

/-- The station address in argument word `i`, if it is 1 to 4,094. -/
def Request.station (r : Request) (i : Nat) : Option Addr :=
  let w := (r.word i).toNat
  if 1 ≤ w ∧ w ≤ 4094 then some (BitVec.ofNat 12 w) else none

/-- The queue in argument byte `i`, if it is 0 to 7. -/
def Request.queue (r : Request) (i : Nat) : Option (Fin 8) :=
  if h : (r.byte i).toNat < 8 then some ⟨(r.byte i).toNat, h⟩ else none

end Sys2Proof.Machine
end

