-- ==== Sys2Proof/Machine/Clock.lean ====
section
/-! DEFINITION. What the part does when no command waits (log 2): the work that it makes as soon as it can, and else
one microsecond of the timebase (R169) with the timers and the aging tick that it brings. -/

namespace Sys2Proof.Machine

/-- The row of a request kind; READ_CLAUSE is two rows, by its selector (log 14). -/
def RequestKind.command (k : RequestKind) (r : Request) : Instr :=
  match k with
  | .getStatus => .getStatus
  | .getParam => .getParam
  | .setParam => .setParam
  | .setRights => .setRights
  | .softRestart => .softRestart
  | .readStation => .readStation
  | .listStations => .listStations
  | .pinStation => .pinStation
  | .unpinStation => .unpinStation
  | .removeStation => .removeStation
  | .flushLearned => .flushLearned
  | .readContext => .readContext
  | .readPool => .readPool
  | .readClause => if r.byte 0 = 1 then .readClauseStaging else .readClauseActive
  | .readHits => .readHits
  | .openEdit => .openEdit
  | .writeClause => .writeClause
  | .writeProbes => .writeProbes
  | .setDefault => .setDefault
  | .setCount => .setCount
  | .commit => .commit
  | .abortEdit => .abortEdit
  | .readQueue => .readQueue
  | .haltQueue => .haltQueue
  | .restartQueue => .restartQueue
  | .flushQueue => .flushQueue
  | .sendHold => .sendHold
  | .sendRelease => .sendRelease
  | .readCounters => .readCounters
  | .clearCounters => .clearCounters
  | .setEvents => .setEvents
  | .flushEvents => .flushEvents

/-- R155, R156: the row of a take. -/
def Take.command : Take → Option Instr
  | .nothing => none
  | .badTag _ => some .badTag
  | .retry _ _ => some .retryMatch
  | .badKind _ _ => some .badKind
  | .request _ k r => some (k.command r)

/-- R21: the row of the item at the head of the stream. -/
def StreamItem.command : StreamItem → Instr
  | .removal _ => .removalWork
  | .cell c =>
    match c.kind with
    | .only => .dataOnly
    | .first => .dataFirst
    | .middle => .dataMiddle
    | .last => .dataLast

/-- R185: the row of a grant. -/
def Owner.command : Owner → Instr
  | .management => .responseFrameStart
  | .event => .eventFrameStart
  | .delivery => .deliveryFrameStart

namespace State

/-- R76, R113: the Classifier IDLE makes the swap of a pending commit, or takes the pending head. -/
def classifierWork (s : State) : Option Instr :=
  match s.classifier.state with
  | .classifying _ _ => none
  | .idle => if s.commitPending then some .swap else if s.reassembly.pendingList ≠ [] then some .classifierTake else none

/-- R21, R76, R113, R155, R185: the first piece of work that the part makes as soon as it can (log 2). -/
def readyWork (s : State) : Option Instr :=
  s.classifierWork <|> s.stream.head?.map StreamItem.command <|> s.nextTake.command <|> s.grant.map Owner.command

/-- R65, R109, R145, R172: whether a timer has reached its expiry. -/
def gapExpired (i : Fin 48) (s : State) : Bool :=
  match (s.context i).body with
  | .opened _ _ t => reached s.now t
  | .discarding _ _ t => reached s.now t
  | .free => false
  | .complete _ => false
def idleExpired (s : State) : Bool :=
  match s.program.edit with
  | .editing _ _ t => reached s.now t
  | .none => false
  | .committing _ _ _ => false
def refreshExpired (s : State) : Bool :=
  match s.hold.mode with
  | .holding t => reached s.now t
  | .quiet => false
def coalescingExpired (s : State) : Bool := s.events.timer.any (reached s.now)

/-- The expiries that the timebase has come to. MODEL's choice (log 2): the gap timers first, in ascending context
number, where R65 lets them be taken in any order; then the idle, the refresh and the coalescing timer. -/
def expiries (s : State) : List Instr :=
  ((List.finRange 48).filter fun i => s.gapExpired i).map Instr.gapTimerExpiry
    ++ (if s.idleExpired then [.idleTimerExpiry] else [])
    ++ (if s.refreshExpired then [.refreshTimerExpiry] else [])
    ++ (if s.coalescingExpired then [.coalescingTimerExpiry] else [])

/-- R169, R24: the timebase and the microseconds since the last aging tick, one microsecond later. -/
def advance (s : State) : State :=
  (s.withEvents { s.events with timebase := s.events.timebase + 1 }).withStations
    { s.stations with
      microsSinceTick := if s.stations.microsSinceTick + 1 < 1000000 then s.stations.microsSinceTick + 1 else 0 }

/-- R24: the aging tick that a microsecond brings, once per second. -/
def agingDue (s : State) : List Instr := if s.stations.microsSinceTick + 1 < 1000000 then [] else [.agingTick]

/-- The step on an empty queue (log 2). MODEL's choice (log 2): of what one microsecond brings, the aging tick is taken
first, ahead of the expiries. R25 lets the tick and the closing of a station's last context, so by a gap timer's expiry,
be taken in either order. -/
def idle (s : State) : State :=
  match s.readyWork with
  | some c => s.withPending [c]
  | none => s.advance.withPending (s.agingDue ++ s.advance.expiries)

end State

end Sys2Proof.Machine
end

