-- ==== Sys2Proof/Machine/Classification.lean ====
section
/-! DEFINITION. The Classifier: CLASSIFIER_TAKE, CLASSIFICATION_END and READ_HITS, with the evaluation of a rule
program (chapter 5). -/

namespace Sys2Proof.Machine

/-! ### Properties and probes -/

/-- R78: the property of a code; the codes of an active program are 0 to 9 (R82, log 18). -/
def Properties.value (p : Properties) (code : Byte) : U16 :=
  match code.toNat with
  | 0 => p.station
  | 1 => p.channel
  | 2 => p.cls
  | 3 => p.length
  | 4 => p.tag
  | 5 => p.probe0
  | 6 => p.probe1
  | 7 => p.probe2
  | 8 => p.probe3
  | 9 => p.shorts
  | _ => 0

/-- R79: what the read of one probe gives. -/
inductive ProbeRead where
  | value (v : U16)
  | short
  | damaged
  deriving DecidableEq, Repr

/-- R79: the value of a probe. -/
def ProbeRead.number : ProbeRead → U16
  | .value v => v
  | .short => 0
  | .damaged => 0

/-- R78: the bit of a probe in SHORTS. -/
def ProbeRead.shortBit (r : ProbeRead) (bit : U16) : U16 := if r = .short then bit else 0

/-- R79, R45: read one probe of a message of `length` bytes in a chain whose blocks are `blocks`. -/
def BlockPool.readProbe (p : BlockPool) (blocks : List Nat) (length : Nat) : Option U16 → ProbeRead
  | none => .value 0
  | some o =>
    let o := o.toNat
    if length < o + 2 then .short
    else if p.verifies (blocks.getD (o / 64) 0) && p.verifies (blocks.getD ((o + 1) / 64) 0) then
      .value (p.messageByte blocks o ++ p.messageByte blocks (o + 1))
    else .damaged

/-- R78 to R80: gather the properties of a message under program `g`. -/
def BlockPool.gather (p : BlockPool) (g : Program) (m : Message) : Gathered :=
  let blocks := p.chainBlocks m.chain
  let r0 := p.readProbe blocks m.byteCount g.probes[0]
  let r1 := p.readProbe blocks m.byteCount g.probes[1]
  let r2 := p.readProbe blocks m.byteCount g.probes[2]
  let r3 := p.readProbe blocks m.byteCount g.probes[3]
  if r0 = .damaged ∨ r1 = .damaged ∨ r2 = .damaged ∨ r3 = .damaged then .memoryError
  else .properties
    { station := m.station.zeroExtend 16, channel := m.channel.zeroExtend 16, cls := m.cls.zeroExtend 16,
      length := BitVec.ofNat 16 m.byteCount, tag := m.tag.zeroExtend 16,
      probe0 := r0.number, probe1 := r1.number, probe2 := r2.number, probe3 := r3.number,
      shorts := r0.shortBit 1 + r1.shortBit 2 + r2.shortBit 4 + r3.shortBit 8 }

/-! ### Evaluation -/

/-- R84: compare a property with an operand under a mask; the comparisons of an active program are 0 to 3. -/
def compareMasked (comparison : Byte) (p o m : U16) : Bool :=
  match comparison.toNat with
  | 0 => (p &&& m) == (o &&& m)
  | 1 => (p &&& m) != (o &&& m)
  | 2 => (o &&& m).ule (p &&& m)
  | 3 => (p &&& m).ult (o &&& m)
  | _ => false

/-- The clause in position `i`; the blank clause beyond the table. -/
def Program.clause (g : Program) (i : Nat) : Clause := g.clauses.toList.getD i Clause.blank

/-- What the evaluation of a message decides: the clauses whose hit counters it earned, in order, and the action;
none is the default action. -/
structure Verdict where
  hits : List Nat
  action : Option ClauseAction
  deriving DecidableEq, Repr

/-- Whether a clause is a GATE. -/
def Clause.isGate : Clause → Bool
  | .gate _ _ _ _ => true
  | .testAnd _ _ _ => false
  | .testEnd _ _ _ _ => false
  | .care _ => false

/-- R85, R87: the clause after the last clause of the term in which position `pos` lies; `fuel` positions are looked
at. -/
def Program.afterTerm (g : Program) : Nat → Nat → Nat
  | 0, pos => pos
  | fuel + 1, pos =>
    match g.clause pos with
    | .testEnd _ _ _ _ => pos + 1
    | .testAnd _ _ _ => if (g.clause (pos + 1)).isGate then pos + 1 else g.afterTerm fuel (pos + 1)
    | .care _ => if (g.clause (pos + 1)).isGate then pos + 1 else g.afterTerm fuel (pos + 1)
    | .gate _ _ _ _ => pos + 1

/-- R85 to R89: evaluation from position `pos` under Care Mask `mask`, having earned `hits`. Each clause moves
forward, so `fuel` of the clause count is enough. -/
def Program.evalFrom (g : Program) (x : Properties) : Nat → Nat → U16 → List Nat → Verdict
  | 0, _, _, hits => { hits := hits, action := none }
  | fuel + 1, pos, mask, hits =>
    if g.count ≤ pos then { hits := hits, action := none }
    else
      match g.clause pos with
      | .care m => g.evalFrom x fuel (pos + 1) m hits
      | .testAnd p c o =>
        if compareMasked c (x.value p) o mask then g.evalFrom x fuel (pos + 1) mask hits
        else g.evalFrom x fuel (g.afterTerm (g.count - pos) pos) 0xFFFF hits
      | .testEnd p c o a =>
        if compareMasked c (x.value p) o mask then
          if a = .none then g.evalFrom x fuel (pos + 1) 0xFFFF (hits ++ [pos])
          else { hits := hits ++ [pos], action := some a }
        else g.evalFrom x fuel (pos + 1) 0xFFFF hits
      | .gate p c o resume =>
        if compareMasked c (x.value p) o 0xFFFF then g.evalFrom x fuel (pos + 1) 0xFFFF hits
        else g.evalFrom x fuel resume.toNat 0xFFFF hits

/-- R87: evaluation of a message starts at clause 0 with the Care Mask at 65,535. -/
def Program.evaluate (g : Program) (x : Properties) : Verdict := g.evalFrom x g.count 0 0xFFFF []

/-! ### The end step -/

/-- One copy that an action offers: the queue, and whether it is the mirror copy (R92, R93). -/
structure Offer where
  queue : Fin 8
  mirrored : Bool
  deriving DecidableEq, Repr

/-- An offer to the queue of a number; none for a number above 7, which no active program holds (R82, log 18). -/
def offerTo (q : Byte) (mirrored : Bool) : List Offer :=
  if h : q.toNat < 8 then [{ queue := ⟨q.toNat, h⟩, mirrored := mirrored }] else []

/-- R83: the copies that an action offers, in order. -/
def ClauseAction.offers : ClauseAction → List Offer
  | .none => []
  | .deliver q _ => offerTo q false
  | .mirror q q2 _ => offerTo q false ++ offerTo q2 true
  | .discard _ => []

/-- R83: the MARK of an action. -/
def ClauseAction.mark : ClauseAction → Bool
  | .none => false
  | .deliver _ m => m
  | .mirror _ _ m => m
  | .discard m => m

/-- R89: the default action as an action. -/
def DefaultAction.action : DefaultAction → ClauseAction
  | .deliver q m => .deliver (natByte q.val) m
  | .discard => .discard false

/-- Whether an action is DISCARD (R94). -/
def ClauseAction.isDiscard : ClauseAction → Bool
  | .discard _ => true
  | .none => false
  | .deliver _ _ => false
  | .mirror _ _ _ => false

namespace State

/-- R90: apply the hit counter increments that a message earned. -/
def countHits (hits : List Nat) (s : State) : State :=
  s.withProgram { s.program with hits := hits.foldl (fun v i =>
    if h : i < 256 then v.set i (satInc v[i]) else v) s.program.hits }

/-- R92: the record of a copy. -/
def messageRecord (m : Message) (mark mirrored : Bool) (s : State) : Record :=
  { messageId := s.classifier.messageId, generation := s.program.generation, station := m.station,
    channel := m.channel, cls := m.cls, length := m.byteCount, timestamp := m.arrival, mark := mark,
    mirrored := mirrored, replay := false, chain := m.chain.head }

/-- R119: whether queue `q` accepts a copy of a message of `blocks` blocks. -/
def accepts (q : Fin 8) (blocks : Nat) (s : State) : Bool :=
  decide ((s.queue q).records.length + 1 ≤ 128) && decide ((s.queue q).charge + blocks ≤ s.params.blockLimits[q])

/-- R119: the record is appended. -/
def appendRecord (q : Fin 8) (blocks : Nat) (r : Record) (s : State) : State :=
  let x := s.queue q
  s.setQueue q { x with
    records := x.records ++ [r], charge := x.charge + blocks,
    counters := { x.counters with appended := satInc x.counters.appended } }

/-- R119: the copy is refused. -/
def refuseCopy (q : Fin 8) (s : State) : State :=
  let x := s.queue q
  (s.setQueue q { x with counters := { x.counters with droppedFull := satInc x.counters.droppedFull } }).postNat
    .queueFull q.val

/-- R92, R93, R119: offer one copy; the number counts the copies accepted so far. -/
def offerCopy (m : Message) (mark : Bool) (o : Offer) (st : Nat × State) : Nat × State :=
  if st.2.accepts o.queue m.chain.count then
    (st.1 + 1, st.2.appendRecord o.queue m.chain.count (st.2.messageRecord m mark o.mirrored))
  else (st.1, st.2.refuseCopy o.queue)

/-- R92, R93: offer the copies of an action in order. -/
def offerCopies (m : Message) (a : ClauseAction) (s : State) : Nat × State :=
  a.offers.foldl (fun st o => offerCopy m a.mark o st) (0, s)

/-- R95: the message ID counter after an end step that accepted `n` copies. -/
def takeMessageId (n : Nat) (s : State) : State :=
  if n = 0 then s else s.withClassifier { s.classifier with messageId := s.classifier.messageId + 1 }

/-- R42: the chain is released, or leaves its context with a reference count of `n`. -/
def disposeChain (c : Chain) (n : Nat) (s : State) : State :=
  if n = 0 then s.releaseChain c else s.adoptChain c n

/-- R96: the classifier counters of a message whose evaluation reached an action. -/
def countClassified (byDefault isDiscard : Bool) (s : State) : State :=
  let c := s.classifier
  s.withClassifier { c with
    classified := satInc c.classified,
    discarded := if isDiscard then satInc c.discarded else c.discarded,
    byDefault := if byDefault then satInc c.byDefault else c.byDefault }

/-- R91 step 7: the Classifier is IDLE. -/
def idleClassifier (s : State) : State := s.withClassifier { s.classifier with state := .idle }

/-- R91: the end step of a message whose evaluation reached an action. -/
def endEvaluated (i : Fin 48) (m : Message) (x : Properties) (s : State) : State :=
  let v := s.program.active.evaluate x
  let a := v.action.getD s.program.active.default.action
  let offered := (s.countHits v.hits).offerCopies m a
  ((((offered.2.takeMessageId offered.1).disposeChain m.chain offered.1).setBody i .free).countClassified
    v.action.isNone a.isDiscard).idleClassifier

/-- R80, R91: the end step after a memory error at a probe read. -/
def endDamaged (i : Fin 48) (m : Message) (s : State) : State :=
  let freed := ((s.releaseChain m.chain).setBody i .free).post .memoryError 0xFFFF
  (freed.withClassifier { freed.classifier with
    memoryErrors := satInc freed.classifier.memoryErrors }).idleClassifier

/-- R91: the end step; in IDLE there is no classification to end (log 3). -/
def classificationEnd (s : State) : State :=
  match s.classifier.state with
  | .idle => s
  | .classifying i g =>
    match (s.context i).body with
    | .complete m =>
      match g with
      | .properties x => s.endEvaluated i m x
      | .memoryError => s.endDamaged i m
    | .free => s
    | .opened _ _ _ => s
    | .discarding _ _ _ => s

/-- R68, R76, R78: the take of the pending head; with a condition of R76 missing nothing happens (log 3). -/
def classifierTake (s : State) : State :=
  match s.classifier.state, s.reassembly.pendingList with
  | .idle, i :: rest =>
    if s.commitPending then s
    else
      match (s.context i).body with
      | .complete m =>
        (s.withReassembly { s.reassembly with pendingList := rest }).withClassifier
          { s.classifier with state := .classifying i (s.pool.gather s.program.active m) }
      | .free => s
      | .opened _ _ _ => s
      | .discarding _ _ _ => s
  | .idle, [] => s
  | .classifying _ _, _ => s

/-- R98. -/
def readHits : Execution := fun _ r s =>
  let start := (r.byte 0).toNat
  let counters := (s.program.hits.toList.drop start).take 15
  s.reply .ok (be16 s.program.generation ++ [r.byte 0, natByte counters.length] ++ counters.flatMap be32)

end State

/-- R76 to R80. -/
def execClassifierTake (s : State) : Host.Outcome State Fault Refusal := .next s.classifierTake
/-- R91. -/
def execClassificationEnd (s : State) : Host.Outcome State Fault Refusal := .next s.classificationEnd
/-- R98. -/
def execReadHits (s : State) : Host.Outcome State Fault Refusal := .next (s.take .readHits State.readHits)

end Sys2Proof.Machine
end

