-- ==== Sys2Proof/Machine/DeliveryUnit.lean ====
section
/-! DEFINITION. The Delivery Unit: the scheduler, DELIVERY_FRAME_START, DELIVERY_FRAME_END, DELIVERY_MEMORY_ERROR and
the queue requests (chapter 7). -/

namespace Sys2Proof.Machine

/-! ### The scheduler -/

/-- R124: the queues after `c` in ascending order, wrapping, and last `c` itself. -/
def queuesAfter (c : Fin 8) : List (Fin 8) := (List.range 8).map fun k => Fin.ofNat 8 (c.val + 1 + k)

/-- R124: the scheduler's choice under the weights `w`: the queue, which becomes the current queue, and the remaining
turns. -/
def Delivery.choose (w : Vector Nat 8) (d : Delivery) : Option (Fin 8 × Nat) :=
  if d.queues[d.current].eligible ∧ 0 < d.turns then some (d.current, d.turns - 1)
  else ((queuesAfter d.current).find? fun q => d.queues[q].eligible).map fun q => (q, w[q] - 1)

namespace State

/-- R125: a DELIVERY frame starts from head record `r` of queue `q`. -/
def startDelivery (q : Fin 8) (turns : Nat) (r : Record) (s : State) : State :=
  let x := s.queue q
  let scheduled := s.withDelivery { s.delivery with current := q, turns := turns }
  (scheduled.setQueue q { x with inFlight := true, credit := x.credit - 1 }).setLane
    (.delivery { queue := q, header := r, payload := .streaming })

/-- R122, R124, R125, R185: the grant to the Delivery Unit; otherwise nothing happens (log 3). -/
def deliveryFrameStart (s : State) : State :=
  if s.grant = some .delivery then
    match s.delivery.choose s.params.weights with
    | some (q, turns) =>
      match (s.queue q).records with
      | r :: _ => s.startDelivery q turns r
      | [] => s
    | none => s
  else s

/-- R120: the head record leaves queue `q`, with its charge and its reference. -/
def removeHead (q : Fin 8) (s : State) : State :=
  match (s.queue q).records with
  | [] => s
  | r :: rest => (s.keepRecords q rest [r]).dropReferences [r]

/-- R127: the counters of a frame delivered whole. -/
def countDelivered (length : Nat) (c : QueueCounters) : QueueCounters :=
  { c with delivered := satInc c.delivered, deliveredBytes := satAdd c.deliveredBytes length }

/-- Clear the in-flight mark of queue `q` and update its counters. -/
def closeFlight (q : Fin 8) (f : QueueCounters → QueueCounters) (s : State) : State :=
  s.setQueue q { s.queue q with inFlight := false, counters := f (s.queue q).counters }

/-- R126, R127: the end of a frame that has streamed its chain; while a block of the chain does not verify the frame
does not come to this end but to DELIVERY_MEMORY_ERROR (R128, log 10). -/
def endStreamed (f : DeliveryFrame) (s : State) : State :=
  let c := s.pool.chainOf f.header.chain
  match s.pool.damagedAfter c with
  | some _ => s
  | none =>
    let sent := (s.pool.payload c).take f.header.length
    ((s.closeFlight f.queue (countDelivered f.header.length)).removeHead f.queue).finishFrame
      (deliveryBytes f.queue f.header sent .ok)

/-- R127, R128, R130, R186: the trailer of a DELIVERY frame has left the lane. -/
def deliveryFrameEnd (s : State) : State :=
  match s.uplink.lane with
  | .delivery f =>
    match f.payload with
    | .streaming => s.endStreamed f
    | .cut sent t => s.finishFrame (deliveryBytes f.queue f.header sent t)
  | .idle => s
  | .response _ => s
  | .event _ => s

/-- R128: a memory error in the frame `f`, whose bytes before the damaged block are `sent`. -/
def haltOnDamage (f : DeliveryFrame) (sent : List Byte) (s : State) : State :=
  let removed := (s.closeFlight f.queue fun c => { c with memoryErrors := satInc c.memoryErrors }).removeHead f.queue
  ((removed.setQueue f.queue { removed.queue f.queue with state := .halted .memory }).setLane
    (.delivery { f with payload := .cut sent .abortedMemory })).postNat .memoryError f.queue.val

/-- R45, R128: the Block Pool reports a block that does not verify, the first of its chain; with none nothing happens
(log 3). -/
def deliveryMemoryError (s : State) : State :=
  match s.uplink.lane with
  | .delivery f =>
    match f.payload with
    | .streaming =>
      match s.pool.damagedAfter (s.pool.chainOf f.header.chain) with
      | some sent => s.haltOnDamage f sent
      | none => s
    | .cut _ _ => s
  | .idle => s
  | .response _ => s
  | .event _ => s

/-! ### Queue requests -/

/-- R131: a request whose argument is a queue number. -/
def forQueue (r : Request) (f : Fin 8 → State → State × Reply) (s : State) : State × Reply :=
  match r.queue 0 with
  | none => s.reply .badValue
  | some q => f q s

/-- R132. -/
def haltQueue : Execution := fun _ r s =>
  s.forQueue r fun q s => (s.setQueue q { s.queue q with state := .halted .manager }).reply .ok

/-- R133. -/
def restartQueue : Execution := fun _ r s =>
  s.forQueue r fun q s => (s.setQueue q { s.queue q with state := .running }).reply .ok

end State

/-- R134: the records that a flush keeps and removes: an in-flight head stays. -/
def Queue.flushed (x : Queue) : List Record × List Record :=
  if x.inFlight then (x.records.take 1, x.records.drop 1) else ([], x.records)

namespace State

/-- R134. -/
def flushQueue : Execution := fun _ r s =>
  s.forQueue r fun q s =>
    let (kept, removed) := (s.queue q).flushed
    let left := s.keepRecords q kept removed
    let counted := left.setQueue q { left.queue q with
      counters := { (left.queue q).counters with
        flushed := satAdd (left.queue q).counters.flushed removed.length } }
    (counted.dropReferences removed).reply .ok [natByte removed.length]

end State

/-- R135: the codes of a queue's state and halt reason. -/
def QueueState.code : QueueState → Byte
  | .running => 0
  | .halted _ => 1
def QueueState.reasonCode : QueueState → Byte
  | .running => 0
  | .halted .memory => 1
  | .halted .manager => 2

/-- R136: the counters of a queue in the order of R177. -/
def QueueCounters.list (c : QueueCounters) : List Counter :=
  [c.appended, c.droppedFull, c.delivered, c.deliveredBytes, c.memoryErrors, c.flushed]

namespace State

/-- R135: the 40 bytes of READ_QUEUE. -/
def queueBytes (q : Fin 8) (s : State) : List Byte :=
  let x := s.queue q
  [natByte q.val, x.state.code, x.state.reasonCode, natByte x.records.length, x.credit, natByte s.params.weights[q]]
    ++ natBe16 s.params.blockLimits[q] ++ natBe16 x.charge ++ [boolByte x.inFlight]
    ++ be16 ((x.records.head?.map Record.messageId).getD 0)
    ++ [boolByte (x.records.head?.any Record.replay), natByte s.delivery.current.val, natByte s.delivery.turns]
    ++ x.counters.list.flatMap be32

/-- R135. -/
def readQueue : Execution := fun _ r s => s.forQueue r fun q s => s.reply .ok (s.queueBytes q)

end State

/-- R124, R125. -/
def execDeliveryFrameStart (s : State) : Host.Outcome State Fault Refusal := .next s.deliveryFrameStart
/-- R127. -/
def execDeliveryFrameEnd (s : State) : Host.Outcome State Fault Refusal := .next s.deliveryFrameEnd
/-- R128. -/
def execDeliveryMemoryError (s : State) : Host.Outcome State Fault Refusal := .next s.deliveryMemoryError
/-- R135. -/
def execReadQueue (s : State) : Host.Outcome State Fault Refusal := .next (s.take .readQueue State.readQueue)
/-- R132. -/
def execHaltQueue (s : State) : Host.Outcome State Fault Refusal := .next (s.take .haltQueue State.haltQueue)
/-- R133. -/
def execRestartQueue (s : State) : Host.Outcome State Fault Refusal := .next (s.take .restartQueue State.restartQueue)
/-- R134. -/
def execFlushQueue (s : State) : Host.Outcome State Fault Refusal := .next (s.take .flushQueue State.flushQueue)

end Sys2Proof.Machine
end

