-- ==== Sys2Proof/Machine/Events.lean ====
section
/-! DEFINITION. Events and statistics: COALESCING_TIMER_EXPIRY, SET_EVENTS, FLUSH_EVENTS, READ_COUNTERS and
CLEAR_COUNTERS (chapter 10). -/

namespace Sys2Proof.Machine

/-! ### Events -/

/-- R172: the coalescing timer; without a running timer that has reached its expiry nothing happens (log 3). -/
def EventUnit.expire (e : EventUnit) : EventUnit :=
  match e.timer with
  | some t => if reached e.timebase t then { e with due := true, timer := none } else e
  | none => e

/-- R173: enable slot `i`. -/
def EventUnit.enable (i : Fin 22) (e : EventUnit) : EventUnit :=
  { e with slots := e.slots.set i { e.slots[i] with enabled := true } }

/-- R172, R173: disable slot `i`; a sum that falls to 0 clears the due flag and stops the timer. -/
def EventUnit.disable (i : Fin 22) (e : EventUnit) : EventUnit :=
  if e.slots[i].enabled then
    let off := { e with slots := e.slots.set i { e.slots[i] with enabled := false, count := 0, subPending := 0 } }
    if 0 < e.sum ∧ off.sum = 0 then { off with due := false, timer := none } else off
  else e

/-- R174: a flush; with a frame in flight it is noted. -/
def EventUnit.flush (inFlight : Bool) (e : EventUnit) : EventUnit :=
  if inFlight then { e with flushNote := true }
  else if 0 < e.sum then { e with due := true, timer := none }
  else e

/-- R173: the slot of the kind in argument byte `i`, if it is 1 to 22. -/
def Request.slot (r : Request) (i : Nat) : Option (Fin 22) :=
  if h : 1 ≤ (r.byte i).toNat ∧ (r.byte i).toNat ≤ 22 then some ⟨(r.byte i).toNat - 1, by omega⟩ else none

namespace State

/-- R172. -/
def coalescingTimerExpiry (s : State) : State := s.withEvents s.events.expire

/-- R173. -/
def setEvents : Execution := fun _ r s =>
  match r.slot 0 with
  | none => s.reply .badValue
  | some i =>
    if r.byte 1 = 1 then (s.withEvents (s.events.enable i)).reply .ok
    else if r.byte 1 = 0 then (s.withEvents (s.events.disable i)).reply .ok
    else s.reply .badValue

/-- R174. -/
def flushEvents : Execution := fun _ _ s => (s.withEvents (s.events.flush s.uplink.lane.isEvent)).reply .ok

end State

/-! ### Counter groups -/

/-- The counter groups 1 to 7 (R177). -/
inductive Group where
  | receive
  | lookup
  | reassembly
  | classifier
  | queue
  | link
  | station
  deriving DecidableEq, Repr

/-- R177: the group of a number. -/
def groupOf (b : Byte) : Option Group :=
  match b.toNat with
  | 1 => some .receive
  | 2 => some .lookup
  | 3 => some .reassembly
  | 4 => some .classifier
  | 5 => some .queue
  | 6 => some .link
  | 7 => some .station
  | _ => none

/-- R71, R177: the reassembly counters in order. -/
def ReassemblyCounters.list (c : ReassemblyCounters) : List Counter :=
  [c.orphan, c.duplicate, c.discarded, c.completed, c.restart, c.sequence, c.timeout, c.oversize, c.noBuffer,
   c.noContext, c.flushed, c.trunkLoss]

/-- R23, R179: the three counters of an entry at 0. -/
def StationEntry.clearCounters (e : StationEntry) : StationEntry :=
  { e with accepted := 0, completed := 0, errors := 0 }

/-- R136, R179: the six counters of a queue at 0. -/
def Queue.clearCounters (x : Queue) : Queue :=
  { x with counters := { appended := 0, droppedFull := 0, delivered := 0, deliveredBytes := 0, memoryErrors := 0,
                         flushed := 0 } }

/-- R178: an entry of the Station Table in the data of group 7. -/
def StationEntry.counterBytes (i : Fin 64) (e : StationEntry) : List Byte :=
  [natByte i.val] ++ be16 (e.address.zeroExtend 16) ++ be32 e.accepted ++ be32 e.completed ++ be32 e.errors

namespace State

/-- R177: the counters of groups 1 to 6 in order. -/
def counterList (g : Group) (s : State) : List Counter :=
  match g with
  | .receive =>
    [s.trunkRx.received, s.trunkRx.badCheck, s.trunkRx.badFormat, s.trunkRx.notData, s.trunkRx.notForPart]
  | .lookup => [s.stations.foreign, s.stations.blocked]
  | .reassembly => s.reassembly.counters.list
  | .classifier =>
    [s.classifier.classified, s.classifier.discarded, s.classifier.byDefault, s.classifier.memoryErrors]
  | .queue => s.delivery.queues.toList.flatMap fun x => x.counters.list
  | .link => [s.trunkTx.holdSent, s.trunkTx.releaseSent, s.uplink.frameErrors, s.management.dropped]
  | .station => []

/-- R178, R177: the entries of the Station Table in ascending position order. -/
def presentEntries (s : State) : List (Fin 64 × StationEntry) :=
  (List.finRange 64).filterMap fun i => s.stations.entries[i].map fun e => (i, e)

/-- R178: the data of READ_COUNTERS after the group number. -/
def counterData (g : Group) (s : State) : List Byte :=
  match g with
  | .station =>
    natByte s.presentEntries.length :: s.presentEntries.flatMap fun x => x.2.counterBytes x.1
  | .receive => (s.counterList .receive).flatMap be32
  | .lookup => (s.counterList .lookup).flatMap be32
  | .reassembly => (s.counterList .reassembly).flatMap be32
  | .classifier => (s.counterList .classifier).flatMap be32
  | .queue => (s.counterList .queue).flatMap be32
  | .link => (s.counterList .link).flatMap be32

/-- R178, R179: every counter of a group at 0, each at its owner. -/
def clearGroup (g : Group) (s : State) : State :=
  match g with
  | .receive =>
    s.withTrunkRx { s.trunkRx with received := 0, badCheck := 0, badFormat := 0, notData := 0, notForPart := 0 }
  | .lookup => s.withStations { s.stations with foreign := 0, blocked := 0 }
  | .reassembly => s.withReassembly { s.reassembly with counters := .zero }
  | .classifier =>
    s.withClassifier { s.classifier with classified := 0, discarded := 0, byDefault := 0, memoryErrors := 0 }
  | .queue => s.withDelivery { s.delivery with queues := mapTable Queue.clearCounters s.delivery.queues }
  | .link =>
    ((s.withTrunkTx { s.trunkTx with holdSent := 0, releaseSent := 0 }).withUplink
      { s.uplink with frameErrors := 0 }).withManagement { s.management with dropped := 0 }
  | .station =>
    s.withStations { s.stations with
      entries := mapTable (Option.map StationEntry.clearCounters) s.stations.entries }

/-- R178. -/
def readCounters : Execution := fun _ r s =>
  match groupOf (r.byte 0) with
  | none => s.reply .badValue
  | some g =>
    let data := r.byte 0 :: s.counterData g
    if r.byte 1 = 0 then s.reply .ok data
    else if r.byte 1 = 1 then (s.clearGroup g).reply .ok data
    else s.reply .badValue

/-- R179. -/
def clearCounters : Execution := fun _ r s =>
  match groupOf (r.byte 0) with
  | none => s.reply .badValue
  | some g => (s.clearGroup g).reply .ok

end State

/-- R172. -/
def execCoalescingTimerExpiry (s : State) : Host.Outcome State Fault Refusal := .next s.coalescingTimerExpiry
/-- R178. -/
def execReadCounters (s : State) : Host.Outcome State Fault Refusal := .next (s.take .readCounters State.readCounters)
/-- R179. -/
def execClearCounters (s : State) : Host.Outcome State Fault Refusal :=
  .next (s.take .clearCounters State.clearCounters)
/-- R173. -/
def execSetEvents (s : State) : Host.Outcome State Fault Refusal := .next (s.take .setEvents State.setEvents)
/-- R174. -/
def execFlushEvents (s : State) : Host.Outcome State Fault Refusal := .next (s.take .flushEvents State.flushEvents)

end Sys2Proof.Machine
end

