-- ==== Sys2Proof/Machine/Hold.lean ====
section
/-! DEFINITION. Hold Control: REFRESH_TIMER_EXPIRY, SEND_HOLD and SEND_RELEASE (chapter 8). -/

namespace Sys2Proof.Machine

namespace State

/-- R145: the refresh timer; without a running timer that has reached its expiry nothing happens (log 3). -/
def refreshTimerExpiry (s : State) : State :=
  match s.hold.mode with
  | .quiet => s
  | .holding t =>
    if reached s.now t then
      (s.withHold { s.hold with mode := .holding (s.refreshExpiry s.params.holdDuration) }).requestHold
        s.params.holdDuration
    else s

/-- R146: a HOLD of duration `d` restarts a running refresh timer at half of `d`. -/
def manualHold (d : U16) (s : State) : State :=
  match s.hold.mode with
  | .quiet => s.requestHold d
  | .holding _ => (s.withHold { s.hold with mode := .holding (s.refreshExpiry d) }).requestHold d

/-- R146. -/
def sendHold : Execution := fun _ r s =>
  if (r.word 0).toNat ≤ 1 then s.reply .badValue
  else
    match s.trunkRx.link with
    | .down => s.reply .linkDown
    | .up => (s.manualHold (r.word 0)).reply .ok

/-- R147. -/
def sendRelease : Execution := fun _ _ s =>
  match s.hold.mode, s.trunkRx.link with
  | .holding _, _ => s.reply .holdActive
  | .quiet, .up => s.requestRelease.reply .ok
  | .quiet, .down => s.reply .linkDown

end State

/-- R145. -/
def execRefreshTimerExpiry (s : State) : Host.Outcome State Fault Refusal := .next s.refreshTimerExpiry
/-- R146. -/
def execSendHold (s : State) : Host.Outcome State Fault Refusal := .next (s.take .sendHold State.sendHold)
/-- R147. -/
def execSendRelease (s : State) : Host.Outcome State Fault Refusal := .next (s.take .sendRelease State.sendRelease)

end Sys2Proof.Machine
end

