-- ==== Sys2Proof/Machine/Program.lean ====
section
/-! DEFINITION. The Program Store: SWAP, IDLE_TIMER_EXPIRY, READ_CLAUSE and the editing requests (chapter 6; R97). -/

namespace Sys2Proof.Machine

/-! ### Clauses as bytes -/

/-- R97: kind, property, comparison, operand or mask, link, action, queue, mirror queue, mark and resume index. -/
def ClauseAction.bytes : ClauseAction → List Byte
  | .none => [0, 0, 0, 0]
  | .deliver q m => [1, q, 0, boolByte m]
  | .mirror q q2 m => [2, q, q2, boolByte m]
  | .discard m => [3, 0, 0, boolByte m]

/-- R97: a clause as READ_CLAUSE reports it; what its kind does not use is 0. -/
def Clause.bytes : Clause → List Byte
  | .testAnd p c o => [0, p, c] ++ be16 o ++ [0] ++ List.replicate 6 0
  | .testEnd p c o a => [0, p, c] ++ be16 o ++ [1] ++ a.bytes ++ [0, 0]
  | .care m => [1, 0, 0] ++ be16 m ++ List.replicate 7 0
  | .gate p c o r => [2, p, c] ++ be16 o ++ List.replicate 5 0 ++ be16 r

/-- R97: the default action, its queue and its mark. -/
def DefaultAction.bytes : DefaultAction → List Byte
  | .deliver q m => [1, natByte q.val, boolByte m]
  | .discard => [3, 0, 0]

/-- R97: the 29 bytes of a READ_CLAUSE answer. -/
def Program.clauseBytes (g : Program) (selector : Byte) (generation : U16) (pos : Byte) : List Byte :=
  [selector] ++ be16 generation ++ natBe16 g.count ++ g.default.bytes
    ++ g.probes.toList.flatMap (fun o => be16 (o.getD 0xFFFF)) ++ [pos] ++ (g.clause pos.toNat).bytes

/-- R103: the action of a TEST with link END in the arguments of WRITE_CLAUSE. -/
def Request.clauseAction (r : Request) : ClauseAction :=
  match (r.byte 7).toNat with
  | 0 => .none
  | 1 => .deliver (r.byte 8) (r.byte 10 == 1)
  | 2 => .mirror (r.byte 8) (r.byte 9) (r.byte 10 == 1)
  | _ => .discard (r.byte 10 == 1)

/-- R103: the clause in the arguments of WRITE_CLAUSE with the fields its kind uses; none is BAD_VALUE. -/
def Request.clause (r : Request) : Option Clause :=
  if (r.byte 1).toNat ≤ 2 ∧ (r.byte 6).toNat ≤ 1 ∧ (r.byte 7).toNat ≤ 3 ∧ (r.byte 10).toNat ≤ 1 then
    match (r.byte 1).toNat with
    | 0 =>
      if r.byte 6 = 0 then some (.testAnd (r.byte 2) (r.byte 3) (r.word 4))
      else some (.testEnd (r.byte 2) (r.byte 3) (r.word 4) r.clauseAction)
    | 1 => some (.care (r.word 4))
    | _ => some (.gate (r.byte 2) (r.byte 3) (r.word 4) (r.word 11))
  else none

/-- R104: the probe of an offset word; 65,535 makes it absent. -/
def probeOf (w : U16) : Option U16 := if w = 0xFFFF then none else some w

/-- R105: the default action in the arguments of SET_DEFAULT; none is BAD_VALUE. -/
def Request.defaultAction (r : Request) : Option DefaultAction :=
  match r.queue 1 with
  | none => none
  | some q =>
    if (r.byte 2).toNat ≤ 1 then
      if r.byte 0 = 1 then some (.deliver q (r.byte 2 == 1))
      else if r.byte 0 = 3 then some .discard
      else none
    else none

/-! ### Validation -/

/-- R111 check 6: whether the first clause from `pos` on that is not a CARE is a TEST; `fuel` positions are left
before the clause count. -/
def Program.careUsed (g : Program) : Nat → Nat → Bool
  | 0, _ => false
  | fuel + 1, pos =>
    match g.clause pos with
    | .care _ => g.careUsed fuel (pos + 1)
    | .testAnd _ _ _ => true
    | .testEnd _ _ _ _ => true
    | .gate _ _ _ _ => false

/-- R111 checks 3 and 4: the queue numbers of an action. -/
def ClauseAction.fault : ClauseAction → Option Byte
  | .none => Option.none
  | .discard _ => Option.none
  | .deliver q _ => if 7 < q.toNat then some 3 else Option.none
  | .mirror q q2 _ => if 7 < q.toNat ∨ 7 < q2.toNat then some 3 else if q = q2 then some 4 else Option.none

/-- R111: the reason of the first check that the clause in position `pos` fails. -/
def Program.clauseFault (g : Program) (pos : Nat) : Option Byte :=
  match g.clause pos with
  | .testAnd p c _ =>
    if 9 < p.toNat then some 1 else if 3 < c.toNat then some 2 else if pos + 1 = g.count then some 7 else none
  | .testEnd p c _ a => if 9 < p.toNat then some 1 else if 3 < c.toNat then some 2 else a.fault
  | .gate p c _ r =>
    if 9 < p.toNat then some 1 else if 3 < c.toNat then some 2
    else if r.toNat ≤ pos ∨ g.count < r.toNat then some 5 else none
  | .care _ => if g.careUsed (g.count - (pos + 1)) (pos + 1) then none else some 6

/-- R111 check 8: whether a probe present has an offset above 4,094. -/
def probeFault (o : Option U16) : Bool := o.any fun x => decide (4094 < x.toNat)

/-- R111: the failing item and reason of a program; none is a valid program. -/
def Program.fault (g : Program) : Option (Nat × Byte) :=
  match (List.range g.count).findSome? fun pos => (g.clauseFault pos).map fun reason => (pos, reason) with
  | some f => some f
  | none => ((List.range 4).find? fun i => probeFault (g.probes.toList.getD i none)).map fun i => (256 + i, 8)

namespace State

/-- Set the edit state. -/
def setEdit (e : EditState) (s : State) : State := s.withProgram { s.program with edit := e }

/-- R109: the expiry of an idle timer started now: 10 s. -/
def idleExpiry (s : State) : U32 := expiryAfter s.now 10000000

/-! ### The swap -/

/-- R113, R114: with a commit pending and the Classifier IDLE, the swap; otherwise nothing happens (log 3). -/
def swap (s : State) : State :=
  match s.program.edit, s.classifier.state with
  | .committing h g seq, .idle =>
    let generation := s.program.generation + 1
    ((s.withProgram { active := g, generation := generation, hits := Vector.replicate 256 0, edit := .none }).post
      .commitDone generation).respondDeferred h seq (be16 generation)
  | .committing _ _ _, .classifying _ _ => s
  | .none, _ => s
  | .editing _ _ _, _ => s

/-- R109: the idle timer; without a running timer that has reached its expiry nothing happens (log 3). -/
def idleTimerExpiry (s : State) : State :=
  match s.program.edit with
  | .editing h _ t => if reached s.now t then (s.setEdit .none).postNat .editTimeout h.val else s
  | .none => s
  | .committing _ _ _ => s

/-! ### The requests -/

/-- R97. -/
def readClauseActive : Execution := fun _ r s =>
  if r.byte 0 = 0 then s.reply .ok (s.program.active.clauseBytes 0 s.program.generation (r.byte 1))
  else s.reply .badValue

/-- R107. -/
def readClauseStaging : Execution := fun _ r s =>
  match s.program.edit with
  | .none => s.reply .noEdit
  | .editing _ g _ => s.reply .ok (g.clauseBytes 1 s.program.generation (r.byte 1))
  | .committing _ g _ => s.reply .ok (g.clauseBytes 1 s.program.generation (r.byte 1))

/-- R102. -/
def openEdit : Execution := fun t _ s =>
  match s.program.edit with
  | .none => (s.setEdit (.editing t s.program.active s.idleExpiry)).reply .ok (be16 s.program.generation)
  | .editing _ _ _ => s.reply .busyEdit
  | .committing _ _ _ => s.reply .busyEdit

/-- R101 checks 2 and 3, then a change `f` of the edit state of the holder's session. -/
def forHolder (t : Fin 4) (f : Program → State → State × Reply) (s : State) : State × Reply :=
  match s.program.edit with
  | .none => s.reply .noEdit
  | .editing h g _ => if h = t then f g s else s.reply .noEdit
  | .committing h _ _ => if h = t then s.reply .commitPending else s.reply .noEdit

/-- R109: a writing request that succeeds changes the staging program and restarts the idle timer. -/
def writeStaging (t : Fin 4) (f : Program → Program) (s : State) : State × Reply :=
  s.forHolder t fun g s => (s.setEdit (.editing t (f g) s.idleExpiry)).reply .ok

/-- R103. -/
def writeClause : Execution := fun t r s =>
  match r.clause with
  | none => s.reply .badValue
  | some c => s.writeStaging t fun g => { g with clauses := g.clauses.set (r.byte 0).toNat c }

/-- R104. -/
def writeProbes : Execution := fun t r s =>
  s.writeStaging t fun g =>
    { g with probes := ⟨#[probeOf (r.word 0), probeOf (r.word 2), probeOf (r.word 4), probeOf (r.word 6)], rfl⟩ }

/-- R105. -/
def setDefault : Execution := fun t r s =>
  match r.defaultAction with
  | none => s.reply .badValue
  | some d => s.writeStaging t fun g => { g with default := d }

/-- R106. -/
def setCount : Execution := fun t r s =>
  if (r.word 0).toNat ≤ 256 then s.writeStaging t fun g => { g with count := (r.word 0).toNat }
  else s.reply .badValue

/-- R110, R113: an invalid program is refused with its failing item; a valid one makes the commit pending, and the
swap is in the same step if the Classifier is IDLE. -/
def commit : Execution := fun t r s =>
  s.forHolder t fun g s =>
    match g.fault with
    | some (item, reason) =>
      (s.setEdit (.editing t g s.idleExpiry)).reply .invalidProgram (natBe16 item ++ [reason])
    | none => (((s.setEdit (.committing t g r.sequence)).awaitSwap t).swap, .later)

/-- R108. -/
def abortEdit : Execution := fun t _ s => s.forHolder t fun _ s => (s.setEdit .none).reply .ok

end State

/-- R97, R107: the selector of a READ_CLAUSE request decides its row (log 14). -/
def Request.selectsStaging (r : Request) : Bool := r.byte 0 == 1

/-- R113, R114. -/
def execSwap (s : State) : Host.Outcome State Fault Refusal := .next s.swap
/-- R109. -/
def execIdleTimerExpiry (s : State) : Host.Outcome State Fault Refusal := .next s.idleTimerExpiry
/-- R97. -/
def execReadClauseActive (s : State) : Host.Outcome State Fault Refusal :=
  .next (s.takeRequest .readClause (fun r => !r.selectsStaging) State.readClauseActive)
/-- R107. -/
def execReadClauseStaging (s : State) : Host.Outcome State Fault Refusal :=
  .next (s.takeRequest .readClause Request.selectsStaging State.readClauseStaging)
/-- R102. -/
def execOpenEdit (s : State) : Host.Outcome State Fault Refusal := .next (s.take .openEdit State.openEdit)
/-- R103. -/
def execWriteClause (s : State) : Host.Outcome State Fault Refusal := .next (s.take .writeClause State.writeClause)
/-- R104. -/
def execWriteProbes (s : State) : Host.Outcome State Fault Refusal := .next (s.take .writeProbes State.writeProbes)
/-- R105. -/
def execSetDefault (s : State) : Host.Outcome State Fault Refusal := .next (s.take .setDefault State.setDefault)
/-- R106. -/
def execSetCount (s : State) : Host.Outcome State Fault Refusal := .next (s.take .setCount State.setCount)
/-- R110, R111. -/
def execCommit (s : State) : Host.Outcome State Fault Refusal := .next (s.take .commit State.commit)
/-- R108. -/
def execAbortEdit (s : State) : Host.Outcome State Fault Refusal := .next (s.take .abortEdit State.abortEdit)

end Sys2Proof.Machine
end

