-- ==== Sys2Proof/Machine/ManagementUnit.lean ====
section
/-! DEFINITION. The Management Unit: BAD_TAG, RETRY_MATCH, BAD_KIND, GET_STATUS, the parameters, SET_RIGHTS, READ_POOL
and SOFT_RESTART (chapter 9; R47). -/

namespace Sys2Proof.Machine

namespace State

/-! ### Takes that execute nothing -/

/-- R157: a tag above 3; otherwise nothing happens (log 3). -/
def badTag (s : State) : State :=
  match s.nextTake with
  | .badTag r =>
    s.popRequest.queueResponse
      { tag := r.tag, sequence := r.sequence, kind := r.kind, status := .badTag, data := [] }
  | .nothing => s
  | .retry _ _ => s
  | .badKind _ _ => s
  | .request _ _ _ => s

/-- R158: a cached response is placed again under the sequence of the retry. -/
def resend (t : Fin 4) (r : Request) (c : CachedResponse) (s : State) : State :=
  match c with
  | .whole kind st data =>
    s.queueResponse { tag := natByte t.val, sequence := r.sequence, kind := kind, status := st, data := data }
  | .resendRefused kind st =>
    s.queueResponse
      { tag := natByte t.val, sequence := r.sequence, kind := kind, status := .retryTooLong, data := [st.code] }

/-- R158: a retry is dropped while its request is in progress, and else answered from the cache. Where the cache
holds nothing (log 29) it is dropped as well. -/
def answerRetry (t : Fin 4) (r : Request) (s : State) : State :=
  if (s.session t).inProgress then s.popRequest
  else
    match (s.session t).cached with
    | some c => s.popRequest.resend t r c
    | none => s.popRequest

/-- R158: a retry; otherwise nothing happens (log 3). -/
def retryMatch (s : State) : State :=
  match s.nextTake with
  | .retry t r => s.answerRetry t r
  | .nothing => s
  | .badTag _ => s
  | .badKind _ _ => s
  | .request _ _ _ => s

/-- R156 step 3, R159: an unknown request kind is accepted and answered BAD_KIND; otherwise nothing happens (log 3). -/
def badKind (s : State) : State :=
  match s.nextTake with
  | .badKind t r => (s.acceptRequest t r).respond t r.sequence r.kind .badKind []
  | .nothing => s
  | .badTag _ => s
  | .retry _ _ => s
  | .request _ _ _ => s

end State

/-! ### Status -/

/-- R160: the codes of the items of GET_STATUS. -/
def EditState.holderByte : EditState → Byte
  | .none => 255
  | .editing h _ _ => natByte h.val
  | .committing h _ _ => natByte h.val
def HoldMode.code : HoldMode → Byte
  | .quiet => 0
  | .holding _ => 1
def TrunkLink.code : TrunkLink → Byte
  | .down => 0
  | .up => 1

namespace State

/-- R160: the 28 bytes of GET_STATUS, all of one moment (log 13). -/
def statusBytes (s : State) : List Byte :=
  be16 s.program.generation ++ [s.program.edit.holderByte, boolByte s.commitPending, s.hold.mode.code]
    ++ natBe16 s.pool.free.length
    ++ s.delivery.queues.toList.flatMap (fun x => [x.state.code, natByte x.records.length])
    ++ [s.trunkRx.link.code] ++ be32 s.now

/-- R160. -/
def getStatus : Execution := fun _ _ s => s.reply .ok s.statusBytes

/-- R47: the blocks in the chains of OPEN and COMPLETE contexts. -/
def contextBlocks (s : State) : Nat :=
  (s.reassembly.contexts.toList.map fun c => (c.body.chain.map Chain.count).getD 0).sum

/-- R47: the blocks in chains that have left their contexts. -/
def queuedBlocks (s : State) : Nat := (s.pool.chains.map fun x => x.2.count).sum

/-- R47: the 22 bytes of READ_POOL. -/
def poolBytes (s : State) : List Byte :=
  natBe16 s.pool.free.length ++ natBe16 s.contextBlocks ++ natBe16 s.queuedBlocks
    ++ s.delivery.queues.toList.flatMap fun x => natBe16 x.charge

/-- R47. -/
def readPool : Execution := fun _ _ s => s.reply .ok s.poolBytes

end State

/-! ### Parameters and rights -/

/-- R161: the value in force of parameter `n`. -/
def Params.value (p : Params) (n : Nat) : Option Nat :=
  match n with
  | 1 => some p.trunkAddress.toNat
  | 2 => some (if p.learning then 1 else 0)
  | 3 => some p.defaultTag.toNat
  | 4 => some p.ageLimit.toNat
  | 5 => some p.gapLimit
  | 6 => some p.maxLength
  | 7 => some p.contextsPerStation
  | 8 => some p.hOn
  | 9 => some p.hOff
  | 10 => some p.holdDuration.toNat
  | 11 => some p.coalesceCount
  | 12 => some p.coalesceTime
  | n =>
    if h : 16 ≤ n ∧ n ≤ 23 then some (p.weights[n - 16]'(by omega))
    else if h : 24 ≤ n ∧ n ≤ 31 then some (p.blockLimits[n - 24]'(by omega))
    else none

/-- R161: the parameters with `x` in place, if `v` is from `lo` to `hi`. -/
def inRange (lo hi v : Nat) (x : Params) : Option Params := if lo ≤ v ∧ v ≤ hi then some x else none

/-- R141, R161, R162: the parameters with value `v` for parameter `n`; none is BAD_VALUE. -/
def Params.change (p : Params) (n v : Nat) : Option Params :=
  match n with
  | 1 => inRange 0 4094 v { p with trunkAddress := BitVec.ofNat 12 v }
  | 2 => inRange 0 1 v { p with learning := v == 1 }
  | 3 => inRange 0 255 v { p with defaultTag := BitVec.ofNat 8 v }
  | 4 => inRange 0 255 v { p with ageLimit := BitVec.ofNat 8 v }
  | 5 => inRange 1 1000 v { p with gapLimit := v }
  | 6 => inRange 64 4096 v { p with maxLength := v }
  | 7 => inRange 1 48 v { p with contextsPerStation := v }
  | 8 => if v < p.hOff then inRange 0 2047 v { p with hOn := v } else none
  | 9 => if p.hOn < v then inRange 1 2048 v { p with hOff := v } else none
  | 10 => inRange 2 65535 v { p with holdDuration := BitVec.ofNat 16 v }
  | 11 => inRange 1 255 v { p with coalesceCount := v }
  | 12 => inRange 1 65535 v { p with coalesceTime := v }
  | n =>
    if h : 16 ≤ n ∧ n ≤ 23 then inRange 1 15 v { p with weights := p.weights.set (n - 16) v (by omega) }
    else if h : 24 ≤ n ∧ n ≤ 31 then
      inRange 0 2048 v { p with blockLimits := p.blockLimits.set (n - 24) v (by omega) }
    else none

namespace State

/-- R161. -/
def getParam : Execution := fun _ r s =>
  match s.params.value (r.byte 0).toNat with
  | some v => s.reply .ok (r.byte 0 :: natBe16 v)
  | none => s.reply .badValue

/-- R141, R162, R173: hand an accepted change of parameter `n` to the block that acts on it. -/
def handParam (n : Nat) (s : State) : State :=
  if n = 8 ∨ n = 9 ∨ n = 10 then s.evaluateHold
  else if n = 11 then
    if s.uplink.lane.isEvent then s else s.withEvents (s.events.testCount s.params)
  else s

/-- R162. -/
def setParam : Execution := fun _ r s =>
  match s.params.change (r.byte 0).toNat (r.word 1).toNat with
  | some p => ((s.withParams p).handParam (r.byte 0).toNat).reply .ok
  | none => s.reply .badValue

/-- R164: the rights of a rights value, 1 READ, 2 EDIT, 4 CONTROL. -/
def rightsOf (v : Byte) : Rights :=
  { read := v.getLsbD 0, edit := v.getLsbD 1, control := v.getLsbD 2, supervisor := false }

/-- R164. -/
def setRights : Execution := fun _ r s =>
  match sessionTag (r.byte 0) with
  | none => s.reply .badValue
  | some t =>
    if t ≠ 0 ∧ (r.byte 1).toNat ≤ 7 then
      (s.setSession t { s.session t with rights := rightsOf (r.byte 1) }).reply .ok
    else s.reply .badValue

end State

/-! ### SOFT_RESTART -/

/-- R74: a context at SOFT RESTART; its last abort reason is kept. -/
def Context.restart (c : Context) : Context := { c with body := .free }

/-- R138: a queue at SOFT RESTART. -/
def Queue.restart (x : Queue) : Queue :=
  { x with state := .running, records := [], credit := 0, charge := 0, inFlight := false }

/-- R180: a slot at SOFT RESTART. -/
def EventSlot.restart (x : EventSlot) : EventSlot := { x with count := 0, subPending := 0 }

namespace State

/-- R48, R130: the payload bytes of the streaming frame `f` that have left the lane when it is cut: as many as the
free value says, and none of a block that does not verify or of one behind it (log 11). -/
def sentAtCut (f : DeliveryFrame) (s : State) : List Byte :=
  let c := s.pool.chainOf f.header.chain
  let readable := match s.pool.damagedAfter c with
    | some sent => sent
    | none => (s.pool.payload c).take f.header.length
  readable.take (Config.bytesSentAtCut s.freeDraws)

/-- R130: the frame in flight at SOFT RESTART. -/
def cutFrame (s : State) : State :=
  match s.uplink.lane with
  | .delivery f =>
    match f.payload with
    | .streaming =>
      (s.setLane (.delivery { f with payload := .cut (s.sentAtCut f) .abortedRestart })).withFreeDraws
        (s.freeDraws + 1)
    | .cut _ _ => s
  | .idle => s
  | .response _ => s
  | .event _ => s

/-- R33, R74, R99: contexts, pending list, classification and open-context counts at SOFT RESTART. -/
def restartReassembly (s : State) : State :=
  ((s.withReassembly { s.reassembly with
      contexts := mapTable Context.restart s.reassembly.contexts, pendingList := [] }).withClassifier
    { s.classifier with state := .idle, messageId := 0 }).withStations
    { s.stations with
      entries := mapTable (Option.map fun e : StationEntry => { e with openCount := 0 }) s.stations.entries }

/-- R138: the queues and the scheduler at SOFT RESTART. -/
def restartDelivery (s : State) : State :=
  s.withDelivery { queues := mapTable Queue.restart s.delivery.queues, current := 7, turns := 0 }

/-- R180: the Event Unit at SOFT RESTART. -/
def restartEvents (s : State) : State :=
  s.withEvents { s.events with
    slots := mapTable EventSlot.restart s.events.slots, due := false, timer := none, flushNote := false }

/-- R116, R159, R166: the edit session at SOFT RESTART; a dropped commit is recorded as RESTARTED in the cache of its
tag, unless the tag has had a newer request accepted. -/
def restartProgram (s : State) : State :=
  match s.program.edit with
  | .none => s
  | .editing _ _ _ => s.setEdit .none
  | .committing h _ seq =>
    (s.setEdit .none).cacheDeferred h seq (.whole RequestKind.commit.code .restarted [])

/-- R151: the Hold Controller at SOFT RESTART. -/
def restartHold (s : State) : State :=
  match s.hold.mode with
  | .quiet => s
  | .holding _ => (s.withHold { s.hold with mode := .quiet }).requestRelease

/-- R48: the pool is rebuilt; the contents and fields of the blocks stay, and the new free count is handed on. -/
def rebuildPool (s : State) : State :=
  (s.withPool { s.pool with free := List.range 2048, chains := [] }).handFreeCount

/-- R165, R166: the restart, one step across the blocks. -/
def restartParts (s : State) : State :=
  s.cutFrame.restartReassembly.restartDelivery.restartProgram.restartHold.restartEvents.rebuildPool

/-- R165. -/
def softRestart : Execution := fun _ _ s => s.restartParts.reply .ok

end State

/-- R157. -/
def execBadTag (s : State) : Host.Outcome State Fault Refusal := .next s.badTag
/-- R158. -/
def execRetryMatch (s : State) : Host.Outcome State Fault Refusal := .next s.retryMatch
/-- R156. -/
def execBadKind (s : State) : Host.Outcome State Fault Refusal := .next s.badKind
/-- R160. -/
def execGetStatus (s : State) : Host.Outcome State Fault Refusal := .next (s.take .getStatus State.getStatus)
/-- R161. -/
def execGetParam (s : State) : Host.Outcome State Fault Refusal := .next (s.take .getParam State.getParam)
/-- R162. -/
def execSetParam (s : State) : Host.Outcome State Fault Refusal := .next (s.take .setParam State.setParam)
/-- R164. -/
def execSetRights (s : State) : Host.Outcome State Fault Refusal := .next (s.take .setRights State.setRights)
/-- R165. -/
def execSoftRestart (s : State) : Host.Outcome State Fault Refusal := .next (s.take .softRestart State.softRestart)
/-- R47. -/
def execReadPool (s : State) : Host.Outcome State Fault Refusal := .next (s.take .readPool State.readPool)

end Sys2Proof.Machine
end

