-- ==== Sys2Proof/Machine/Reassembly.lean ====
section
/-! DEFINITION. The Reassembly Unit: DATA_ONLY, DATA_FIRST, DATA_MIDDLE, DATA_LAST, GAP_TIMER_EXPIRY, REMOVAL_WORK and
READ_CONTEXT (chapter 4). -/

namespace Sys2Proof.Machine

namespace State

/-- R52: the context of a key. -/
def keyContext (a : Addr) (ch : Chan) (s : State) : Option (Fin 48) :=
  firstPlace (fun c => c.body.hasKey a ch) s.reassembly.contexts

/-- R54: the lowest-numbered FREE context. -/
def freeContext (s : State) : Option (Fin 48) :=
  firstPlace (fun c => decide (c.body = .free)) s.reassembly.contexts

/-- R54: the open-context count of a station's entry; 0 without an entry. -/
def openCountOf (a : Addr) (s : State) : Nat := ((s.stationEntry a).map StationEntry.openCount).getD 0

/-- R54: the context that a start of station `a` takes, if one is available. -/
def availableContext (a : Addr) (s : State) : Option (Fin 48) :=
  if s.openCountOf a < s.params.contextsPerStation then s.freeContext else none

/-- R38, R39: the pool after a stored cell, the free count handed on if it changed. -/
def storedPool (p : BlockPool) (s : State) : State :=
  if p.free.length = s.pool.free.length then s.withPool p else (s.withPool p).handFreeCount

/-- R63: a start refused for want of a context. -/
def refuseNoContext (a : Addr) (s : State) : State :=
  ((s.countReassembly fun c => { c with noContext := satInc c.noContext }).countError a).postStation .noContext a

/-- R62: a start refused for want of storage. -/
def refuseNoBuffer (a : Addr) (s : State) : State :=
  ((s.countReassembly fun c => { c with noBuffer := satInc c.noBuffer }).countError a).postStation .noBuffer a

/-- R67: what happens in the step in which context `i` becomes COMPLETE. -/
def completeContext (i : Fin 48) (m : Message) (s : State) : State :=
  let listed := s.setBody i (.complete m)
  ((listed.withReassembly { listed.reassembly with
    pendingList := listed.reassembly.pendingList ++ [i] }).countReassembly fun c =>
      { c with completed := satInc c.completed }).countCompleted m.station

/-- R54: the message that a starting cell begins, in the chain that the pool supplied. -/
def startedMessage (c : AdmittedCell) (ch : Chain) : Message :=
  { station := c.source, channel := c.channel, tag := c.tag, cls := c.cls, arrival := c.arrival,
    byteCount := c.payload.length, chain := ch }

/-- R54, R55, R62, R63: a start. A DATA_ONLY is COMPLETE at once; a DATA_FIRST opens its context. -/
def startMessage (c : AdmittedCell) (whole : Bool) (s : State) : State :=
  match s.availableContext c.source with
  | none => s.refuseNoContext c.source
  | some i =>
    match s.pool.store c.payload none with
    | none => s.refuseNoBuffer c.source
    | some (ch, p) =>
      let stored := s.storedPool p
      if whole then stored.completeContext i (startedMessage c ch)
      else (stored.setBody i (.opened (startedMessage c ch) (c.sequence + 1) stored.gapExpiry)).countOpen c.source

/-- R56: a start on a key that has a context ends that context first. -/
def endKeyContext (a : Addr) (ch : Chan) (s : State) : State :=
  match s.keyContext a ch with
  | none => s
  | some i => s.endContext .restart i

/-- R60: an orphan. -/
def orphanCell (a : Addr) (s : State) : State :=
  ((s.countReassembly fun c => { c with orphan := satInc c.orphan }).countError a).postStation .orphanCell a

/-- R57, R58, R61, R62, R69: abort the OPEN context that a DATA_MIDDLE or a DATA_LAST (`last`) has reached. -/
def abortAtCell (last : Bool) (i : Fin 48) (m : Message) (r : AbortReason) (s : State) : State :=
  if last then s.abortToFree i m r else s.abortToDiscarding i m r

/-- R57, R58: an in-order cell whose payload the pool has stored in chain `ch`. -/
def extendMessage (last : Bool) (i : Fin 48) (m : Message) (e : Seq) (n : Nat) (ch : Chain) (s : State) : State :=
  let m' := { m with byteCount := m.byteCount + n, chain := ch }
  if last then (s.completeContext i m').countClosed m.station
  else s.setBody i (.opened m' (e + 1) s.gapExpiry)

/-- R57, R58: a duplicate. -/
def dropDuplicate (i : Fin 48) (m : Message) (e : Seq) (s : State) : State :=
  (s.setBody i (.opened m e s.gapExpiry)).countReassembly fun c => { c with duplicate := satInc c.duplicate }

/-- R57, R58: a DATA_MIDDLE or DATA_LAST reaches the OPEN context `i` of its key. -/
def continueOpen (last : Bool) (c : AdmittedCell) (i : Fin 48) (m : Message) (e : Seq) (s : State) : State :=
  if c.sequence = e then
    if s.params.maxLength < m.byteCount + c.payload.length then s.abortAtCell last i m .oversize
    else
      match s.pool.store c.payload (some m.chain) with
      | none => s.abortAtCell last i m .noBuffer
      | some (ch, p) => (s.storedPool p).extendMessage last i m e c.payload.length ch
  else if c.sequence = e - 1 then s.dropDuplicate i m e
  else s.abortAtCell last i m .sequence

/-- R59: a DATA_MIDDLE or DATA_LAST reaches the DISCARDING context `i` of its key. -/
def continueDiscarding (last : Bool) (i : Fin 48) (a : Addr) (ch : Chan) (s : State) : State :=
  let counted := s.countReassembly fun c => { c with discarded := satInc c.discarded }
  if last then (counted.setBody i .free).countClosed a
  else counted.setBody i (.discarding a ch s.gapExpiry)

/-- R57 to R60: a DATA_MIDDLE or DATA_LAST. -/
def continueMessage (last : Bool) (c : AdmittedCell) (s : State) : State :=
  match s.keyContext c.source c.channel with
  | none => s.orphanCell c.source
  | some i =>
    match (s.context i).body with
    | .opened m e _ => s.continueOpen last c i m e
    | .discarding a ch _ => s.continueDiscarding last i a ch
    | .free => s
    | .complete _ => s

/-- R21, R52: take the cell at the head of the stream if it is of kind `k`; otherwise the step is not the one that
comes next and nothing happens (log 3). -/
def takeCell (k : DataKind) (act : AdmittedCell → State → State) (s : State) : State :=
  match s.stream with
  | .cell c :: rest => if c.kind = k then act c (s.withStream rest) else s
  | .removal _ :: _ => s
  | [] => s

/-- R55, R56. -/
def dataOnly (s : State) : State :=
  s.takeCell .only fun c t => (t.endKeyContext c.source c.channel).startMessage c true

/-- R54, R56. -/
def dataFirst (s : State) : State :=
  s.takeCell .first fun c t => (t.endKeyContext c.source c.channel).startMessage c false

/-- R57, R59, R60. -/
def dataMiddle (s : State) : State := s.takeCell .middle (continueMessage false)

/-- R58, R59, R60. -/
def dataLast (s : State) : State := s.takeCell .last (continueMessage true)

/-- R65: the gap timer of context `i`; without a running timer that has reached its expiry nothing happens (log 3). -/
def gapTimerExpiry (i : Fin 48) (s : State) : State :=
  match (s.context i).body with
  | .opened m _ t => if reached s.now t then s.abortToFree i m .timeout else s
  | .discarding a _ t =>
    if reached s.now t then ((s.setBody i .free).countReassembly (AbortReason.count .timeout)).countClosed a else s
  | .free => s
  | .complete _ => s

/-- R70: the contexts that the removal of `stations` aborts, in ascending order. -/
def removedContexts (stations : List Addr) (s : State) : List (Fin 48) :=
  (List.finRange 48).filter fun i => (s.context i).body.openStation.any fun a => stations.contains a

/-- R28, R29: the data of the answer to the request that handed the removal work on. -/
def removalData (k : RequestKind) (stations : List Addr) (aborted : Nat) : List Byte :=
  if k = .flushLearned then [natByte stations.length, natByte aborted] else [natByte aborted]

/-- R70, R155: the aborts are done; the request that waits for them is answered and the unit is IDLE. -/
def answerRemoval (stations : List Addr) (aborted : Nat) (s : State) : State :=
  match s.management.unit with
  | .idle => s
  | .executing t seq k =>
    (s.withManagement { s.management with unit := .idle }).respond t seq k.code .ok (removalData k stations aborted)

/-- R70: the removal work at the head of the stream. -/
def removalWork (s : State) : State :=
  match s.stream with
  | .removal stations :: rest =>
    let cs := s.removedContexts stations
    ((s.withStream rest).endContexts .flushed cs).answerRemoval stations cs.length
  | .cell _ :: _ => s
  | [] => s

end State

/-! ### Reading a context -/

/-- R72: the code of an abort reason. -/
def AbortReason.code : AbortReason → Byte
  | .none => 0
  | .restart => 1
  | .sequence => 2
  | .timeout => 3
  | .oversize => 4
  | .noBuffer => 5
  | .flushed => 6
  | .trunkLoss => 7

/-- R72: station, channel, tag, class, arrival, expected sequence, byte count, block count and head block. -/
def ContextState.bytes : ContextState → List Byte
  | .free => 0 :: List.replicate 15 0
  | .opened m e _ =>
    1 :: be16 (m.station.zeroExtend 16) ++ [m.channel.zeroExtend 8, m.tag, m.cls] ++ be32 m.arrival
      ++ [e.zeroExtend 8] ++ natBe16 m.byteCount ++ [natByte m.chain.count] ++ natBe16 m.chain.head
  | .discarding a ch _ => 2 :: be16 (a.zeroExtend 16) ++ [ch.zeroExtend 8] ++ List.replicate 12 0
  | .complete m =>
    3 :: be16 (m.station.zeroExtend 16) ++ [m.channel.zeroExtend 8, m.tag, m.cls] ++ be32 m.arrival
      ++ [0] ++ natBe16 m.byteCount ++ [natByte m.chain.count] ++ natBe16 m.chain.head

namespace State

/-- R72: the context's place in the pending list; 254 under classification; 255 for one that is not COMPLETE. -/
def pendingPosition (i : Fin 48) (s : State) : Byte :=
  match (s.context i).body with
  | .complete _ =>
    match s.classifier.state with
    | .classifying j _ => if j = i then 254 else natByte (s.reassembly.pendingList.idxOf i)
    | .idle => natByte (s.reassembly.pendingList.idxOf i)
  | .free => 255
  | .opened _ _ _ => 255
  | .discarding _ _ _ => 255

/-- R72. -/
def readContext : Execution := fun _ r s =>
  if h : (r.byte 0).toNat < 48 then
    let i : Fin 48 := ⟨(r.byte 0).toNat, h⟩
    s.reply .ok ([natByte i.val] ++ (s.context i).body.bytes
      ++ [s.pendingPosition i, (s.context i).lastAbort.code])
  else s.reply .badValue

end State

/-- R55. -/
def execDataOnly (s : State) : Host.Outcome State Fault Refusal := .next s.dataOnly
/-- R54. -/
def execDataFirst (s : State) : Host.Outcome State Fault Refusal := .next s.dataFirst
/-- R57. -/
def execDataMiddle (s : State) : Host.Outcome State Fault Refusal := .next s.dataMiddle
/-- R58. -/
def execDataLast (s : State) : Host.Outcome State Fault Refusal := .next s.dataLast
/-- R65. -/
def execGapTimerExpiry (i : Fin 48) (s : State) : Host.Outcome State Fault Refusal := .next (s.gapTimerExpiry i)
/-- R70. -/
def execRemovalWork (s : State) : Host.Outcome State Fault Refusal := .next s.removalWork
/-- R72. -/
def execReadContext (s : State) : Host.Outcome State Fault Refusal := .next (s.take .readContext State.readContext)

end Sys2Proof.Machine
end

