-- ==== Sys2Proof/Machine/Stations.lean ====
section
/-! DEFINITION. The Station Table: AGING_TICK and the six station requests (chapter 2, sections 2.4 to 2.6). -/

namespace Sys2Proof.Machine

/-- R24: one second more, staying at 255. -/
def StationEntry.older (e : StationEntry) : StationEntry := { e with age := satInc e.age }

/-- R25: whether the tick removes an entry. -/
def StationEntry.removable (ageLimit : Byte) (e : StationEntry) : Bool :=
  decide (e.origin = .learned) && decide (ageLimit ≠ 0) && decide (ageLimit.toNat < e.age.toNat)
    && decide (e.openCount = 0)

/-- R31: the code of an origin and of an admission. -/
def Origin.code : Origin → Byte
  | .learned => 0
  | .pinned => 1
def Admission.code : Admission → Byte
  | .admits => 0
  | .blocks => 1

/-- R26: the admission of a code (log 26). -/
def admissionOf (b : Byte) : Option Admission :=
  if b = 0 then some .admits else if b = 1 then some .blocks else none

/-- R31: an entry as READ_STATION reports it. -/
def StationEntry.bytes (i : Fin 64) (e : StationEntry) : List Byte :=
  [natByte i.val] ++ be16 (e.address.zeroExtend 16)
    ++ [e.origin.code, e.admission.code, e.tag, e.age, natByte e.openCount]
    ++ be32 e.accepted ++ be32 e.completed ++ be32 e.errors

/-- R32: an entry as LIST_STATIONS reports it. -/
def StationEntry.listBytes (i : Fin 64) (e : StationEntry) : List Byte :=
  [natByte i.val] ++ be16 (e.address.zeroExtend 16) ++ [e.origin.code, e.admission.code, e.tag, natByte e.openCount]

namespace State

/-- R25: remove the entry of position `i` if the tick removes it. -/
def ageOut (i : Fin 64) (s : State) : State :=
  match s.stations.entries[i] with
  | some e =>
    if e.removable s.params.ageLimit then (s.setEntry i none).postStation .stationAged e.address else s
  | none => s

/-- R24, R25: the aging tick: first every age, then the removal test in ascending position order. -/
def agingTick (s : State) : State :=
  (List.finRange 64).foldl (fun t i => t.ageOut i)
    (s.withStations { s.stations with entries := mapTable (Option.map StationEntry.older) s.stations.entries })

/-- The entries present from position `start` on, in ascending order. -/
def entriesFrom (start : Nat) (s : State) : List (Fin 64 × StationEntry) :=
  (List.finRange 64).filterMap fun i =>
    if start ≤ i.val then s.stations.entries[i].map fun e => (i, e) else none

/-- R31. -/
def readStation : Execution := fun _ r s =>
  match r.station 0 with
  | none => s.reply .badValue
  | some a =>
    match s.findStation a with
    | none => s.reply .notFound
    | some i =>
      match s.stations.entries[i] with
      | none => s.reply .notFound
      | some e => s.reply .ok (e.bytes i)

/-- R32: the next start position after the entries `found`. -/
def nextStart (found : List (Fin 64 × StationEntry)) : Nat :=
  if found.length < 8 then 64
  else match found.getLast? with
    | some (i, _) => i.val + 1
    | none => 64

/-- R32. -/
def listStations : Execution := fun _ r s =>
  if (r.byte 0).toNat ≤ 63 then
    let found := (s.entriesFrom (r.byte 0).toNat).take 8
    s.reply .ok ([natByte found.length, natByte (nextStart found)]
      ++ found.flatMap fun x => x.2.listBytes x.1)
  else s.reply .badValue

/-- R26: the entry that PIN_STATION creates. -/
def pinnedEntry (a : Addr) (adm : Admission) (tag : Byte) : StationEntry :=
  { address := a, origin := .pinned, admission := adm, tag := tag, age := 0, openCount := 0, accepted := 0,
    completed := 0, errors := 0 }

/-- R26. -/
def pinStation : Execution := fun _ r s =>
  match r.station 0, admissionOf (r.byte 2) with
  | some a, some adm =>
    match s.findStation a with
    | some i =>
      (s.setEntry i (s.stations.entries[i].map fun e =>
        { e with origin := .pinned, admission := adm, tag := r.byte 3 })).reply .ok [natByte i.val]
    | none =>
      match s.emptyPosition with
      | some i => (s.setEntry i (some (pinnedEntry a adm (r.byte 3)))).reply .ok [natByte i.val]
      | none => s.reply .tableFull
  | some _, none => s.reply .badValue
  | none, _ => s.reply .badValue

/-- R27. -/
def unpinStation : Execution := fun _ r s =>
  match r.station 0 with
  | none => s.reply .badValue
  | some a =>
    match s.findStation a with
    | none => s.reply .notFound
    | some i =>
      (s.setEntry i (s.stations.entries[i].map fun e => { e with origin := .learned, age := 0 })).reply .ok

/-- R28, R29, R155: hand removal work to the Reassembly Unit; the unit waits for it. -/
def handRemoval (t : Fin 4) (r : Request) (k : RequestKind) (stations : List Addr) (s : State) : State × Reply :=
  ((s.withStream (s.stream ++ [.removal stations])).withManagement
    { s.management with unit := .executing t r.sequence k }, .later)

/-- R28. -/
def removeStation : Execution := fun t r s =>
  match r.station 0 with
  | none => s.reply .badValue
  | some a =>
    match s.findStation a with
    | none => s.reply .notFound
    | some i => (s.setEntry i none).handRemoval t r .removeStation [a]

/-- The addresses of the LEARNED entries (R29). -/
def learnedAddresses (s : State) : List Addr :=
  s.stations.entries.toList.filterMap fun e => e.bind fun x => if x.origin = .learned then some x.address else none

/-- R29. -/
def flushLearned : Execution := fun t r s =>
  (s.withStations { s.stations with
    entries := mapTable (fun e => e.filter fun x => decide (x.origin = .pinned)) s.stations.entries
  }).handRemoval t r .flushLearned s.learnedAddresses

end State

/-- R24, R25. -/
def execAgingTick (s : State) : Host.Outcome State Fault Refusal := .next s.agingTick
/-- R31. -/
def execReadStation (s : State) : Host.Outcome State Fault Refusal := .next (s.take .readStation State.readStation)
/-- R32. -/
def execListStations (s : State) : Host.Outcome State Fault Refusal := .next (s.take .listStations State.listStations)
/-- R26. -/
def execPinStation (s : State) : Host.Outcome State Fault Refusal := .next (s.take .pinStation State.pinStation)
/-- R27. -/
def execUnpinStation (s : State) : Host.Outcome State Fault Refusal := .next (s.take .unpinStation State.unpinStation)
/-- R28. -/
def execRemoveStation (s : State) : Host.Outcome State Fault Refusal :=
  .next (s.take .removeStation State.removeStation)
/-- R29. -/
def execFlushLearned (s : State) : Host.Outcome State Fault Refusal := .next (s.take .flushLearned State.flushLearned)

end Sys2Proof.Machine
end

