-- ==== Sys2Proof/Machine/Trunk.lean ====
section
/-! DEFINITION. The reset line and the trunk side: POWER_ON, TRUNK_UP, TRUNK_LOSS, RECEIVED_CELL and
CELL_TRANSMISSION_END (chapter 1, and the lookup of chapter 2). -/

namespace Sys2Proof.Machine

namespace State

/-- Update the receive counters and the trunk link state. -/
def changeRx (f : TrunkReceiver → TrunkReceiver) (s : State) : State := s.withTrunkRx (f s.trunkRx)

/-- R1: POWER-ON returns all state of the part to its power-on values; the commands that wait are not of the part. -/
def powerOn (s : State) : State := State.reset.withPending s.pending

/-- R1, R2, R150: a lock report. -/
def trunkUp (s : State) : State :=
  match s.trunkRx.link with
  | .up => s
  | .down => ((s.changeRx fun x => { x with link := .up }).post .trunkUp 0).evaluateHold

/-- R15: the Trunk Transmitter at TRUNK LOSS. -/
def dropTransmission (s : State) : State := s.withTrunkTx { s.trunkTx with inFlight := none, slot := none }

/-- R149: the Hold Controller at TRUNK LOSS. -/
def quietHold (s : State) : State := s.withHold { s.hold with mode := .quiet }

/-- R1, R3, R15, R73, R149: a loss report. -/
def trunkLoss (s : State) : State :=
  match s.trunkRx.link with
  | .down => s
  | .up =>
    ((((s.changeRx fun x => { x with link := .down }).post .trunkDown 0).endContexts .trunkLoss
      (List.finRange 48)).dropTransmission).quietHold

/-- R18, R20, R21: hand an admitted cell on to the Reassembly Unit. -/
def handCell (c : AdmittedCell) (s : State) : State := s.withStream (s.stream ++ [.cell c])

/-- R20: a foreign cell. -/
def foreignCell (a : Addr) (s : State) : State :=
  (s.withStations { s.stations with foreign := satInc s.stations.foreign }).postStation .foreignStation a

/-- R19: a blocked cell from the entry `e` in position `i`. -/
def blockedCell (i : Fin 64) (e : StationEntry) (s : State) : State :=
  let aged := s.setEntry i (some { e with age := 0 })
  (aged.withStations { aged.stations with blocked := satInc aged.stations.blocked }).postStation .blockedStation
    e.address

/-- R18: an admitted cell from the entry `e` in position `i`. -/
def acceptedCell (i : Fin 64) (e : StationEntry) (k : DataKind) (bytes : List Byte) (s : State) : State :=
  (s.setEntry i (some { e with age := 0, accepted := satInc e.accepted })).handCell
    (admittedCell k bytes s.now e.tag)

/-- R20: the entry that learning creates. -/
def learnedEntry (a : Addr) (s : State) : StationEntry :=
  { address := a, origin := .learned, admission := .admits, tag := s.params.defaultTag, age := 0, openCount := 0,
    accepted := 0, completed := 0, errors := 0 }

/-- R18 to R20: the lookup of an admitted cell. -/
def lookupCell (k : DataKind) (bytes : List Byte) (s : State) : State :=
  let a := cellSource bytes
  match s.findStation a with
  | some i =>
    match s.stations.entries[i] with
    | some e =>
      match e.admission with
      | .admits => s.acceptedCell i e k bytes
      | .blocks => s.blockedCell i e
    | none => s
  | none =>
    if s.params.learning then
      match s.emptyPosition with
      | some i => (s.postStation .stationLearned a).acceptedCell i (s.learnedEntry a) k bytes
      | none => s.foreignCell a
    else s.foreignCell a

/-- R2, R5 to R11: a unit whose reception began and ended while the link is UP; any other is not received. -/
def receivedCell (u : LaneUnit) (s : State) : State :=
  match s.trunkRx.link, u.begunInUp with
  | .down, _ => s
  | .up, false => s
  | .up, true =>
    let counted := s.changeRx fun x => { x with received := satInc x.received }
    match admission s.params.trunkAddress u with
    | .badCheck => (counted.changeRx fun x => { x with badCheck := satInc x.badCheck }).post .cellError 0
    | .badFormat => (counted.changeRx fun x => { x with badFormat := satInc x.badFormat }).post .cellError 0
    | .notData => counted.changeRx fun x => { x with notData := satInc x.notData }
    | .notForPart => counted.changeRx fun x => { x with notForPart := satInc x.notForPart }
    | .badSource => (counted.changeRx fun x => { x with badFormat := satInc x.badFormat }).post .cellError 0
    | .admitted k => counted.lookupCell k u.bytes

/-- R14: count a cell that has been sent whole, and start the one that waits. -/
def sentCell (c : TxCell) (s : State) : State :=
  let x := s.trunkTx
  let next := { x with inFlight := x.slot, slot := none }
  let counted := match c with
    | .hold _ _ => { next with holdSent := satInc next.holdSent }
    | .release _ => { next with releaseSent := satInc next.releaseSent }
  (s.withTrunkTx counted).withOutputs { s.outputs with trunk := c.bytes :: s.outputs.trunk }

/-- R14, R15: the end of a transmission; with the link DOWN it is not counted and nothing is started. -/
def cellTransmissionEnd (s : State) : State :=
  match s.trunkTx.inFlight with
  | none => s
  | some c =>
    match s.trunkRx.link with
    | .up => s.sentCell c
    | .down => s.dropTransmission

end State

/-- R1. -/
def execPowerOn (s : State) : Host.Outcome State Fault Refusal := .next s.powerOn
/-- R1, R2. -/
def execTrunkUp (s : State) : Host.Outcome State Fault Refusal := .next s.trunkUp
/-- R1, R3. -/
def execTrunkLoss (s : State) : Host.Outcome State Fault Refusal := .next s.trunkLoss
/-- R5 to R11, R18 to R20. -/
def execReceivedCell (u : LaneUnit) (s : State) : Host.Outcome State Fault Refusal := .next (s.receivedCell u)
/-- R14, R15. -/
def execCellTransmissionEnd (s : State) : Host.Outcome State Fault Refusal := .next s.cellTransmissionEnd

end Sys2Proof.Machine
end

