-- ==== Sys2Proof/Machine/Uplink.lean ====
section
/-! DEFINITION. The Uplink Port: link reports, inbound frames, and the RESPONSE and EVENT frames (chapters 10 and 11). -/

namespace Sys2Proof.Machine

/-- R129, R137: a queue at UPLINK LOSS; `abandoned` says that its frame was in flight. -/
def Queue.lose (abandoned : Bool) (x : Queue) : Queue :=
  if abandoned then
    { x with
      credit := 0, inFlight := false,
      records := match x.records with
        | [] => []
        | r :: rest => { r with replay := true } :: rest }
  else { x with credit := 0 }

/-- R129: the queue whose in-flight record the loss abandons. -/
def Lane.streamingQueue : Lane → Option (Fin 8)
  | .delivery f =>
    match f.payload with
    | .streaming => some f.queue
    | .cut _ _ => none
  | .idle => none
  | .response _ => none
  | .event _ => none

/-- R115: the edit state at UPLINK LOSS. -/
def EditState.lose : EditState → EditState
  | .none => .none
  | .editing _ _ _ => .none
  | .committing h g seq => .committing h g seq

namespace State

/-- R137: the Delivery Unit at UPLINK LOSS. -/
def loseDelivery (s : State) : State :=
  let credited := s.withDelivery { s.delivery with queues := mapTable (Queue.lose false) s.delivery.queues }
  match s.uplink.lane.streamingQueue with
  | some q => credited.setQueue q ((credited.queue q).lose true)
  | none => credited

/-- R167: the Management Unit at UPLINK LOSS. -/
def loseManagement (s : State) : State := s.withManagement { s.management with fifo := [], responses := [] }

/-- R176: the Event Unit at UPLINK LOSS. -/
def loseEvents (s : State) : State :=
  if s.uplink.lane.isEvent then s.withEvents (s.events.abandonFrame s.params) else s

/-- R115: the Program Store at UPLINK LOSS. -/
def loseProgram (s : State) : State := s.withProgram { s.program with edit := s.program.edit.lose }

/-- R182, R186: UPLINK LOSS. -/
def uplinkLoss (s : State) : State :=
  s.loseDelivery.loseManagement.loseEvents.loseProgram.withUplink { s.uplink with link := .down, lane := .idle }

/-- Set the uplink link state. -/
def setUplink (l : UplinkLink) (s : State) : State := s.withUplink { s.uplink with link := l }

/-- R181: a signal report. -/
def uplinkSignal (s : State) : State :=
  match s.uplink.link with
  | .down => s.setUplink .training
  | .training => s
  | .up => s

/-- R181: a training-complete report. -/
def trainingComplete (s : State) : State :=
  match s.uplink.link with
  | .training => s.setUplink .up
  | .down => s
  | .up => s

/-- R181: a report that takes the link DOWN. -/
def uplinkDown (s : State) : State :=
  match s.uplink.link with
  | .down => s
  | .training => s.setUplink .down
  | .up => s.uplinkLoss

/-! ### Inbound frames -/

/-- R153: a REQUEST frame reaches the request FIFO. -/
def arriveRequest (r : Request) (s : State) : State :=
  if s.management.fifo.length < 8 then s.withManagement { s.management with fifo := s.management.fifo ++ [r] }
  else
    (s.withManagement { s.management with dropped := satInc s.management.dropped }).post .requestDropped
      (r.tag.zeroExtend 16)

/-- R121: credit for queue `q`. -/
def addCredit (q : Fin 8) (n : Byte) (s : State) : State :=
  let x := s.queue q
  let added := s.setQueue q { x with credit := satAdd x.credit n.toNat }
  if x.credit.toNat + n.toNat ≤ 255 then added else added.postNat .creditOverflow q.val

/-- R121, R184: a CREDIT frame; a refused one is an uplink frame error with its type as detail. -/
def arriveCredit (queue count : Byte) (s : State) : State :=
  if h : queue.toNat < 8 ∧ count ≠ 0 then s.addCredit ⟨queue.toNat, h.1⟩ count else s.frameError 0x21

/-- R181, R183, R184: an inbound unit; it is received only if its reception began and ended in UP. -/
def receiveUplinkUnit (u : LaneUnit) (s : State) : State :=
  match s.uplink.link, u.begunInUp with
  | .down, _ => s
  | .training, _ => s
  | .up, false => s
  | .up, true =>
    match checkInbound u with
    | .error detail => s.frameError detail
    | .request r => s.arriveRequest r
    | .credit q n => s.arriveCredit q n

/-! ### RESPONSE and EVENT frames -/

/-- R154, R185: the grant to the Management Unit; otherwise nothing happens (log 3). -/
def responseFrameStart (s : State) : State :=
  if s.grant = some .management then
    match s.management.responses with
    | r :: _ => s.setLane (.response r)
    | [] => s
  else s

/-- R154, R186: the RESPONSE frame has left the lane. -/
def responseFrameEnd (s : State) : State :=
  match s.uplink.lane with
  | .response r =>
    (s.withManagement { s.management with responses := s.management.responses.tail }).finishFrame r.bytes
  | .idle => s
  | .event _ => s
  | .delivery _ => s

end State

/-- R175: the entry of a slot in a snapshot taken now; none for a slot that is not reported. -/
def EventSlot.entry (i : Fin 22) (x : EventSlot) : Option EventEntry :=
  if x.enabled && decide (x.count ≠ 0) then
    some { code := natByte (i.val + 1), count := x.count, detail := x.detail, firstTime := x.firstTime }
  else none

/-- R175: the snapshot, in ascending order of kind code. -/
def EventUnit.snapshot (e : EventUnit) : List EventEntry :=
  (List.finRange 22).filterMap fun i => e.slots[i].entry i

/-- R175: a slot at the start of an EVENT frame. -/
def EventSlot.freeze (x : EventSlot) : EventSlot :=
  if x.enabled && decide (x.count ≠ 0) then { x with subPending := x.count } else x

/-- R175: the Event Unit at the start of an EVENT frame. -/
def EventUnit.startFrame (e : EventUnit) : EventUnit :=
  { e with slots := mapTable EventSlot.freeze e.slots, due := false, timer := none }

namespace State

/-- R175, R185: the grant to the Event Unit; otherwise nothing happens (log 3). -/
def eventFrameStart (s : State) : State :=
  if s.grant = some .event then
    (s.setLane (.event s.events.snapshot)).withEvents s.events.startFrame
  else s

/-- R176, R186: the EVENT frame has left the lane. -/
def eventFrameEnd (s : State) : State :=
  match s.uplink.lane with
  | .event entries =>
    (s.finishFrame (eventBytes entries)).withEvents (s.events.finishFrame s.params)
  | .idle => s
  | .response _ => s
  | .delivery _ => s

end State

/-- R181. -/
def execUplinkSignal (s : State) : Host.Outcome State Fault Refusal := .next s.uplinkSignal
/-- R181. -/
def execTrainingComplete (s : State) : Host.Outcome State Fault Refusal := .next s.trainingComplete
/-- R181, R182. -/
def execTrainingFailure (s : State) : Host.Outcome State Fault Refusal := .next s.uplinkDown
/-- R181, R182. -/
def execLossOfSignal (s : State) : Host.Outcome State Fault Refusal := .next s.uplinkDown
/-- R153, R183, R184. -/
def execRequestFrame (u : LaneUnit) (s : State) : Host.Outcome State Fault Refusal := .next (s.receiveUplinkUnit u)
/-- R121, R183, R184. -/
def execCreditFrame (u : LaneUnit) (s : State) : Host.Outcome State Fault Refusal := .next (s.receiveUplinkUnit u)
/-- R183. -/
def execUplinkFrameError (u : LaneUnit) (s : State) : Host.Outcome State Fault Refusal :=
  .next (s.receiveUplinkUnit u)
/-- R154, R185. -/
def execResponseFrameStart (s : State) : Host.Outcome State Fault Refusal := .next s.responseFrameStart
/-- R154, R186. -/
def execResponseFrameEnd (s : State) : Host.Outcome State Fault Refusal := .next s.responseFrameEnd
/-- R175, R185. -/
def execEventFrameStart (s : State) : Host.Outcome State Fault Refusal := .next s.eventFrameStart
/-- R176, R186. -/
def execEventFrameEnd (s : State) : Host.Outcome State Fault Refusal := .next s.eventFrameEnd

end Sys2Proof.Machine
end

