-- ==== Sys2Proof/Machine/Dispatch.lean ====
section
/-! DEFINITION. One arm per command, each a direct call of its meaning. -/

namespace Sys2Proof.Machine

def exec (i : Instr) (s : State) : Host.Outcome State Fault Refusal :=
  match i with
  | .powerOn => Sys2Proof.Machine.execPowerOn s
  | .trunkUp => Sys2Proof.Machine.execTrunkUp s
  | .trunkLoss => Sys2Proof.Machine.execTrunkLoss s
  | .receivedCell unit => Sys2Proof.Machine.execReceivedCell unit s
  | .dataOnly => Sys2Proof.Machine.execDataOnly s
  | .dataFirst => Sys2Proof.Machine.execDataFirst s
  | .dataMiddle => Sys2Proof.Machine.execDataMiddle s
  | .dataLast => Sys2Proof.Machine.execDataLast s
  | .cellTransmissionEnd => Sys2Proof.Machine.execCellTransmissionEnd s
  | .gapTimerExpiry context => Sys2Proof.Machine.execGapTimerExpiry context s
  | .agingTick => Sys2Proof.Machine.execAgingTick s
  | .classifierTake => Sys2Proof.Machine.execClassifierTake s
  | .classificationEnd => Sys2Proof.Machine.execClassificationEnd s
  | .swap => Sys2Proof.Machine.execSwap s
  | .idleTimerExpiry => Sys2Proof.Machine.execIdleTimerExpiry s
  | .refreshTimerExpiry => Sys2Proof.Machine.execRefreshTimerExpiry s
  | .coalescingTimerExpiry => Sys2Proof.Machine.execCoalescingTimerExpiry s
  | .uplinkSignal => Sys2Proof.Machine.execUplinkSignal s
  | .trainingComplete => Sys2Proof.Machine.execTrainingComplete s
  | .trainingFailure => Sys2Proof.Machine.execTrainingFailure s
  | .lossOfSignal => Sys2Proof.Machine.execLossOfSignal s
  | .requestFrame unit => Sys2Proof.Machine.execRequestFrame unit s
  | .creditFrame unit => Sys2Proof.Machine.execCreditFrame unit s
  | .uplinkFrameError unit => Sys2Proof.Machine.execUplinkFrameError unit s
  | .responseFrameStart => Sys2Proof.Machine.execResponseFrameStart s
  | .responseFrameEnd => Sys2Proof.Machine.execResponseFrameEnd s
  | .eventFrameStart => Sys2Proof.Machine.execEventFrameStart s
  | .eventFrameEnd => Sys2Proof.Machine.execEventFrameEnd s
  | .deliveryFrameStart => Sys2Proof.Machine.execDeliveryFrameStart s
  | .deliveryFrameEnd => Sys2Proof.Machine.execDeliveryFrameEnd s
  | .deliveryMemoryError => Sys2Proof.Machine.execDeliveryMemoryError s
  | .removalWork => Sys2Proof.Machine.execRemovalWork s
  | .badTag => Sys2Proof.Machine.execBadTag s
  | .retryMatch => Sys2Proof.Machine.execRetryMatch s
  | .badKind => Sys2Proof.Machine.execBadKind s
  | .getStatus => Sys2Proof.Machine.execGetStatus s
  | .getParam => Sys2Proof.Machine.execGetParam s
  | .setParam => Sys2Proof.Machine.execSetParam s
  | .setRights => Sys2Proof.Machine.execSetRights s
  | .softRestart => Sys2Proof.Machine.execSoftRestart s
  | .readStation => Sys2Proof.Machine.execReadStation s
  | .listStations => Sys2Proof.Machine.execListStations s
  | .pinStation => Sys2Proof.Machine.execPinStation s
  | .unpinStation => Sys2Proof.Machine.execUnpinStation s
  | .removeStation => Sys2Proof.Machine.execRemoveStation s
  | .flushLearned => Sys2Proof.Machine.execFlushLearned s
  | .readContext => Sys2Proof.Machine.execReadContext s
  | .readPool => Sys2Proof.Machine.execReadPool s
  | .readClauseActive => Sys2Proof.Machine.execReadClauseActive s
  | .readClauseStaging => Sys2Proof.Machine.execReadClauseStaging s
  | .readHits => Sys2Proof.Machine.execReadHits s
  | .openEdit => Sys2Proof.Machine.execOpenEdit s
  | .writeClause => Sys2Proof.Machine.execWriteClause s
  | .writeProbes => Sys2Proof.Machine.execWriteProbes s
  | .setDefault => Sys2Proof.Machine.execSetDefault s
  | .setCount => Sys2Proof.Machine.execSetCount s
  | .commit => Sys2Proof.Machine.execCommit s
  | .abortEdit => Sys2Proof.Machine.execAbortEdit s
  | .readQueue => Sys2Proof.Machine.execReadQueue s
  | .haltQueue => Sys2Proof.Machine.execHaltQueue s
  | .restartQueue => Sys2Proof.Machine.execRestartQueue s
  | .flushQueue => Sys2Proof.Machine.execFlushQueue s
  | .sendHold => Sys2Proof.Machine.execSendHold s
  | .sendRelease => Sys2Proof.Machine.execSendRelease s
  | .readCounters => Sys2Proof.Machine.execReadCounters s
  | .clearCounters => Sys2Proof.Machine.execClearCounters s
  | .setEvents => Sys2Proof.Machine.execSetEvents s
  | .flushEvents => Sys2Proof.Machine.execFlushEvents s

end Sys2Proof.Machine
end

