-- ==== Sys2Proof/Machine/Step.lean ====
section
/-! DEFINITION. One step: the command at the front of the queue, or, with none, the part by itself. -/

namespace Sys2Proof.Machine

/-- Take the command at the front of the queue and run it on the queue's rest; on an empty queue the part acts by
itself (log 2). -/
def step (s : State) : Host.Outcome State Fault Refusal :=
  match s.pending with
  | [] => .next s.idle
  | c :: rest => exec c (s.withPending rest)

/-- `s` with the command that a word spells at the front of its queue; `s` where the word spells none (log 23). -/
def State.withFetchWord (s : State) (nbits w : Nat) : State :=
  match decodeTableWord nbits w with
  | some c => s.withPending (c :: s.pending)
  | none => s

end Sys2Proof.Machine
end

