-- ==== Sys2Proof/WellFormed.lean ====
section
/-! DEFINITION. When a command is the row it says it is: the checks that Syntax does not make. -/

namespace Sys2Proof

/-- The rows REQUEST_FRAME, CREDIT_FRAME and UPLINK_FRAME_ERROR are the three outcomes of the checks of R183: the unit
of such a command must have the outcome of its row. Every other command is well formed. -/
def Instr.wellFormed : Instr → Bool
  | .requestFrame u => match Machine.checkInbound u with
    | .request _ => true
    | .credit _ _ => false
    | .error _ => false
  | .creditFrame u => match Machine.checkInbound u with
    | .credit _ _ => true
    | .request _ => false
    | .error _ => false
  | .uplinkFrameError u => match Machine.checkInbound u with
    | .error _ => true
    | .request _ => false
    | .credit _ _ => false
  | .powerOn => true
  | .trunkUp => true
  | .trunkLoss => true
  | .receivedCell _ => true
  | .dataOnly => true
  | .dataFirst => true
  | .dataMiddle => true
  | .dataLast => true
  | .cellTransmissionEnd => true
  | .gapTimerExpiry _ => true
  | .agingTick => true
  | .classifierTake => true
  | .classificationEnd => true
  | .swap => true
  | .idleTimerExpiry => true
  | .refreshTimerExpiry => true
  | .coalescingTimerExpiry => true
  | .uplinkSignal => true
  | .trainingComplete => true
  | .trainingFailure => true
  | .lossOfSignal => true
  | .responseFrameStart => true
  | .responseFrameEnd => true
  | .eventFrameStart => true
  | .eventFrameEnd => true
  | .deliveryFrameStart => true
  | .deliveryFrameEnd => true
  | .deliveryMemoryError => true
  | .removalWork => true
  | .badTag => true
  | .retryMatch => true
  | .badKind => true
  | .getStatus => true
  | .getParam => true
  | .setParam => true
  | .setRights => true
  | .softRestart => true
  | .readStation => true
  | .listStations => true
  | .pinStation => true
  | .unpinStation => true
  | .removeStation => true
  | .flushLearned => true
  | .readContext => true
  | .readPool => true
  | .readClauseActive => true
  | .readClauseStaging => true
  | .readHits => true
  | .openEdit => true
  | .writeClause => true
  | .writeProbes => true
  | .setDefault => true
  | .setCount => true
  | .commit => true
  | .abortEdit => true
  | .readQueue => true
  | .haltQueue => true
  | .restartQueue => true
  | .flushQueue => true
  | .sendHold => true
  | .sendRelease => true
  | .readCounters => true
  | .clearCounters => true
  | .setEvents => true
  | .flushEvents => true

end Sys2Proof
end

