-- ==== Sys2Proof/Safety.lean ====
section
/-! DEFINITION. What claims about the part are stated in: a request that is taken and answered, the blocks that a
command may change, and the invariants that every step keeps. -/

namespace Sys2Proof

namespace Machine

/-! ### A request that is taken -/

/-- R155: the Management Unit can take a request: it is IDLE and the response queue has the room. -/
def State.CanTake (s : State) : Prop :=
  s.management.unit = .idle ∧ s.management.responses.length < (if s.commitPending then 7 else 8)

/-- R155, R156 steps 1 to 3: request `r` of tag `t` and kind `k` is the next that the Management Unit takes, and it is
no retry. -/
structure State.Due (s : State) (t : Fin 4) (k : RequestKind) (r : Request) : Prop where
  canTake : s.CanTake
  head : s.management.fifo.head? = some r
  tag : r.tag.toNat = t.val
  fresh : s.management.sessions[t].lastSequence ≠ some r.sequence
  kind : r.kind = k.code

/-- R156 steps 4 and 5 passed as well: the request reaches the block that owns it. -/
structure State.Passes (s : State) (t : Fin 4) (k : RequestKind) (r : Request) : Prop where
  due : s.Due t k r
  right : k.allowedBy r.args s.management.sessions[t].rights = true
  length : r.args.length = k.argLength

/-- R159: what the retry cache keeps of a response: all of it, or no data beyond 64 bytes. -/
def cachedForm (kind : Byte) (st : Status) (data : List Byte) : CachedResponse :=
  if data.length ≤ 64 then .whole kind st data else .resendRefused kind st

/-- R154, R155, R159: the Management Unit after it has taken request `r` of tag `t` from the FIFO, placed the response
and recorded both in the session entry of the tag (the flag awaitsSwap is the model's, log 30). -/
def Management.answered (m : Management) (t : Fin 4) (r : Request) (st : Status) (data : List Byte) : Management :=
  { m with
    fifo := m.fifo.tail
    responses := m.responses ++ [{ tag := r.tag, sequence := r.sequence, kind := r.kind, status := st, data := data }]
    sessions := m.sessions.set t { m.sessions[t] with
      lastSequence := some r.sequence, inProgress := false, cached := some (cachedForm r.kind st data),
      awaitsSwap := false } }

/-- R155, R159: the Management Unit after a take whose response comes later (the flag awaitsSwap is the model's,
log 30). -/
def Management.accepted (m : Management) (t : Fin 4) (r : Request) : Management :=
  { m with
    fifo := m.fifo.tail
    sessions := m.sessions.set t { m.sessions[t] with
      lastSequence := some r.sequence, inProgress := true, cached := none, awaitsSwap := false } }

/-- The state in which request `r` has been answered and nothing else has changed. -/
def State.answered (s : State) (t : Fin 4) (r : Request) (st : Status) (data : List Byte) : State :=
  s.withManagement (s.management.answered t r st data)

/-- R155: request `r` is at the head of the FIFO of a Management Unit that can take it. -/
def State.Waits (s : State) (r : Request) : Prop := s.CanTake ∧ s.management.fifo.head? = some r

/-- Section 9.5: one row of the catalogue of requests: the kind, its code, the argument bytes, and whether a set of
rights holds the right that it needs. -/
structure CatalogueRow where
  kind : RequestKind
  code : Byte
  length : Nat
  right : Rights → Bool

/-- Section 9.5: the catalogue; the right of READ_COUNTERS is that of the clear option 0. -/
def catalogue : List CatalogueRow :=
  [⟨.getStatus, 0x01, 0, Rights.read⟩, ⟨.getParam, 0x02, 1, Rights.read⟩, ⟨.setParam, 0x03, 3, Rights.control⟩,
   ⟨.setRights, 0x04, 2, Rights.supervisor⟩, ⟨.softRestart, 0x05, 0, Rights.supervisor⟩,
   ⟨.readStation, 0x10, 2, Rights.read⟩, ⟨.listStations, 0x11, 1, Rights.read⟩,
   ⟨.pinStation, 0x12, 4, Rights.control⟩, ⟨.unpinStation, 0x13, 2, Rights.control⟩,
   ⟨.removeStation, 0x14, 2, Rights.control⟩, ⟨.flushLearned, 0x15, 0, Rights.control⟩,
   ⟨.readContext, 0x18, 1, Rights.read⟩, ⟨.readPool, 0x19, 0, Rights.read⟩] ++
  [⟨.readClause, 0x20, 2, Rights.read⟩, ⟨.readHits, 0x21, 1, Rights.read⟩, ⟨.openEdit, 0x22, 0, Rights.edit⟩,
   ⟨.writeClause, 0x23, 13, Rights.edit⟩, ⟨.writeProbes, 0x24, 8, Rights.edit⟩, ⟨.setDefault, 0x25, 3, Rights.edit⟩,
   ⟨.setCount, 0x26, 2, Rights.edit⟩, ⟨.commit, 0x27, 0, Rights.edit⟩, ⟨.abortEdit, 0x28, 0, Rights.edit⟩] ++
  [⟨.readQueue, 0x30, 1, Rights.read⟩, ⟨.haltQueue, 0x31, 1, Rights.control⟩,
   ⟨.restartQueue, 0x32, 1, Rights.control⟩, ⟨.flushQueue, 0x33, 1, Rights.control⟩,
   ⟨.sendHold, 0x38, 2, Rights.control⟩, ⟨.sendRelease, 0x39, 0, Rights.control⟩,
   ⟨.readCounters, 0x40, 2, Rights.read⟩, ⟨.clearCounters, 0x41, 1, Rights.control⟩,
   ⟨.setEvents, 0x42, 2, Rights.control⟩, ⟨.flushEvents, 0x43, 0, Rights.control⟩]

/-- R161: the parameters by number with the values in force. -/
def Params.listed (p : Params) : List (Nat × Nat) :=
  [(1, p.trunkAddress.toNat), (2, if p.learning then 1 else 0), (3, p.defaultTag.toNat), (4, p.ageLimit.toNat),
   (5, p.gapLimit), (6, p.maxLength), (7, p.contextsPerStation), (8, p.hOn), (9, p.hOff),
   (10, p.holdDuration.toNat), (11, p.coalesceCount), (12, p.coalesceTime)]
    ++ ((List.finRange 8).map fun q => (16 + q.val, p.weights[q]))
    ++ ((List.finRange 8).map fun q => (24 + q.val, p.blockLimits[q]))

/-- R161: the range of a parameter number; none for a number that is not in the table. -/
def paramRange (n : Nat) : Option (Nat × Nat) :=
  ([(1, 0, 4094), (2, 0, 1), (3, 0, 255), (4, 0, 255), (5, 1, 1000), (6, 64, 4096), (7, 1, 48), (8, 0, 2047),
    (9, 1, 2048), (10, 2, 65535), (11, 1, 255), (12, 1, 65535)]
      ++ ((List.range 8).map fun q => (16 + q, 1, 15)) ++ ((List.range 8).map fun q => (24 + q, 0, 2048))).lookup n

/-- R141, R162: whether SET_PARAM accepts value `v` for parameter `n`. -/
def Params.Admits (p : Params) (n v : Nat) : Prop :=
  (∃ lo hi, paramRange n = some (lo, hi) ∧ lo ≤ v ∧ v ≤ hi) ∧ (n = 8 → v < p.hOff) ∧ (n = 9 → p.hOn < v)

/-- The argument word at offset `i` is the station address `a`, 1 to 4,094. -/
def Request.Names (r : Request) (i : Nat) (a : Addr) : Prop :=
  (word16At r.args i).toNat = a.toNat ∧ 1 ≤ a.toNat ∧ a.toNat ≤ 4094

/-- The argument word at offset `i` is outside 1 to 4,094. -/
def Request.NamesNone (r : Request) (i : Nat) : Prop :=
  (word16At r.args i).toNat = 0 ∨ 4094 < (word16At r.args i).toNat

/-! ### Programs and editing -/

/-- R103, R105, R106: the argument values of an editing request are in the ranges that its rule gives. -/
def Request.ValuesGood (r : Request) : RequestKind → Prop
  | .writeClause => (byteAt r.args 1).toNat ≤ 2 ∧ (byteAt r.args 6).toNat ≤ 1 ∧ (byteAt r.args 7).toNat ≤ 3 ∧
      (byteAt r.args 10).toNat ≤ 1
  | .setDefault => (byteAt r.args 0 = 1 ∨ byteAt r.args 0 = 3) ∧ (byteAt r.args 1).toNat ≤ 7 ∧
      (byteAt r.args 2).toNat ≤ 1
  | .setCount => (word16At r.args 0).toNat ≤ 256
  | _ => True

/-- R100: the tag that holds the edit session. -/
def EditState.holder : EditState → Option (Fin 4)
  | .none => Option.none
  | .editing h _ _ => some h
  | .committing h _ _ => some h

/-- Clause `pos` lies before the clause count and is `c`. -/
def Program.Holds (g : Program) (pos : Nat) (c : Clause) : Prop := pos < g.count ∧ g.clauses[pos]? = some c

/-- R111: the table of the checks: clause `pos` fails the check of the given reason code. -/
def Program.Fails (g : Program) (pos : Nat) : Nat → Prop
  | 1 => (∃ p c o, g.Holds pos (.testAnd p c o) ∧ 9 < p.toNat) ∨
      (∃ p c o a, g.Holds pos (.testEnd p c o a) ∧ 9 < p.toNat) ∨ ∃ p c o i, g.Holds pos (.gate p c o i) ∧ 9 < p.toNat
  | 2 => (∃ p c o, g.Holds pos (.testAnd p c o) ∧ 3 < c.toNat) ∨
      (∃ p c o a, g.Holds pos (.testEnd p c o a) ∧ 3 < c.toNat) ∨ ∃ p c o i, g.Holds pos (.gate p c o i) ∧ 3 < c.toNat
  | 3 => (∃ p c o q m, g.Holds pos (.testEnd p c o (.deliver q m)) ∧ 7 < q.toNat) ∨
      ∃ p c o q q2 m, g.Holds pos (.testEnd p c o (.mirror q q2 m)) ∧ (7 < q.toNat ∨ 7 < q2.toNat)
  | 4 => ∃ p c o q m, g.Holds pos (.testEnd p c o (.mirror q q m))
  | 5 => ∃ p c o i, g.Holds pos (.gate p c o i) ∧ (i.toNat ≤ pos ∨ g.count < i.toNat)
  | 6 => (∃ m, g.Holds pos (.care m)) ∧
      ¬ ∃ k, pos < k ∧ (∀ j, pos < j → j < k → ∃ m, g.Holds j (.care m)) ∧
        ((∃ p c o, g.Holds k (.testAnd p c o)) ∨ ∃ p c o a, g.Holds k (.testEnd p c o a))
  | 7 => pos + 1 = g.count ∧ ((∃ m, g.Holds pos (.care m)) ∨ ∃ p c o, g.Holds pos (.testAnd p c o))
  | _ => False

/-- R111 check 8: probe `i` is present with an offset above 4,094. -/
def Program.ProbeFails (g : Program) (i : Fin 4) : Prop := ∃ o, g.probes[i] = some o ∧ 4094 < o.toNat

/-- R111: the program is valid. -/
def Program.Valid (g : Program) : Prop :=
  (∀ pos reason, pos < g.count → ¬ g.Fails pos reason) ∧ ∀ i, ¬ g.ProbeFails i

/-- R111: the failing item and the reason: the first position with a failing check and the first check that fails
there; else the first failing probe. -/
def Program.Refused (g : Program) (item reason : Nat) : Prop :=
  (item < g.count ∧ g.Fails item reason ∧ (∀ n < reason, ¬ g.Fails item n) ∧ ∀ pos < item, ∀ n, ¬ g.Fails pos n) ∨
  ((∀ pos reason, pos < g.count → ¬ g.Fails pos reason) ∧ reason = 8 ∧
    ∃ i : Fin 4, item = 256 + i.val ∧ g.ProbeFails i ∧ ∀ j < i, ¬ g.ProbeFails j)

/-- R113: what the swap puts in place. -/
def ProgramStore.swapped (x : ProgramStore) (g : Program) : ProgramStore :=
  { active := g, generation := x.generation + 1, hits := Vector.replicate 256 0, edit := .none }

/-! ### Station Table -/

/-- The entry `e` for address `a` is in position `i`, and no other entry is for that address (R17). -/
def StationTable.Has (x : StationTable) (a : Addr) (i : Fin 64) (e : StationEntry) : Prop :=
  x.entries[i] = some e ∧ e.address = a ∧ ∀ j e', x.entries[j] = some e' → e'.address = a → j = i

/-- No entry is present for address `a`. -/
def StationTable.Lacks (x : StationTable) (a : Addr) : Prop :=
  ∀ (j : Fin 64) e, x.entries[j] = some e → e.address ≠ a

/-- Position `i` is the lowest-numbered empty one (R17). -/
def StationTable.Room (x : StationTable) (i : Fin 64) : Prop :=
  x.entries[i] = none ∧ ∀ j : Fin 64, j < i → x.entries[j] ≠ none

/-- The table with `e` in position `i`. -/
def StationTable.put (x : StationTable) (i : Fin 64) (e : Option StationEntry) : StationTable :=
  { x with entries := x.entries.set i e }

/-- The table with `f` applied to the entry for address `a` (R53). -/
def StationTable.report (x : StationTable) (a : Addr) (f : StationEntry → StationEntry) : StationTable :=
  { x with entries := mapTable (Option.map fun e => if e.address = a then f e else e) x.entries }

/-- The addresses of the entries present are unique (R17). -/
def StationTable.Unique (x : StationTable) : Prop :=
  ∀ (i j : Fin 64) e e', x.entries[i] = some e → x.entries[j] = some e' → e.address = e'.address → i = j

/-! ### Contexts -/

/-- R54: the open-context count of the entry for address `a` is `n`; it counts as 0 without an entry. -/
def StationTable.OpenCount (x : StationTable) (a : Addr) (n : Nat) : Prop :=
  (∃ i e, x.Has a i e ∧ e.openCount = n) ∨ (x.Lacks a ∧ n = 0)

/-- R52: context `i` is the one OPEN or DISCARDING with the key. -/
def State.KeyHeld (s : State) (a : Addr) (ch : Chan) (i : Fin 48) : Prop :=
  ∀ j : Fin 48, s.reassembly.contexts[j].body.hasKey a ch = true ↔ j = i

/-- R52: no context is OPEN or DISCARDING with the key. -/
def State.KeyFree (s : State) (a : Addr) (ch : Chan) : Prop :=
  ∀ j : Fin 48, s.reassembly.contexts[j].body.hasKey a ch = false

/-- R54: context `i` is the lowest-numbered FREE one. -/
def State.LowestFree (s : State) (i : Fin 48) : Prop :=
  s.reassembly.contexts[i].body = .free ∧ ∀ j < i, s.reassembly.contexts[j].body ≠ .free

/-- Context `i` replaced by `c`, and the counters by `k`. -/
def State.contextPut (s : State) (i : Fin 48) (c : Context) (k : ReassemblyCounters) : State :=
  s.withReassembly { s.reassembly with contexts := s.reassembly.contexts.set i c, counters := k }

/-- The expiry of a gap timer that starts now (R64). -/
def State.gapEnd (s : State) : U32 := s.events.timebase + BitVec.ofNat 32 (1000 * s.params.gapLimit)

/-- R69: the abort of the OPEN context `i`, which holds `m`, with reason `r`, by the table of R69: the context becomes
`left`; unless that is DISCARDING the station's open-context count falls. -/
def State.aborted (s : State) (i : Fin 48) (m : Message) (r : AbortReason) (left : ContextState) : State :=
  let k := s.reassembly.counters
  let (k', error, event) := match r with
    | .none => (k, false, Option.none)
    | .restart => ({ k with restart := satInc k.restart }, true, Option.none)
    | .sequence => ({ k with sequence := satInc k.sequence }, true, some EventKind.sequenceError)
    | .timeout => ({ k with timeout := satInc k.timeout }, true, some .reassemblyTimeout)
    | .oversize => ({ k with oversize := satInc k.oversize }, true, some .oversize)
    | .noBuffer => ({ k with noBuffer := satInc k.noBuffer }, true, some .noBuffer)
    | .flushed => ({ k with flushed := satInc k.flushed }, false, Option.none)
    | .trunkLoss => ({ k with trunkLoss := satInc k.trunkLoss }, false, Option.none)
  let freed := (((s.contextPut i { body := left, lastAbort := r } k').withPool (s.pool.release m.chain)).handFreeCount)
  let reported := freed.withStations (s.stations.report m.station fun e => { e with
    errors := if error then satInc e.errors else e.errors,
    openCount := if left = .free then e.openCount - 1 else e.openCount })
  match event with
  | some e => reported.post e (m.station.zeroExtend 16)
  | none => reported

/-- R67: a context becomes COMPLETE with message `m` and joins the tail of the pending list; `closes` says that it was
OPEN, so that the station's open-context count falls. -/
def State.completed (s : State) (i : Fin 48) (m : Message) (closes : Bool) : State :=
  (s.withReassembly { contexts := s.reassembly.contexts.set i { s.reassembly.contexts[i] with body := .complete m },
                      pendingList := s.reassembly.pendingList ++ [i],
                      counters := { s.reassembly.counters with
                        completed := satInc s.reassembly.counters.completed } }).withStations
    (s.stations.report m.station fun e => { e with
      completed := satInc e.completed, openCount := if closes then e.openCount - 1 else e.openCount })

/-- R38, R39: the pool after a stored cell; a change of the free count is handed on. -/
def State.poolStored (s : State) (p : BlockPool) : State :=
  if p.free.length = s.pool.free.length then s.withPool p else (s.withPool p).handFreeCount

/-! ### The Block Pool -/

/-- R40: the blocks `l` are those of chain `c`: the links lead from the head to the tail, which has none; every block
but the tail is full. -/
structure BlockPool.Forms (p : BlockPool) (c : Chain) (l : List Nat) : Prop where
  count : l.length = c.count
  head : l.head? = some c.head
  tail : l.getLast? = some c.tail
  links : ∀ i, (h : i < l.length) → (p.fields l[i]).link = l[i + 1]?
  full : ∀ i, i + 1 < l.length → ∀ b, l[i]? = some b → (p.fields b).fill = 64
  room : (p.fields c.tail).fill ≤ 64
  distinct : l.Nodup

/-! ### Evaluation -/

/-- R85: the term in which clause `pos` lies ends before clause `k`: at the first TEST with link END, or just before a
GATE. -/
def Program.TermEnds (g : Program) (pos k : Nat) : Prop :=
  pos < k ∧ ((∃ p c o a, g.Holds (k - 1) (.testEnd p c o a)) ∨ ∃ p c o i, g.Holds k (.gate p c o i)) ∧
  ∀ j, pos ≤ j → j + 1 < k → (¬ ∃ p c o a, g.Holds j (.testEnd p c o a)) ∧ ¬ ∃ p c o i, g.Holds (j + 1) (.gate p c o i)

/-- R84: whether a comparison passes for property value `p`, operand `o` and mask `m`. -/
def comparisonPasses (comparison : Byte) (p o m : U16) : Prop :=
  (comparison = 0 ∧ p &&& m = o &&& m) ∨ (comparison = 1 ∧ p &&& m ≠ o &&& m) ∨
  (comparison = 2 ∧ (o &&& m).toNat ≤ (p &&& m).toNat) ∨ (comparison = 3 ∧ (p &&& m).toNat < (o &&& m).toNat)

/-- R85 to R89: evaluation at clause `pos` under Care Mask `mask` decides: the positions whose hit counters it
increments, in order, and the action; none is the default action. -/
inductive Program.Decides (g : Program) (x : Properties) : Nat → U16 → List Nat → Option ClauseAction → Prop
  | default (pos mask) : g.count ≤ pos → Decides g x pos mask [] none
  | care (pos mask m hits a) : g.Holds pos (.care m) → Decides g x (pos + 1) m hits a → Decides g x pos mask hits a
  | andPasses (pos mask p c o hits a) : g.Holds pos (.testAnd p c o) → comparisonPasses c (x.value p) o mask →
      Decides g x (pos + 1) mask hits a → Decides g x pos mask hits a
  | andFails (pos mask p c o k hits a) : g.Holds pos (.testAnd p c o) → ¬ comparisonPasses c (x.value p) o mask →
      g.TermEnds pos k → Decides g x k 0xFFFF hits a → Decides g x pos mask hits a
  | endPassesNone (pos mask p c o hits a) : g.Holds pos (.testEnd p c o .none) →
      comparisonPasses c (x.value p) o mask → Decides g x (pos + 1) 0xFFFF hits a → Decides g x pos mask (pos :: hits) a
  | endPasses (pos mask p c o a) : g.Holds pos (.testEnd p c o a) → a ≠ .none →
      comparisonPasses c (x.value p) o mask → Decides g x pos mask [pos] (some a)
  | endFails (pos mask p c o b hits a) : g.Holds pos (.testEnd p c o b) → ¬ comparisonPasses c (x.value p) o mask →
      Decides g x (pos + 1) 0xFFFF hits a → Decides g x pos mask hits a
  | gatePasses (pos mask p c o i hits a) : g.Holds pos (.gate p c o i) → comparisonPasses c (x.value p) o 0xFFFF →
      Decides g x (pos + 1) 0xFFFF hits a → Decides g x pos mask hits a
  | gateFails (pos mask p c o i hits a) : g.Holds pos (.gate p c o i) → ¬ comparisonPasses c (x.value p) o 0xFFFF →
      Decides g x i.toNat 0xFFFF hits a → Decides g x pos mask hits a

/-! ### Delivery -/

/-- R119: queue `q` accepts a copy of a message of `n` blocks. -/
def State.Accepts (s : State) (q : Fin 8) (n : Nat) : Bool :=
  decide (s.delivery.queues[q].records.length < 128) &&
    decide (s.delivery.queues[q].charge + n ≤ s.params.blockLimits[q])

/-- R119: the offer of record `r` of `n` blocks to queue `q`. -/
def State.offered (s : State) (q : Fin 8) (n : Nat) (r : Record) : State :=
  let x := s.delivery.queues[q]
  let put := fun y : Queue => s.withDelivery { s.delivery with queues := s.delivery.queues.set q y }
  if s.Accepts q n then put { x with
    records := x.records ++ [r], charge := x.charge + n,
    counters := { x.counters with appended := satInc x.counters.appended } }
  else (put { x with counters := { x.counters with droppedFull := satInc x.counters.droppedFull } }).post .queueFull
    (BitVec.ofNat 16 q.val)

/-- R120, R43, R44: the head record of queue `q` leaves it. -/
def State.headRemoved (s : State) (q : Fin 8) : State :=
  match s.delivery.queues[q].records with
  | [] => s
  | r :: rest => (s.withDelivery { s.delivery with queues := s.delivery.queues.set q { s.delivery.queues[q] with
      records := rest, charge := s.delivery.queues[q].charge - (s.pool.chainEntry r.chain).count } }).dropReference
        r.chain

/-- R124: the choice of the scheduler: the queue, and the remaining turns. -/
def State.Chooses (s : State) (q : Fin 8) (turns : Nat) : Prop :=
  let c := s.delivery.current
  let eligible := fun j : Fin 8 => s.delivery.queues[j].state = .running ∧ s.delivery.queues[j].records ≠ [] ∧
    1 ≤ s.delivery.queues[j].credit.toNat
  if eligible c ∧ 0 < s.delivery.turns then q = c ∧ turns + 1 = s.delivery.turns
  else ∃ k : Fin 8, q = c + 1 + k ∧ eligible q ∧ (∀ j < k, ¬ eligible (c + 1 + j)) ∧
    turns = s.params.weights[q] - 1

/-! ### What a command may change -/

/-- The blocks of the part with their fields of State, the parameters, the record of the transmit lanes and the count
of free values drawn. -/
inductive Block where
  | trunkReceiver
  | trunkTransmitter
  | stationTable
  | stream
  | blockPool
  | reassemblyUnit
  | classifier
  | programStore
  | deliveryUnit
  | uplinkPort
  | holdController
  | managementUnit
  | eventUnit
  | parameters
  | lanes
  | draws
  deriving DecidableEq, Repr

/-- Block `b` holds in `t` what it holds in `s`. -/
def Block.same (b : Block) (s t : State) : Prop :=
  match b with
  | .trunkReceiver => t.trunkRx = s.trunkRx
  | .trunkTransmitter => t.trunkTx = s.trunkTx
  | .stationTable => t.stations = s.stations
  | .stream => t.stream = s.stream
  | .blockPool => t.pool = s.pool
  | .reassemblyUnit => t.reassembly = s.reassembly
  | .classifier => t.classifier = s.classifier
  | .programStore => t.program = s.program
  | .deliveryUnit => t.delivery = s.delivery
  | .uplinkPort => t.uplink = s.uplink
  | .holdController => t.hold = s.hold
  | .managementUnit => t.management = s.management
  | .eventUnit => t.events = s.events
  | .parameters => t.params = s.params
  | .lanes => t.outputs = s.outputs
  | .draws => t.freeDraws = s.freeDraws

/-- The blocks that an evaluation of the Hold Controller may change (R142 to R144). -/
def Block.hold : List Block := [.holdController, .trunkTransmitter, .eventUnit]

/-- The blocks that a cell at the Reassembly Unit may change (R52). -/
def Block.cell : List Block := [.stream, .reassemblyUnit, .stationTable, .blockPool] ++ Block.hold

/-- The blocks that UPLINK LOSS may change (R182). -/
def Block.uplinkLoss : List Block := [.uplinkPort, .deliveryUnit, .managementUnit, .eventUnit, .programStore]

/-- Every block. -/
def Block.all : List Block :=
  [.trunkReceiver, .trunkTransmitter, .stationTable, .stream, .blockPool, .reassemblyUnit, .classifier, .programStore,
   .deliveryUnit, .uplinkPort, .holdController, .managementUnit, .eventUnit, .parameters, .lanes, .draws]

end Machine

/-- The blocks that a row may change, by the chapters' rules and spec/95_what_each_step_holds.md. -/
def Instr.reach : Instr → List Machine.Block
  | .powerOn => Machine.Block.all
  | .trunkUp => [.trunkReceiver] ++ Machine.Block.hold
  | .trunkLoss => [.trunkReceiver, .reassemblyUnit, .stationTable, .blockPool] ++ Machine.Block.hold
  | .receivedCell _ => [.trunkReceiver, .stationTable, .stream, .eventUnit]
  | .dataOnly => Machine.Block.cell
  | .dataFirst => Machine.Block.cell
  | .dataMiddle => Machine.Block.cell
  | .dataLast => Machine.Block.cell
  | .cellTransmissionEnd => [.trunkTransmitter, .lanes]
  | .gapTimerExpiry _ => [.reassemblyUnit, .stationTable, .blockPool] ++ Machine.Block.hold
  | .agingTick => [.stationTable, .eventUnit]
  | .classifierTake => [.reassemblyUnit, .classifier]
  | .classificationEnd =>
    [.programStore, .deliveryUnit, .classifier, .blockPool, .reassemblyUnit] ++ Machine.Block.hold
  | .swap => [.programStore, .eventUnit, .managementUnit]
  | .idleTimerExpiry => [.programStore, .eventUnit]
  | .refreshTimerExpiry => [.holdController, .trunkTransmitter]
  | .coalescingTimerExpiry => [.eventUnit]
  | .uplinkSignal => [.uplinkPort]
  | .trainingComplete => [.uplinkPort]
  | .trainingFailure => Machine.Block.uplinkLoss
  | .lossOfSignal => Machine.Block.uplinkLoss
  | .requestFrame _ => [.managementUnit, .eventUnit]
  | .creditFrame _ => [.deliveryUnit, .uplinkPort, .eventUnit]
  | .uplinkFrameError _ => [.uplinkPort, .eventUnit]
  | .responseFrameStart => [.uplinkPort]
  | .responseFrameEnd => [.uplinkPort, .managementUnit, .lanes]
  | .eventFrameStart => [.uplinkPort, .eventUnit]
  | .eventFrameEnd => [.uplinkPort, .eventUnit, .lanes]
  | .deliveryFrameStart => [.uplinkPort, .deliveryUnit]
  | .deliveryFrameEnd => [.uplinkPort, .deliveryUnit, .blockPool, .lanes] ++ Machine.Block.hold
  | .deliveryMemoryError => [.uplinkPort, .deliveryUnit, .blockPool] ++ Machine.Block.hold
  | .removalWork => [.managementUnit] ++ Machine.Block.cell
  | .badTag => [.managementUnit]
  | .retryMatch => [.managementUnit]
  | .badKind => [.managementUnit]
  | .getStatus => [.managementUnit]
  | .getParam => [.managementUnit]
  | .setParam => [.managementUnit, .parameters] ++ Machine.Block.hold
  | .setRights => [.managementUnit]
  | .softRestart =>
    [.managementUnit, .uplinkPort, .draws, .reassemblyUnit, .classifier, .stationTable, .deliveryUnit, .programStore,
     .blockPool] ++ Machine.Block.hold
  | .readStation => [.managementUnit]
  | .listStations => [.managementUnit]
  | .pinStation => [.managementUnit, .stationTable]
  | .unpinStation => [.managementUnit, .stationTable]
  | .removeStation => [.managementUnit, .stationTable, .stream]
  | .flushLearned => [.managementUnit, .stationTable, .stream]
  | .readContext => [.managementUnit]
  | .readPool => [.managementUnit]
  | .readClauseActive => [.managementUnit]
  | .readClauseStaging => [.managementUnit]
  | .readHits => [.managementUnit]
  | .openEdit => [.managementUnit, .programStore]
  | .writeClause => [.managementUnit, .programStore]
  | .writeProbes => [.managementUnit, .programStore]
  | .setDefault => [.managementUnit, .programStore]
  | .setCount => [.managementUnit, .programStore]
  | .commit => [.managementUnit, .programStore, .eventUnit]
  | .abortEdit => [.managementUnit, .programStore]
  | .readQueue => [.managementUnit]
  | .haltQueue => [.managementUnit, .deliveryUnit]
  | .restartQueue => [.managementUnit, .deliveryUnit]
  | .flushQueue => [.managementUnit, .deliveryUnit, .blockPool] ++ Machine.Block.hold
  | .sendHold => [.managementUnit, .holdController, .trunkTransmitter]
  | .sendRelease => [.managementUnit, .trunkTransmitter]
  | .readCounters =>
    [.managementUnit, .trunkReceiver, .stationTable, .reassemblyUnit, .classifier, .deliveryUnit, .trunkTransmitter,
     .uplinkPort]
  | .clearCounters =>
    [.managementUnit, .trunkReceiver, .stationTable, .reassemblyUnit, .classifier, .deliveryUnit, .trunkTransmitter,
     .uplinkPort]
  | .setEvents => [.managementUnit, .eventUnit]
  | .flushEvents => [.managementUnit, .eventUnit]

namespace Machine

/-! ### Invariants -/

/-- R153, R154, R155: the FIFO holds at most 8 requests; the responses, with one place for a pending COMMIT and one
for a request that is EXECUTING, are at most 8. -/
def State.QueuesBounded (s : State) : Prop :=
  s.management.fifo.length ≤ 8 ∧
  s.management.responses.length + (if s.commitPending then 1 else 0) + (if s.management.unit = .idle then 0 else 1) ≤ 8

/-- R152: tag 0 holds all four rights and no other tag holds SUPERVISOR. -/
def State.RightsKept (s : State) : Prop :=
  s.management.sessions[(0 : Fin 4)].rights = .all ∧
  ∀ t : Fin 4, t ≠ 0 → s.management.sessions[t].rights.supervisor = false

/-- R114, R158, R159: an accepted request of a tag has its response in the cache, or it is still in progress: the
pending COMMIT, where no newer request of the tag has been accepted (the flag awaitsSwap, log 30), or the request that
is EXECUTING. -/
def Session.Sound (x : Session) (t : Fin 4) (s : State) : Prop :=
  match x.lastSequence with
  | none => x.inProgress = false ∧ x.cached = none ∧ x.awaitsSwap = false
  | some q =>
    if x.inProgress then
      x.cached = none ∧
        if x.awaitsSwap then ∃ g, s.program.edit = .committing t g q else ∃ k, s.management.unit = .executing t q k
    else x.cached ≠ none ∧ x.awaitsSwap = false

/-- R158, R159, for the four tags. -/
def State.RetrySound (s : State) : Prop := ∀ t : Fin 4, s.management.sessions[t].Sound t s

/-- The Management Unit: its queues, its rights and its retry cache. -/
structure State.ManagementSound (s : State) : Prop where
  queues : s.QueuesBounded
  rights : s.RightsKept
  retry : s.RetrySound

/-- R82, R106, R111: the active program is valid, and so is the staging program while its commit is pending; no clause
count exceeds 256. -/
structure State.ProgramSound (s : State) : Prop where
  count : s.program.active.count ≤ 256
  valid : s.program.active.Valid
  staging : ∀ h g z, s.program.edit = .editing h g z → g.count ≤ 256
  committed : ∀ h g q, s.program.edit = .committing h g q → g.count ≤ 256 ∧ g.Valid

/-- MODEL's own (log 31): the Block Pool's storage is in canonical form. -/
def BlockPool.Canonical (p : BlockPool) : Prop :=
  Memory.wf p.content = true ∧ Sparse.wf BlockFields.unwritten p.blocks = true
    ∧ Sparse.wf ChainEntry.absent p.chains = true

/-- R36: the chains there are: those that OPEN and COMPLETE contexts hold, and those that have left their contexts. -/
def State.chainsHeld (s : State) : List Chain :=
  (s.reassembly.contexts.toList.filterMap fun c => c.body.chain)
    ++ s.pool.chains.map fun x => { head := x.1, tail := x.2.tail, count := x.2.count }

/-- R43: the number of records of the queues that name the chain of head block `h`. -/
def Delivery.naming (d : Delivery) (h : Nat) : Nat :=
  ((d.queues.toList.flatMap Queue.records).filter fun r => r.chain = h).length

/-- R36, R37, R40, R43, R44: the Block Pool. With them go what R6 lets a waiting cell carry, and that the Hold
Controller has the present free count (R39). -/
structure State.PoolSound (s : State) : Prop where
  /-- The storage is canonical (log 31). -/
  canonical : s.pool.Canonical
  /-- R40: every chain is linked from its head to its tail, and every block but the tail is full. -/
  formed : ∀ c ∈ s.chainsHeld, ∃ l, s.pool.Forms c l
  /-- R36, R37: each of the 2,048 blocks is once on the free list or once in one chain. -/
  places : (s.pool.free ++ s.chainsHeld.flatMap s.pool.chainBlocks).Perm (List.range 2048)
  /-- R43: a reference count is the number of records that name the chain. -/
  named : ∀ h, (s.pool.chainEntry h).refs = s.delivery.naming h
  /-- R43: it is 1 or 2. -/
  counts : ∀ x ∈ s.pool.chains, x.2.refs = 1 ∨ x.2.refs = 2
  /-- R44, R117: a queue's charge is the sum of the block counts of the chains that its records name. -/
  charges : ∀ q : Fin 8, s.delivery.queues[q].charge =
    (s.delivery.queues[q].records.map fun r => (s.pool.chainEntry r.chain).count).sum
  handed : s.hold.lastFree = s.pool.free.length
  payloads : ∀ c, .cell c ∈ s.stream → 1 ≤ c.payload.length ∧ c.payload.length ≤ 56

/-- R141, R161: every parameter is in its range, and H_off exceeds H_on. -/
def Params.InRange (p : Params) : Prop :=
  p.trunkAddress.toNat ≤ 4094 ∧ (1 ≤ p.gapLimit ∧ p.gapLimit ≤ 1000) ∧ (64 ≤ p.maxLength ∧ p.maxLength ≤ 4096)
    ∧ (1 ≤ p.contextsPerStation ∧ p.contextsPerStation ≤ 48) ∧ p.hOn ≤ 2047 ∧ (1 ≤ p.hOff ∧ p.hOff ≤ 2048)
    ∧ p.hOn < p.hOff ∧ 2 ≤ p.holdDuration.toNat ∧ (1 ≤ p.coalesceCount ∧ p.coalesceCount ≤ 255)
    ∧ (1 ≤ p.coalesceTime ∧ p.coalesceTime ≤ 65535) ∧ (∀ q : Fin 8, 1 ≤ p.weights[q] ∧ p.weights[q] ≤ 15)
    ∧ ∀ q : Fin 8, p.blockLimits[q] ≤ 2048

/-- R12, R15, R140, R149: with the trunk DOWN no hold is in force and no cell is on the lane or waits; and a cell waits
only behind one that is being sent. -/
def State.TrunkSound (s : State) : Prop :=
  (s.trunkRx.link = .down → s.hold.mode = .quiet ∧ s.trunkTx.inFlight = none) ∧
  (s.trunkTx.inFlight = none → s.trunkTx.slot = none)

/-- R17, R24: the addresses of the entries present are 1 to 4,094 and unique; the second since the last aging tick is not
over. -/
def StationTable.Sound (x : StationTable) : Prop :=
  (∀ (i : Fin 64) e, x.entries[i] = some e → 1 ≤ e.address.toNat ∧ e.address.toNat ≤ 4094) ∧ x.Unique
    ∧ x.microsSinceTick < 1000000

/-- R22: the number of OPEN and DISCARDING contexts of station `a`. -/
def State.openContexts (s : State) (a : Addr) : Nat :=
  (s.reassembly.contexts.toList.filter fun c => c.body.openStation = some a).length

/-- R28, R29, R53: removal work for station `a` waits on its way to the Reassembly Unit. -/
def State.RemovalWaits (s : State) (a : Addr) : Prop := ∃ l, .removal l ∈ s.stream ∧ a ∈ l

/-- R22, R53: the open-context counts. -/
structure State.OpenCountsSound (s : State) : Prop where
  /-- An entry's count is the number of its station's OPEN and DISCARDING contexts, but in the window that a removal
  opens. -/
  counted : ∀ (i : Fin 64) e, s.stations.entries[i] = some e → ¬ s.RemovalWaits e.address →
    e.openCount = s.openContexts e.address
  /-- In that window it is at most that number, so that the removal work brings it to 0. -/
  bounded : ∀ (i : Fin 64) e, s.stations.entries[i] = some e → e.openCount ≤ s.openContexts e.address
  /-- Outside that window a station without an entry has no such context. -/
  absent : ∀ a, s.stations.Lacks a → ¬ s.RemovalWaits a → s.openContexts a = 0
  /-- R21: a cell that waits is of a station with an entry, or removal work for its station waits behind it. -/
  known : ∀ before c after, s.stream = before ++ .cell c :: after → s.stations.Lacks c.source →
    ∃ l, .removal l ∈ after ∧ c.source ∈ l

/-- R24, R25: an aging tick now would remove no entry of a station whose cell still waits for the Reassembly Unit. (A
lookup sets the age to 0, so such a cell would have waited for more than the age limit.) -/
def State.NoStaleCell (s : State) : Prop :=
  ∀ c, .cell c ∈ s.stream → ∀ (i : Fin 64) e, s.stations.entries[i] = some e → e.address = c.source →
    e.older.removable s.params.ageLimit = false

/-- R51, R67, R68: at most one OPEN or DISCARDING context per key; the pending list holds, each once, the COMPLETE
contexts but the one under classification. -/
structure State.ContextsSound (s : State) : Prop where
  keys : ∀ (i j : Fin 48) a ch, s.reassembly.contexts[i].body.hasKey a ch = true →
    s.reassembly.contexts[j].body.hasKey a ch = true → i = j
  once : s.reassembly.pendingList.Nodup
  listed : ∀ i ∈ s.reassembly.pendingList, ∃ m, s.reassembly.contexts[i].body = .complete m
  taken : ∀ i g, s.classifier.state = .classifying i g →
    i ∉ s.reassembly.pendingList ∧ ∃ m, s.reassembly.contexts[i].body = .complete m
  held : ∀ (i : Fin 48) m, s.reassembly.contexts[i].body = .complete m →
    i ∈ s.reassembly.pendingList ∨ ∃ g, s.classifier.state = .classifying i g

/-- R117, R119, R121, R137, R181, R182: no queue holds more than 128 records; the in-flight mark names the queue of the
streaming frame, whose header is that queue's head record; with the link not UP the lane is IDLE, no request waits and
no queue has credit. -/
structure State.UplinkSound (s : State) : Prop where
  records : ∀ q : Fin 8, s.delivery.queues[q].records.length ≤ 128
  mark : ∀ q : Fin 8, s.delivery.queues[q].inFlight = true ↔ s.uplink.lane.streamingQueue = some q
  head : ∀ f, s.uplink.lane = .delivery f → f.payload = .streaming →
    s.delivery.queues[f.queue].records.head? = some f.header
  lane : s.uplink.link ≠ .up → s.uplink.lane = .idle
  fifo : s.uplink.link ≠ .up → s.management.fifo = []
  credit : s.uplink.link ≠ .up → ∀ q : Fin 8, s.delivery.queues[q].credit = 0

/-- R172, R173, R175, R176: a disabled slot counts nothing; a due flag or a running timer needs a sum above 0; without an
EVENT frame in flight nothing waits to be subtracted, and a sum above 0 has the flag set or the timer running, so that it
will be reported; with one in flight neither is set. -/
structure State.EventsSound (s : State) : Prop where
  disabled : ∀ i : Fin 22, s.events.slots[i].enabled = false →
    s.events.slots[i].count = 0 ∧ s.events.slots[i].subPending = 0
  idle : s.uplink.lane.isEvent = false → ∀ i : Fin 22, s.events.slots[i].subPending = 0
  waiting : s.events.due = true ∨ s.events.timer ≠ none → 0 < s.events.sum
  reported : s.uplink.lane.isEvent = false → 0 < s.events.sum → s.events.due = true ∨ s.events.timer ≠ none
  inFlight : s.uplink.lane.isEvent = true → s.events.due = false ∧ s.events.timer = none
  note : s.uplink.lane.isEvent = false → s.events.flushNote = false

end Machine

end Sys2Proof
end

