-- ==== Sys2Proof/Certificates/Slice0/Obligations.lean ====
section
/-! DEFINITION. The statements about the part that are to be settled. -/

open Sys2Proof Sys2Proof.Machine

/-! ### The step -/

/-- A step takes the command at the front of the queue and runs it on the queue's rest (the queue is the model's,
log 1). -/
def Obligations.StepRunsTheFrontCommand : Prop :=
  ∀ (c : Instr) (rest : List Instr) (s : State), s.pending = c :: rest → step s = exec c (s.withPending rest)

/-- A step on an empty queue, which is the part acting by itself, in the order of log 2 (the order, and that time passes
only when no work is ready, are the model's choice). Work that is ready joins the queue: with the Classifier IDLE the swap
of a pending commit (R113), or else the take of the pending list's head (R76); then the head of the stream (R21); then the
take of the Management Unit (R155, R156); then the grant of the arbiter (R185). When none is ready one microsecond passes
(R169): the timebase rises by 1, the seconds of R24 are counted, and what it brings is the whole queue, in the order of
log 2: the aging tick first (R25 leaves its order with the closing of a context open), then the gap timers that have come
to their expiry, by context number (R65 leaves their order open), then the idle, the refresh and the coalescing timer. An
expiry set d microseconds ahead, d below 2^31, is not reached before the timebase has advanced by d and is reached when it
has, and for 2^31 microseconds more, whether or not a wrap lies between (R169; the way to compare is log 4's). -/
def Obligations.EmptyQueueMakesReadyWorkOrTimePasses : Prop :=
  (∀ (s : State) (c : Instr), s.pending = [] → s.readyWork = some c → step s = .next (s.withPending [c])) ∧
  (∀ s : State,
    let idle := s.classifier.state = .idle
    let commits := ∃ h g q, s.program.edit = .committing h g q
    let eligible := fun q : Fin 8 => s.delivery.queues[q].state = .running ∧ s.delivery.queues[q].records ≠ [] ∧
      1 ≤ s.delivery.queues[q].credit.toNat
    (idle → commits → s.readyWork = some .swap) ∧
    (idle → ¬ commits → s.reassembly.pendingList ≠ [] → s.readyWork = some .classifierTake) ∧
    (¬ idle ∨ (¬ commits ∧ s.reassembly.pendingList = []) →
      (∀ l rest, s.stream = .removal l :: rest → s.readyWork = some .removalWork) ∧
      (∀ c rest, s.stream = .cell c :: rest → s.readyWork = some (match c.kind with
        | .only => .dataOnly | .first => .dataFirst | .middle => .dataMiddle | .last => .dataLast)) ∧
      (s.stream = [] → ∀ r, s.Waits r →
        (4 ≤ r.tag.toNat → s.readyWork = some .badTag) ∧
        ∀ t : Fin 4, r.tag.toNat = t.val →
          (s.management.sessions[t].lastSequence = some r.sequence → s.readyWork = some .retryMatch) ∧
          (s.management.sessions[t].lastSequence ≠ some r.sequence →
            (∀ k : RequestKind, r.kind = k.code → s.readyWork = some (k.command r)) ∧
            ((∀ x ∈ catalogue, x.code ≠ r.kind) → s.readyWork = some .badKind))) ∧
      (s.stream = [] → (∀ r, ¬ s.Waits r) →
        (s.uplink.link = .up → s.uplink.lane = .idle →
          (s.management.responses ≠ [] → s.readyWork = some .responseFrameStart) ∧
          (s.management.responses = [] → s.events.due = true → s.readyWork = some .eventFrameStart) ∧
          (s.management.responses = [] → s.events.due = false → (∃ q, eligible q) →
            s.readyWork = some .deliveryFrameStart) ∧
          (s.management.responses = [] → s.events.due = false → (∀ q, ¬ eligible q) → s.readyWork = none)) ∧
        (s.uplink.link ≠ .up ∨ s.uplink.lane ≠ .idle → s.readyWork = none)))) ∧
  (∀ s : State, s.pending = [] → s.readyWork = none → s.stations.microsSinceTick < 1000000 →
    let now := s.events.timebase + 1
    let second := s.stations.microsSinceTick = 999999
    step s = .next (((s.withEvents { s.events with timebase := now }).withStations
      { s.stations with microsSinceTick := if second then 0 else s.stations.microsSinceTick + 1 }).withPending (
        (if second then [.agingTick] else [])
        ++ ((List.finRange 48).filter fun i => match s.reassembly.contexts[i].body with
            | .opened _ _ z => reached now z
            | .discarding _ _ z => reached now z
            | .free => false
            | .complete _ => false).map Instr.gapTimerExpiry
        ++ (match s.program.edit with
            | .editing _ _ z => if reached now z then [.idleTimerExpiry] else []
            | .committing _ _ _ => []
            | .none => [])
        ++ (match s.hold.mode with
            | .holding z => if reached now z then [.refreshTimerExpiry] else []
            | .quiet => [])
        ++ match s.events.timer with
            | some z => if reached now z then [.coalescingTimerExpiry] else []
            | none => []))) ∧
  ∀ (start : U32) (d n : Nat), d < 2 ^ 31 →
    (n < d → reached (start + BitVec.ofNat 32 n) (start + BitVec.ofNat 32 d) = false) ∧
    (d ≤ n → n < d + 2 ^ 31 → reached (start + BitVec.ofNat 32 n) (start + BitVec.ofNat 32 d) = true)

/-- Every command of the table answers a next state, in every state: in a state in which its event cannot occur it changes
nothing and answers all the same, which is the model's choice (log 3). It leaves the queue of commands, which is the
model's (log 1), as it is. -/
def Obligations.EveryCommandAnswersANextState : Prop :=
  ∀ (c : Instr) (s : State), ∃ t, exec c s = .next t ∧ t.pending = s.pending

/-- A command changes no block outside its reach. That the unit of an inbound-frame row has the outcome of its row is the
model's premise (log 17); the record of the lanes and the count of free values, which count as blocks here, are the
model's own (logs 12, 11). -/
def Obligations.CommandsChangeOnlyTheirBlocks : Prop :=
  ∀ (c : Instr) (s t : State), c.wellFormed = true → exec c s = .next t → ∀ b, b ∉ c.reach → b.same s t

/-- POWER-ON: every value that the part has after it (R1, R11, R15, R33, R49, R74, R99, R116, R139, R151, R168, R180,
R181, R185). That no session waits for a swap is the model's flag (log 30). What the blocks of the pool hold, the record
of the lanes and the count of free values are the model's (logs 8, 11, 12) and are not stated. -/
def Obligations.PowerOnRestoresEveryValue : Prop :=
  ∀ s : State, ∃ t, exec .powerOn s = .next t ∧
    t.trunkRx = { link := .down, received := 0, badCheck := 0, badFormat := 0, notData := 0, notForPart := 0 } ∧
    t.trunkTx = { inFlight := none, slot := none, holdSent := 0, releaseSent := 0 } ∧
    (∀ i : Fin 64, t.stations.entries[i] = none) ∧ t.stations.foreign = 0 ∧ t.stations.blocked = 0 ∧
    t.stations.microsSinceTick = 0 ∧ t.stream = [] ∧
    t.pool.free = List.range 2048 ∧ t.pool.chains = [] ∧
    (∀ i : Fin 48, t.reassembly.contexts[i] = { body := .free, lastAbort := .none }) ∧
    t.reassembly.pendingList = [] ∧ t.reassembly.counters = {
      orphan := 0, duplicate := 0, discarded := 0, completed := 0, restart := 0, sequence := 0, timeout := 0,
      oversize := 0, noBuffer := 0, noContext := 0, flushed := 0, trunkLoss := 0 } ∧
    t.classifier = { state := .idle, messageId := 0, classified := 0, discarded := 0, byDefault := 0,
                     memoryErrors := 0 } ∧
    t.program.active.default = .deliver 0 false ∧ (∀ i : Fin 4, t.program.active.probes[i] = none) ∧
    t.program.active.count = 0 ∧ (∀ i : Fin 256, t.program.active.clauses[i] = .testEnd 0 0 0 .none) ∧
    t.program.generation = 0 ∧ (∀ i : Fin 256, t.program.hits[i] = 0) ∧ t.program.edit = .none ∧
    (∀ q : Fin 8, t.delivery.queues[q].state = .running ∧ t.delivery.queues[q].records = [] ∧
      t.delivery.queues[q].credit = 0 ∧ t.delivery.queues[q].charge = 0 ∧ t.delivery.queues[q].inFlight = false ∧
      t.delivery.queues[q].counters =
        { appended := 0, droppedFull := 0, delivered := 0, deliveredBytes := 0, memoryErrors := 0, flushed := 0 }) ∧
    t.delivery.current = 7 ∧ t.delivery.turns = 0 ∧
    t.uplink = { link := .down, lane := .idle, frameErrors := 0 } ∧ t.hold = { mode := .quiet, lastFree := 2048 } ∧
    t.management.fifo = [] ∧ t.management.responses = [] ∧ t.management.unit = .idle ∧ t.management.dropped = 0 ∧
    (∀ i : Fin 4, t.management.sessions[i] =
      { rights := { read := true, edit := i = 0, control := i = 0, supervisor := i = 0 }, lastSequence := none,
        inProgress := false, cached := none, awaitsSwap := false }) ∧
    t.events.timebase = 0 ∧ t.events.due = false ∧ t.events.timer = none ∧ t.events.flushNote = false ∧
    (∀ i : Fin 22, t.events.slots[i] = { enabled := true, count := 0, detail := 0, firstTime := 0, subPending := 0 }) ∧
    t.params.listed = [(1, 0), (2, 1), (3, 0), (4, 60), (5, 20), (6, 4096), (7, 8), (8, 256), (9, 512), (10, 2000),
      (11, 8), (12, 10)] ++ (List.range 8).map (fun q => (16 + q, 1)) ++ (List.range 8).map (fun q => (24 + q, 512))

/-! ### Taking a request -/

/-- Section 9.5: the codes, the argument lengths and the rights of the catalogue; any other code names no kind; and
READ_COUNTERS with a clear option other than 0 needs CONTROL (R156). -/
def Obligations.CatalogueOfRequests : Prop :=
  (∀ x ∈ catalogue, requestKind x.code = some x.kind ∧ x.kind.argLength = x.length) ∧
  (∀ x ∈ catalogue, ∀ (r : Rights) (args : List Byte), x.kind ≠ .readCounters →
    x.kind.allowedBy args r = x.right r) ∧
  (∀ (r : Rights) (args : List Byte), RequestKind.readCounters.allowedBy args r =
    if 2 ≤ args.length ∧ args.getD 1 0 ≠ 0 then r.control else r.read) ∧
  ∀ b : Byte, (∀ x ∈ catalogue, x.code ≠ b) → requestKind b = none

/-- R156 steps 4 and 5, R159: a request whose tag lacks the right is answered NO_RIGHT, and one whose arguments have
another length BAD_ARG, each with no data and cached; nothing else changes. A row of a request does nothing while the
Management Unit cannot take, or would take a bad tag, a retry or another request (that a command whose condition does not
hold changes nothing is the model's, log 3). -/
def Obligations.RequestsRefusedBeforeTheirBlock : Prop :=
  (∀ (s : State) (t : Fin 4) (k : RequestKind) (r : Request), s.Due t k r →
     (k.allowedBy r.args s.management.sessions[t].rights = false →
       exec (k.command r) s = .next (s.answered t r .noRight [])) ∧
     (k.allowedBy r.args s.management.sessions[t].rights = true → r.args.length ≠ k.argLength →
       exec (k.command r) s = .next (s.answered t r .badArg []))) ∧
  ∀ (s : State) (k : RequestKind) (r : Request),
    (¬ s.CanTake ∨ s.management.fifo = [] ∨ ∃ r', s.management.fifo.head? = some r' ∧
      (4 ≤ r'.tag.toNat ∨ (∃ t : Fin 4, r'.tag.toNat = t.val ∧
        s.management.sessions[t].lastSequence = some r'.sequence) ∨ ∃ k' : RequestKind, r'.kind = k'.code ∧ k' ≠ k)) →
    exec (k.command r) s = .next s

/-- R157: a request with a tag above 3 is answered BAD_TAG with the tag, sequence number and kind as received and no
data; no session entry changes, nothing is cached or posted, and the request is not carried out. R158: a request whose
sequence number is its tag's last accepted one is dropped while that request is in progress, and else answered from the
cache, or RETRY_TOO_LONG with the cached status; its session entry does not change. R156 step 3, R159: a request whose
code is not in the catalogue is accepted and answered BAD_KIND, whatever the rights of its tag and the length of its
arguments. -/
def Obligations.BadTagsRetriesAndUnknownKindsAreAnswered : Prop :=
  (∀ (s : State) (r : Request), s.Waits r → 4 ≤ r.tag.toNat →
     exec .badTag s = .next (s.withManagement { s.management with
       fifo := s.management.fifo.tail,
       responses := s.management.responses
         ++ [{ tag := r.tag, sequence := r.sequence, kind := r.kind, status := .badTag, data := [] }] })) ∧
  (∀ (s : State) (t : Fin 4) (r : Request), s.Waits r → r.tag.toNat = t.val →
     s.management.sessions[t].lastSequence = some r.sequence →
     (s.management.sessions[t].inProgress = true →
       exec .retryMatch s = .next (s.withManagement { s.management with fifo := s.management.fifo.tail })) ∧
     (s.management.sessions[t].inProgress = false → ∀ kind st data,
       s.management.sessions[t].cached = some (.whole kind st data) →
       exec .retryMatch s = .next (s.withManagement { s.management with
         fifo := s.management.fifo.tail,
         responses := s.management.responses
           ++ [{ tag := r.tag, sequence := r.sequence, kind := kind, status := st, data := data }] })) ∧
     (s.management.sessions[t].inProgress = false → ∀ kind st,
       s.management.sessions[t].cached = some (.resendRefused kind st) →
       exec .retryMatch s = .next (s.withManagement { s.management with
         fifo := s.management.fifo.tail,
         responses := s.management.responses
           ++ [{ tag := r.tag, sequence := r.sequence, kind := kind, status := .retryTooLong, data := [st.code] }] }))) ∧
  ∀ (s : State) (t : Fin 4) (r : Request), s.Waits r → r.tag.toNat = t.val →
    s.management.sessions[t].lastSequence ≠ some r.sequence → (∀ x ∈ catalogue, x.code ≠ r.kind) →
    exec .badKind s = .next (s.answered t r .badKind [])

/-! ### Status, parameters, rights and restart -/

/-- R160: GET_STATUS answers OK with the 28 bytes of the part's status. R161: GET_PARAM answers the number and the value
in force; a number that is not in the table is BAD_VALUE. R47: READ_POOL answers the free count, the blocks held in
contexts, the blocks held by the queues, each chain counted once, and the charge of each queue, 22 bytes. None changes any
state but the answer. (That all items show one moment is the model's, log 13.) -/
def Obligations.StatusParametersAndPoolAreReported : Prop :=
  (∀ (s : State) (t : Fin 4) (r : Request), s.Passes t .getStatus r →
     exec .getStatus s = .next (s.answered t r .ok (
       be16 s.program.generation
         ++ [(match s.program.edit with
             | .none => 255
             | .editing h _ _ => natByte h
             | .committing h _ _ => natByte h : Byte),
             (match s.program.edit with | .none => 0 | .editing _ _ _ => 0 | .committing _ _ _ => 1 : Byte),
             (match s.hold.mode with | .quiet => 0 | .holding _ => 1 : Byte)]
         ++ natBe16 s.pool.free.length
         ++ (List.finRange 8).flatMap (fun q =>
           [(match s.delivery.queues[q].state with | .running => 0 | .halted _ => 1 : Byte),
            natByte s.delivery.queues[q].records.length])
         ++ [(match s.trunkRx.link with | .down => 0 | .up => 1 : Byte)] ++ be32 s.events.timebase))) ∧
  (∀ (s : State) (t : Fin 4) (r : Request), s.Passes t .getParam r →
     (∀ v, ((byteAt r.args 0).toNat, v) ∈ s.params.listed →
       exec .getParam s = .next (s.answered t r .ok (byteAt r.args 0 :: natBe16 v))) ∧
     ((∀ v, ((byteAt r.args 0).toNat, v) ∉ s.params.listed) →
       exec .getParam s = .next (s.answered t r .badValue []))) ∧
  ∀ (s : State) (t : Fin 4) (r : Request), s.Passes t .readPool r →
    exec .readPool s = .next (s.answered t r .ok (
      natBe16 s.pool.free.length
        ++ natBe16 ((List.finRange 48).map fun i => match s.reassembly.contexts[i].body with
            | .opened m _ _ => m.chain.count
            | .complete m => m.chain.count
            | .free => 0
            | .discarding _ _ _ => 0).sum
        ++ natBe16 (s.pool.chains.map fun x => x.2.count).sum
        ++ (List.finRange 8).flatMap fun q => natBe16 s.delivery.queues[q].charge))

/-- R162, R141, R173: SET_PARAM replaces one parameter and no other, or is refused with BAD_VALUE and changes none; a
change of H_on, H_off or D is evaluated at once, and a new coalesce count that the slot sum reaches makes an EVENT frame
due unless one is in flight. -/
def Obligations.SetParamReplacesOneValue : Prop :=
  ∀ (s : State) (t : Fin 4) (r : Request), s.Passes t .setParam r →
    let n := (byteAt r.args 0).toNat
    let v := (word16At r.args 1).toNat
    (¬ s.params.Admits n v → exec .setParam s = .next (s.answered t r .badValue [])) ∧
    (s.params.Admits n v → ∃ p : Params,
      p.listed = s.params.listed.map (fun x => if x.1 = n then (n, v) else x) ∧
      exec .setParam s = .next ((
        if n = 8 ∨ n = 9 ∨ n = 10 then (s.withParams p).evaluateHold
        else if n = 11 ∧ s.uplink.lane.isEvent = false ∧ v ≤ s.events.sum then
          (s.withParams p).withEvents { s.events with due := true }
        else s.withParams p).answered t r .ok []))

/-- R164: SET_RIGHTS replaces the rights of tag 1, 2 or 3 by the set that the value names; another target, or a value
above 7, is BAD_VALUE and changes nothing. -/
def Obligations.SetRightsReplacesTheRights : Prop :=
  ∀ (s : State) (t : Fin 4) (r : Request), s.Passes t .setRights r →
    (∀ u : Fin 4, u ≠ 0 → (byteAt r.args 0).toNat = u.val → (byteAt r.args 1).toNat ≤ 7 →
      exec .setRights s = .next ((s.withManagement { s.management with
        sessions := s.management.sessions.set u { s.management.sessions[u] with
          rights := { read := (byteAt r.args 1).toNat % 2 = 1, edit := (byteAt r.args 1).toNat / 2 % 2 = 1,
                      control := (byteAt r.args 1).toNat / 4 % 2 = 1, supervisor := false } } }).answered t r .ok [])) ∧
    ((byteAt r.args 0).toNat = 0 ∨ 3 < (byteAt r.args 0).toNat ∨ 7 < (byteAt r.args 1).toNat →
      exec .setRights s = .next (s.answered t r .badValue []))

/-- R165 with R33, R48, R74, R99, R116, R130, R138, R151, R159, R166, R180: the restart in one step across the blocks,
and its answer. A dropped COMMIT is cached as RESTARTED unless its tag has had a newer request accepted, the restart
itself among them (log 30). How many bytes of a frame in flight have left the lane is a free value (log 11), so they are
some prefix of its payload. (That the restart is one step across the blocks is log 21's.) -/
def Obligations.SoftRestartClearsTheTraffic : Prop :=
  ∀ (s : State) (t : Fin 4) (r : Request), s.Passes t .softRestart r → s.params.hOn ≤ 2048 →
    ∃ sent : List Byte,
      (∀ f, s.uplink.lane = .delivery f → sent <+: s.pool.payload (s.pool.chainOf f.header.chain)) ∧
      exec .softRestart s = .next (({ s with
        trunkTx :=
          match s.hold.mode, s.trunkRx.link with
          | .holding _, .up =>
            if s.trunkTx.inFlight = none then { s.trunkTx with inFlight := some (.release s.params.trunkAddress) }
            else { s.trunkTx with slot := some (.release s.params.trunkAddress) }
          | .holding _, .down => s.trunkTx
          | .quiet, _ => s.trunkTx,
        stations := { s.stations with
          entries := mapTable (Option.map fun e : StationEntry => { e with openCount := 0 }) s.stations.entries },
        pool := { s.pool with free := List.range 2048, chains := [] },
        reassembly := { s.reassembly with
          contexts := mapTable (fun c : Context => { c with body := .free }) s.reassembly.contexts,
          pendingList := [] },
        classifier := { s.classifier with state := .idle, messageId := 0 },
        program := { s.program with edit := .none },
        delivery := {
          queues := mapTable (fun x : Queue => { x with
            state := .running, records := [], credit := 0, charge := 0, inFlight := false }) s.delivery.queues,
          current := 7, turns := 0 },
        uplink := { s.uplink with
          lane := match s.uplink.lane with
            | .delivery f =>
              if f.payload = .streaming then .delivery { f with payload := .cut sent .abortedRestart } else .delivery f
            | .idle => .idle
            | .response x => .response x
            | .event x => .event x },
        hold := { mode := .quiet, lastFree := 2048 },
        management :=
          match s.program.edit with
          | .committing h _ q =>
            if h ≠ t ∧ s.management.sessions[h].awaitsSwap = true ∧
                s.management.sessions[h].lastSequence = some q then
              { s.management with sessions := s.management.sessions.set h { s.management.sessions[h] with
                  inProgress := false, cached := some (.whole 0x27 .restarted []), awaitsSwap := false } }
            else s.management
          | .editing _ _ _ => s.management
          | .none => s.management,
        events := { s.events with
          slots := mapTable (fun x : EventSlot => { x with count := 0, subPending := 0 }) s.events.slots,
          due := false, timer := none, flushNote := false },
        freeDraws := if s.uplink.lane.streamingQueue = none then s.freeDraws else s.freeDraws + 1 }
        : State).answered t r .ok [])

/-! ### The Station Table -/

/-- R31, R32: READ_STATION answers the whole entry, LIST_STATIONS up to 8 entries from the start position on with the
next start position; both change no state but the answer. -/
def Obligations.StationsAreReported : Prop :=
  (∀ (s : State) (t : Fin 4) (r : Request), s.Passes t .readStation r →
    (∀ a i e, r.Names 0 a → s.stations.Has a i e → exec .readStation s = .next (s.answered t r .ok (
      [natByte i.val] ++ be16 (a.zeroExtend 16)
        ++ [if e.origin = .pinned then 1 else 0, if e.admission = .blocks then 1 else 0, e.tag, e.age,
            natByte e.openCount]
        ++ be32 e.accepted ++ be32 e.completed ++ be32 e.errors))) ∧
    (∀ a, r.Names 0 a → s.stations.Lacks a → exec .readStation s = .next (s.answered t r .notFound [])) ∧
    (r.NamesNone 0 → exec .readStation s = .next (s.answered t r .badValue []))) ∧
  ∀ (s : State) (t : Fin 4) (r : Request), s.Passes t .listStations r →
    let start := (byteAt r.args 0).toNat
    let found := ((List.finRange 64).filter fun i => decide (start ≤ i.val) && s.stations.entries[i].isSome).take 8
    (start ≤ 63 → exec .listStations s = .next (s.answered t r .ok (
      [natByte found.length,
       if found.length < 8 then 64 else natByte ((found.getLast?.map fun i => i.val + 1).getD 0)]
        ++ found.flatMap fun i => match s.stations.entries[i] with
          | some e => [natByte i.val] ++ be16 (e.address.zeroExtend 16)
              ++ [if e.origin = .pinned then 1 else 0, if e.admission = .blocks then 1 else 0, e.tag, natByte e.openCount]
          | none => []))) ∧
    (63 < start → exec .listStations s = .next (s.answered t r .badValue []))

/-- R26, R27: PIN_STATION changes the entry of the address, or makes one in the lowest-numbered empty position;
UNPIN_STATION makes an entry LEARNED at age 0. That the admission is coded as in R31 is read from the spec (log 26). -/
def Obligations.StationsArePinnedAndUnpinned : Prop :=
  (∀ (s : State) (t : Fin 4) (r : Request), s.Passes t .pinStation r →
    (∀ a adm, r.Names 0 a → (byteAt r.args 2 = 0 ∧ adm = .admits ∨ byteAt r.args 2 = 1 ∧ adm = .blocks) →
      (∀ i e, s.stations.Has a i e → exec .pinStation s = .next ((s.withStations (s.stations.put i
        (some { e with origin := .pinned, admission := adm, tag := byteAt r.args 3 }))).answered t r .ok
          [natByte i.val])) ∧
      (∀ i, s.stations.Lacks a → s.stations.Room i → exec .pinStation s = .next ((s.withStations (s.stations.put i
        (some { address := a, origin := .pinned, admission := adm, tag := byteAt r.args 3, age := 0, openCount := 0,
                accepted := 0, completed := 0, errors := 0 }))).answered t r .ok [natByte i.val])) ∧
      (s.stations.Lacks a → (∀ i : Fin 64, s.stations.entries[i] ≠ none) →
        exec .pinStation s = .next (s.answered t r .tableFull []))) ∧
    (r.NamesNone 0 ∨ 1 < (byteAt r.args 2).toNat → exec .pinStation s = .next (s.answered t r .badValue []))) ∧
  ∀ (s : State) (t : Fin 4) (r : Request), s.Passes t .unpinStation r →
    (∀ a i e, r.Names 0 a → s.stations.Has a i e → exec .unpinStation s = .next ((s.withStations (s.stations.put i
      (some { e with origin := .learned, age := 0 }))).answered t r .ok [])) ∧
    (∀ a, r.Names 0 a → s.stations.Lacks a → exec .unpinStation s = .next (s.answered t r .notFound [])) ∧
    (r.NamesNone 0 → exec .unpinStation s = .next (s.answered t r .badValue []))

/-- R28, R29, R155: REMOVE_STATION takes one entry out of the table and FLUSH_LEARNED every LEARNED entry; the removal
work joins the stream to the Reassembly Unit, and the Management Unit is EXECUTING until it is done. -/
def Obligations.StationsAreRemoved : Prop :=
  (∀ (s : State) (t : Fin 4) (r : Request), s.Passes t .removeStation r →
    (∀ a i e, r.Names 0 a → s.stations.Has a i e → exec .removeStation s =
      .next (((s.withStations (s.stations.put i none)).withStream (s.stream ++ [.removal [a]])).withManagement
        { s.management.accepted t r with unit := .executing t r.sequence .removeStation })) ∧
    (∀ a, r.Names 0 a → s.stations.Lacks a → exec .removeStation s = .next (s.answered t r .notFound [])) ∧
    (r.NamesNone 0 → exec .removeStation s = .next (s.answered t r .badValue []))) ∧
  ∀ (s : State) (t : Fin 4) (r : Request), s.Passes t .flushLearned r →
    exec .flushLearned s = .next (((s.withStations { s.stations with
        entries := mapTable (Option.filter fun e => decide (e.origin = .pinned)) s.stations.entries }).withStream
      (s.stream ++ [.removal (s.stations.entries.toList.filterMap fun x =>
        (x.filter fun e => decide (e.origin = .learned)).map StationEntry.address)])).withManagement
      { s.management.accepted t r with unit := .executing t r.sequence .flushLearned })

/-- R24, R25: a tick makes every entry one second older, at most 255, and then removes, in ascending position order,
each LEARNED entry without an open context whose age exceeds an age limit other than 0, and posts STATION_AGED. -/
def Obligations.AgingTickAgesAndRemoves : Prop :=
  ∀ s : State,
    let goes := fun e : StationEntry => decide (e.origin = .learned) && decide (s.params.ageLimit ≠ 0) &&
      decide (s.params.ageLimit.toNat < (if e.age = 255 then 255 else e.age.toNat + 1)) && decide (e.openCount = 0)
    exec .agingTick s = .next ((s.stations.entries.toList.filterMap fun x =>
        (x.filter goes).map StationEntry.address).foldl (fun u a => u.post .stationAged (a.zeroExtend 16))
      (s.withStations { s.stations with
        entries := mapTable (fun x => (x.filter fun e => !goes e).map fun e =>
          { e with age := if e.age = 255 then 255 else e.age + 1 }) s.stations.entries }))

/-! ### Reading contexts, the pool, programs, hits and queues -/

/-- R72: READ_CONTEXT answers 19 bytes: the context number, state, station, channel, tag, class, arrival, expected
sequence, byte count, block count, head block, pending position and last abort reason. -/
def Obligations.ReadContextReportsTheContext : Prop :=
  ∀ (s : State) (t : Fin 4) (r : Request), s.Passes t .readContext r →
    (47 < (byteAt r.args 0).toNat → exec .readContext s = .next (s.answered t r .badValue [])) ∧
    ∀ i : Fin 48, (byteAt r.args 0).toNat = i.val →
      let x := s.reassembly.contexts[i]
      let tail := fun position => [position, match x.lastAbort with
        | .none => 0 | .restart => 1 | .sequence => 2 | .timeout => 3 | .oversize => 4 | .noBuffer => 5
        | .flushed => 6 | .trunkLoss => (7 : Byte)]
      let message := fun (code sequence : Byte) (m : Message) => [natByte i.val, code] ++ be16 (m.station.zeroExtend 16)
        ++ [m.channel.zeroExtend 8, m.tag, m.cls] ++ be32 m.arrival ++ [sequence] ++ natBe16 m.byteCount
        ++ [natByte m.chain.count] ++ natBe16 m.chain.head
      (x.body = .free → exec .readContext s = .next (s.answered t r .ok (
        [natByte i.val, 0] ++ List.replicate 15 0 ++ tail 255))) ∧
      (∀ m e z, x.body = .opened m e z → exec .readContext s = .next (s.answered t r .ok (
        message 1 (e.zeroExtend 8) m ++ tail 255))) ∧
      (∀ a ch z, x.body = .discarding a ch z → exec .readContext s = .next (s.answered t r .ok (
        [natByte i.val, 2] ++ be16 (a.zeroExtend 16) ++ [ch.zeroExtend 8] ++ List.replicate 12 0 ++ tail 255))) ∧
      ∀ m, x.body = .complete m →
        ((∃ g, s.classifier.state = .classifying i g) → exec .readContext s = .next (s.answered t r .ok (
          message 3 0 m ++ tail 254))) ∧
        ((∀ g, s.classifier.state ≠ .classifying i g) → ∀ n, s.reassembly.pendingList[n]? = some i →
          i ∉ s.reassembly.pendingList.take n → exec .readContext s = .next (s.answered t r .ok (
            message 3 0 m ++ tail (natByte n))))

/-- R97, R107: READ_CLAUSE answers the header of a program and one clause, 29 bytes, in which what the clause does not
use is 0; selector 0 names the active program, selector 1 the staging program (which row carries out any other selector is
the model's, log 14). R98: READ_HITS answers the generation, the start position, the number n of counters, which is 15 or
up to the end of the table, and n hit counters. -/
def Obligations.ProgramsAndHitsAreReported : Prop :=
  (∀ (s : State) (t : Fin 4) (r : Request), s.Passes t .readClause r →
     let clause := fun c : Clause => match c with
       | .testAnd p c o => [0, p, c] ++ be16 o ++ [0, 0, 0, 0, 0, 0, 0]
       | .testEnd p c o .none => [0, p, c] ++ be16 o ++ [1, 0, 0, 0, 0, 0, 0]
       | .testEnd p c o (.deliver q m) => [0, p, c] ++ be16 o ++ [1, 1, q, 0, if m then 1 else 0, 0, 0]
       | .testEnd p c o (.mirror q q2 m) => [0, p, c] ++ be16 o ++ [1, 2, q, q2, if m then 1 else 0, 0, 0]
       | .testEnd p c o (.discard m) => [0, p, c] ++ be16 o ++ [1, 3, 0, 0, if m then 1 else 0, 0, 0]
       | .care m => [1, 0, 0] ++ be16 m ++ [0, 0, 0, 0, 0, 0, 0]
       | .gate p c o i => [2, p, c] ++ be16 o ++ [0, 0, 0, 0, 0] ++ be16 i
     let data := fun g : Program => [byteAt r.args 0] ++ be16 s.program.generation ++ natBe16 g.count
       ++ (match g.default with | .deliver q m => [1, natByte q.val, if m then 1 else 0] | .discard => [3, 0, 0])
       ++ (List.finRange 4).flatMap (fun i => be16 (g.probes[i].getD 65535))
       ++ [byteAt r.args 1] ++ clause (g.clauses[(byteAt r.args 1).toNat]'(byteAt r.args 1).isLt)
     (byteAt r.args 0 = 0 → exec .readClauseActive s = .next (s.answered t r .ok (data s.program.active))) ∧
     (byteAt r.args 0 = 1 →
       (s.program.edit = .none → exec .readClauseStaging s = .next (s.answered t r .noEdit [])) ∧
       (∀ h g z, s.program.edit = .editing h g z →
         exec .readClauseStaging s = .next (s.answered t r .ok (data g))) ∧
       ∀ h g q, s.program.edit = .committing h g q →
         exec .readClauseStaging s = .next (s.answered t r .ok (data g))) ∧
     (1 < (byteAt r.args 0).toNat → exec .readClauseActive s = .next (s.answered t r .badValue []))) ∧
  ∀ (s : State) (t : Fin 4) (r : Request), s.Passes t .readHits r →
    let start := (byteAt r.args 0).toNat
    let n := min 15 (256 - start)
    exec .readHits s = .next (s.answered t r .ok (
      be16 s.program.generation ++ [byteAt r.args 0, natByte n]
        ++ (List.range n).flatMap fun i => be32 (s.program.hits.toList.getD (start + i) 0)))

/-! ### Editing and committing a program -/

/-- R101: an editing request whose values are out of range is BAD_VALUE; else, without a session of its tag, NO_EDIT;
else, while a commit is pending, COMMIT_PENDING; nothing else changes. R102, R108, R109: OPEN_EDIT opens a session on a
copy of the active program with the idle timer 10 s on and answers the generation; with a session OPEN it is BUSY_EDIT.
ABORT_EDIT closes the session of its tag. -/
def Obligations.EditingIsCheckedAndSessionsOpenAndClose : Prop :=
  (∀ (s : State) (t : Fin 4) (k : RequestKind) (r : Request),
     k ∈ [.writeClause, .writeProbes, .setDefault, .setCount, .abortEdit, .commit] → s.Passes t k r →
     (¬ r.ValuesGood k → exec (k.command r) s = .next (s.answered t r .badValue [])) ∧
     (r.ValuesGood k → s.program.edit.holder ≠ some t → exec (k.command r) s = .next (s.answered t r .noEdit [])) ∧
     ∀ g q, r.ValuesGood k → s.program.edit = .committing t g q →
       exec (k.command r) s = .next (s.answered t r .commitPending [])) ∧
  (∀ (s : State) (t : Fin 4) (r : Request), s.Passes t .openEdit r →
    (s.program.edit = .none → exec .openEdit s = .next ((s.withProgram { s.program with
      edit := .editing t s.program.active (s.events.timebase + 10000000) }).answered t r .ok
        (be16 s.program.generation))) ∧
    (s.program.edit ≠ .none → exec .openEdit s = .next (s.answered t r .busyEdit []))) ∧
  ∀ (s : State) (t : Fin 4) (r : Request) g z, s.Passes t .abortEdit r → s.program.edit = .editing t g z →
    exec .abortEdit s = .next ((s.withProgram { s.program with edit := .none }).answered t r .ok [])

/-- R103, R109: WRITE_CLAUSE replaces one clause of the staging program by the clause of its arguments, in which only
the fields that its kind uses are kept. R104, R105, R106: WRITE_PROBES, SET_DEFAULT and SET_COUNT replace the probe list,
the default action and the clause count of the staging program. Each restarts the idle timer and changes nothing else. -/
def Obligations.StagingProgramIsWritten : Prop :=
  (∀ (s : State) (t : Fin 4) (r : Request) (g : Program) (z : U32), s.Passes t .writeClause r →
     r.ValuesGood .writeClause → s.program.edit = .editing t g z →
     let b := byteAt r.args
     let mark := decide (b 10 = 1)
     let written := fun c : Clause => exec .writeClause s = .next ((s.withProgram { s.program with
       edit := .editing t { g with clauses := g.clauses.set (b 0).toNat c (b 0).isLt }
         (s.events.timebase + 10000000) }).answered t r .ok [])
     (b 1 = 0 → b 6 = 0 → written (.testAnd (b 2) (b 3) (b 4 ++ b 5))) ∧
     (b 1 = 0 → b 6 = 1 → b 7 = 0 → written (.testEnd (b 2) (b 3) (b 4 ++ b 5) .none)) ∧
     (b 1 = 0 → b 6 = 1 → b 7 = 1 → written (.testEnd (b 2) (b 3) (b 4 ++ b 5) (.deliver (b 8) mark))) ∧
     (b 1 = 0 → b 6 = 1 → b 7 = 2 → written (.testEnd (b 2) (b 3) (b 4 ++ b 5) (.mirror (b 8) (b 9) mark))) ∧
     (b 1 = 0 → b 6 = 1 → b 7 = 3 → written (.testEnd (b 2) (b 3) (b 4 ++ b 5) (.discard mark))) ∧
     (b 1 = 1 → written (.care (b 4 ++ b 5))) ∧
     (b 1 = 2 → written (.gate (b 2) (b 3) (b 4 ++ b 5) (b 11 ++ b 12)))) ∧
  ∀ (s : State) (t : Fin 4) (r : Request) (g : Program) (z : U32), s.program.edit = .editing t g z →
    let written := fun g' : Program => (s.withProgram { s.program with
      edit := .editing t g' (s.events.timebase + 10000000) }).answered t r .ok []
    (s.Passes t .writeProbes r → ∃ p : Vector (Option U16) 4,
      exec .writeProbes s = .next (written { g with probes := p }) ∧
      ∀ i : Fin 4, p[i] = if word16At r.args (2 * i) = 65535 then none else some (word16At r.args (2 * i))) ∧
    (s.Passes t .setDefault r → r.ValuesGood .setDefault →
      (byteAt r.args 0 = 3 → exec .setDefault s = .next (written { g with default := .discard })) ∧
      (byteAt r.args 0 = 1 → ∀ q : Fin 8, (byteAt r.args 1).toNat = q.val → exec .setDefault s =
        .next (written { g with default := .deliver q (decide (byteAt r.args 2 = 1)) }))) ∧
    (s.Passes t .setCount r → r.ValuesGood .setCount →
      exec .setCount s = .next (written { g with count := (word16At r.args 0).toNat }))

/-- R109, R110, R111, R113, R114: a COMMIT of an invalid program is answered INVALID_PROGRAM with the failing item and
the reason and restarts the idle timer; of a valid one, it becomes pending while a classification is in progress, its
tag waiting for the swap (log 30), and else the swap is made in the same step. -/
def Obligations.CommitValidatesTheProgram : Prop :=
  ∀ (s : State) (t : Fin 4) (r : Request) (g : Program) (z : U32), s.Passes t .commit r →
    s.program.edit = .editing t g z → g.count ≤ 256 →
    (∀ item reason, g.Refused item reason → exec .commit s = .next ((s.withProgram { s.program with
      edit := .editing t g (s.events.timebase + 10000000) }).answered t r .invalidProgram
        (natBe16 item ++ [natByte reason]))) ∧
    (g.Valid → s.classifier.state ≠ .idle → exec .commit s = .next ((s.withProgram { s.program with
      edit := .committing t g r.sequence }).withManagement { s.management.accepted t r with
        sessions := (s.management.accepted t r).sessions.set t { (s.management.accepted t r).sessions[t] with
          awaitsSwap := true } })) ∧
    (g.Valid → s.classifier.state = .idle → exec .commit s = .next (((s.withProgram (s.program.swapped g)).post
      .commitDone (s.program.generation + 1)).answered t r .ok (be16 (s.program.generation + 1))))

/-- R113, R114: the swap makes the staging program active under the next generation with all hit counters 0, closes
the session, posts COMMIT_DONE and produces the response, cached if the tag's last accepted sequence is still the
COMMIT's, with no newer request accepted, whatever its number (log 30; that the tag is the holder's is read from the spec,
log 19). R109: at the expiry of the idle timer the session closes and EDIT_TIMEOUT is posted with the holder tag; before
it, nothing happens (log 3). -/
def Obligations.SessionsEndBySwapOrTimeout : Prop :=
  (∀ (s : State) (h : Fin 4) (g : Program) (q : U16), s.program.edit = .committing h g q →
     s.classifier.state = .idle →
     let n := s.program.generation + 1
     let answer : Response := { tag := natByte h.val, sequence := q, kind := 0x27, status := .ok, data := be16 n }
     let m := { s.management with responses := s.management.responses ++ [answer] }
     exec .swap s = .next (((s.withProgram (s.program.swapped g)).post .commitDone n).withManagement
       (if s.management.sessions[h].awaitsSwap = true ∧ s.management.sessions[h].lastSequence = some q then
         { m with sessions := m.sessions.set h { m.sessions[h] with
             inProgress := false, cached := some (.whole 0x27 .ok (be16 n)), awaitsSwap := false } }
       else m))) ∧
  ∀ (s : State) (h : Fin 4) (g : Program) (z : U32), s.program.edit = .editing h g z →
    (reached s.events.timebase z = true → exec .idleTimerExpiry s =
      .next ((s.withProgram { s.program with edit := .none }).post .editTimeout (BitVec.ofNat 16 h.val))) ∧
    (reached s.events.timebase z = false → exec .idleTimerExpiry s = .next s)

/-! ### Queue requests -/

/-- R131, R135: READ_QUEUE answers the 40 bytes of a queue; a queue number above 7 is BAD_VALUE. R132 to R134, R120:
HALT_QUEUE and RESTART_QUEUE set the state of a queue and nothing else in it; FLUSH_QUEUE removes every record but one in
flight, takes their block counts off the charge, counts them, drops their references in order, and answers their
number. -/
def Obligations.QueuesAreReadHaltedRestartedAndFlushed : Prop :=
  (∀ (s : State) (t : Fin 4) (r : Request), s.Passes t .readQueue r →
     (7 < (byteAt r.args 0).toNat → exec .readQueue s = .next (s.answered t r .badValue [])) ∧
     ∀ q : Fin 8, (byteAt r.args 0).toNat = q.val →
       let x := s.delivery.queues[q]
       exec .readQueue s = .next (s.answered t r .ok (
         [natByte q.val]
           ++ (match x.state with
             | .running => ([0, 0] : List Byte)
             | .halted .memory => [1, 1]
             | .halted .manager => [1, 2])
           ++ [natByte x.records.length, x.credit, natByte s.params.weights[q]] ++ natBe16 s.params.blockLimits[q]
           ++ natBe16 x.charge ++ [if x.inFlight then 1 else 0]
           ++ (match x.records with
             | [] => ([0, 0, 0] : List Byte)
             | y :: _ => be16 y.messageId ++ [if y.replay then 1 else 0])
           ++ [natByte s.delivery.current.val, natByte s.delivery.turns]
           ++ be32 x.counters.appended ++ be32 x.counters.droppedFull ++ be32 x.counters.delivered
           ++ be32 x.counters.deliveredBytes ++ be32 x.counters.memoryErrors ++ be32 x.counters.flushed))) ∧
  ∀ (s : State) (t : Fin 4) (r : Request) (k : RequestKind), k ∈ [.haltQueue, .restartQueue, .flushQueue] →
    s.Passes t k r →
    (7 < (byteAt r.args 0).toNat → exec (k.command r) s = .next (s.answered t r .badValue [])) ∧
    ∀ q : Fin 8, (byteAt r.args 0).toNat = q.val →
      let x := s.delivery.queues[q]
      let put := fun y : Queue => s.withDelivery { s.delivery with queues := s.delivery.queues.set q y }
      (k = .haltQueue → exec .haltQueue s = .next ((put { x with state := .halted .manager }).answered t r .ok [])) ∧
      (k = .restartQueue → exec .restartQueue s = .next ((put { x with state := .running }).answered t r .ok [])) ∧
      (k = .flushQueue →
        let kept := if x.inFlight then x.records.take 1 else []
        let removed := if x.inFlight then x.records.drop 1 else x.records
        exec .flushQueue s = .next ((removed.foldl (fun u y => u.dropReference y.chain) (put { x with
          records := kept,
          charge := x.charge - (removed.map fun y => (s.pool.chainEntry y.chain).count).sum,
          counters := { x.counters with flushed := satAdd x.counters.flushed removed.length }
        })).answered t r .ok [natByte removed.length]))

/-! ### Hold control and the trunk transmitter -/

/-- R12: a cell that is requested while the trunk is UP is put on an idle lane, or into the pending slot, where it
replaces the cell that waits there; with the trunk DOWN it is dropped. R12, R14, R15: at the end of a transmission with
the trunk UP the cell is counted by its kind and the pending cell, if there is one, goes on the lane; with the trunk DOWN
neither happens. (The record of the bytes that left is the model's, log 12.) -/
def Obligations.TrunkTransmitterSendsItsCells : Prop :=
  (∀ (s : State) (c : TxCell),
     (s.trunkRx.link = .down → s.transmit c = s) ∧
     (s.trunkRx.link = .up → s.trunkTx.inFlight = none →
       s.transmit c = s.withTrunkTx { s.trunkTx with inFlight := some c }) ∧
     (s.trunkRx.link = .up → s.trunkTx.inFlight ≠ none →
       s.transmit c = s.withTrunkTx { s.trunkTx with slot := some c })) ∧
  ∀ (s : State) (c : TxCell), s.trunkTx.inFlight = some c →
    (s.trunkRx.link = .up → exec .cellTransmissionEnd s = .next ((s.withTrunkTx { s.trunkTx with
        inFlight := s.trunkTx.slot, slot := none,
        holdSent := match c with
          | .hold _ _ => satInc s.trunkTx.holdSent
          | .release _ => s.trunkTx.holdSent,
        releaseSent := match c with
          | .hold _ _ => s.trunkTx.releaseSent
          | .release _ => satInc s.trunkTx.releaseSent }).withOutputs
      { s.outputs with trunk := c.bytes :: s.outputs.trunk })) ∧
    (s.trunkRx.link = .down → exec .cellTransmissionEnd s = .next (s.withTrunkTx { s.trunkTx with
      inFlight := none, slot := none }))

/-- R142 to R144, R149, R39: an evaluation, by the table of R142; a change of the free count is handed over and
evaluated. R1, R2, R150: a lock report while the trunk is DOWN makes it UP, posts TRUNK_UP and has the Hold Controller
evaluate. R145: at its expiry the refresh timer restarts from the duration in force and a HOLD cell is requested. A
report in UP, and an expiry that has not come, do nothing (log 3). -/
def Obligations.HoldIsEvaluatedAndRefreshed : Prop :=
  (∀ s : State,
     let source := s.params.trunkAddress
     let d := s.params.holdDuration
     let refresh := s.events.timebase + BitVec.ofNat 32 (10 * (d.toNat / 2))
     let f := BitVec.ofNat 16 s.hold.lastFree
     (s.hold.mode = .quiet → s.trunkRx.link = .up → s.hold.lastFree < s.params.hOn → s.evaluateHold =
       ((s.withHold { s.hold with mode := .holding refresh }).transmit (.hold source d)).post .holdOn f) ∧
     (s.hold.mode = .quiet → s.trunkRx.link = .up → s.params.hOn ≤ s.hold.lastFree → s.evaluateHold = s) ∧
     (s.hold.mode = .quiet → s.trunkRx.link = .down → s.evaluateHold = s) ∧
     (∀ z, s.hold.mode = .holding z → s.trunkRx.link = .up → s.params.hOff ≤ s.hold.lastFree → s.evaluateHold =
       ((s.withHold { s.hold with mode := .quiet }).transmit (.release source)).post .holdOff f) ∧
     (∀ z, s.hold.mode = .holding z → s.trunkRx.link = .up → s.hold.lastFree < s.params.hOff → s.evaluateHold = s) ∧
     (∀ z, s.hold.mode = .holding z → s.trunkRx.link = .down →
       s.evaluateHold = s.withHold { s.hold with mode := .quiet }) ∧
     s.handFreeCount = (s.withHold { s.hold with lastFree := s.pool.free.length }).evaluateHold) ∧
  ∀ s : State,
    (s.trunkRx.link = .down → exec .trunkUp s =
      .next ((s.withTrunkRx { s.trunkRx with link := .up }).post .trunkUp 0).evaluateHold) ∧
    (s.trunkRx.link = .up → exec .trunkUp s = .next s) ∧
    (∀ z, s.hold.mode = .holding z → reached s.events.timebase z = true → exec .refreshTimerExpiry s =
      .next ((s.withHold { s.hold with mode := .holding (s.events.timebase
        + BitVec.ofNat 32 (10 * (s.params.holdDuration.toNat / 2))) }).transmit
        (.hold s.params.trunkAddress s.params.holdDuration))) ∧
    (∀ z, s.hold.mode = .holding z → reached s.events.timebase z = false →
      exec .refreshTimerExpiry s = .next s) ∧
    (s.hold.mode = .quiet → exec .refreshTimerExpiry s = .next s)

/-- R146, R147: SEND_HOLD requests a HOLD cell of its duration and, in HOLDING, restarts the refresh timer at half of
it; SEND_RELEASE requests a RELEASE cell in QUIET. -/
def Obligations.HoldAndReleaseAreSent : Prop :=
  (∀ (s : State) (t : Fin 4) (r : Request), s.Passes t .sendHold r →
    let d := word16At r.args 0
    (d.toNat ≤ 1 → exec .sendHold s = .next (s.answered t r .badValue [])) ∧
    (1 < d.toNat → s.trunkRx.link = .down → exec .sendHold s = .next (s.answered t r .linkDown [])) ∧
    (1 < d.toNat → s.trunkRx.link = .up → s.hold.mode = .quiet → exec .sendHold s =
      .next ((s.transmit (.hold s.params.trunkAddress d)).answered t r .ok [])) ∧
    (1 < d.toNat → s.trunkRx.link = .up → ∀ z, s.hold.mode = .holding z → exec .sendHold s =
      .next (((s.withHold { s.hold with mode := .holding (s.events.timebase
        + BitVec.ofNat 32 (10 * (d.toNat / 2))) }).transmit (.hold s.params.trunkAddress d)).answered t r .ok []))) ∧
  ∀ (s : State) (t : Fin 4) (r : Request), s.Passes t .sendRelease r →
    (∀ z, s.hold.mode = .holding z → exec .sendRelease s = .next (s.answered t r .holdActive [])) ∧
    (s.hold.mode = .quiet → s.trunkRx.link = .up → exec .sendRelease s =
      .next ((s.transmit (.release s.params.trunkAddress)).answered t r .ok [])) ∧
    (s.hold.mode = .quiet → s.trunkRx.link = .down → exec .sendRelease s = .next (s.answered t r .linkDown []))

/-! ### Counters and events -/

/-- R177, R178, R179: READ_COUNTERS answers the counters of a group in the order of R177, and sets them to 0 if its
clear option is 1; CLEAR_COUNTERS sets them to 0. A group that is not 1 to 7, or a clear option above 1, is BAD_VALUE and
clears nothing. (That all counters of a group show one moment is the model's, log 13.) -/
def Obligations.CounterGroupsAreReadAndCleared : Prop :=
  (∀ (s : State) (t : Fin 4) (r : Request) (k : RequestKind), k = .readCounters ∨ k = .clearCounters → s.Passes t k r →
     ∀ (data : List Byte) (cleared : State),
       (match (byteAt r.args 0).toNat with
         | 1 => data = [s.trunkRx.received, s.trunkRx.badCheck, s.trunkRx.badFormat, s.trunkRx.notData,
               s.trunkRx.notForPart].flatMap be32 ∧
             cleared = s.withTrunkRx { s.trunkRx with
               received := 0, badCheck := 0, badFormat := 0, notData := 0, notForPart := 0 }
         | 2 => data = [s.stations.foreign, s.stations.blocked].flatMap be32 ∧
             cleared = s.withStations { s.stations with foreign := 0, blocked := 0 }
         | 3 => let x := s.reassembly.counters
             data = [x.orphan, x.duplicate, x.discarded, x.completed, x.restart, x.sequence, x.timeout, x.oversize,
               x.noBuffer, x.noContext, x.flushed, x.trunkLoss].flatMap be32 ∧
             cleared = s.withReassembly { s.reassembly with counters := {
               orphan := 0, duplicate := 0, discarded := 0, completed := 0, restart := 0, sequence := 0, timeout := 0,
               oversize := 0, noBuffer := 0, noContext := 0, flushed := 0, trunkLoss := 0 } }
         | 4 => data = [s.classifier.classified, s.classifier.discarded, s.classifier.byDefault,
               s.classifier.memoryErrors].flatMap be32 ∧
             cleared = s.withClassifier { s.classifier with
               classified := 0, discarded := 0, byDefault := 0, memoryErrors := 0 }
         | 5 => let zero : QueueCounters :=
               { appended := 0, droppedFull := 0, delivered := 0, deliveredBytes := 0, memoryErrors := 0, flushed := 0 }
             data = (List.finRange 8).flatMap (fun q =>
               let x := s.delivery.queues[q].counters
               [x.appended, x.droppedFull, x.delivered, x.deliveredBytes, x.memoryErrors, x.flushed].flatMap be32) ∧
             cleared = s.withDelivery { s.delivery with
               queues := mapTable (fun x : Queue => { x with counters := zero }) s.delivery.queues }
         | 6 => data = [s.trunkTx.holdSent, s.trunkTx.releaseSent, s.uplink.frameErrors,
               s.management.dropped].flatMap be32 ∧
             cleared = ((s.withTrunkTx { s.trunkTx with holdSent := 0, releaseSent := 0 }).withUplink
               { s.uplink with frameErrors := 0 }).withManagement { s.management with dropped := 0 }
         | 7 => let present := (List.finRange 64).filter fun i => s.stations.entries[i].isSome
             data = natByte present.length :: present.flatMap (fun i => match s.stations.entries[i] with
               | some e => [natByte i.val] ++ be16 (e.address.zeroExtend 16) ++ be32 e.accepted ++ be32 e.completed
                   ++ be32 e.errors
               | none => []) ∧
             cleared = s.withStations { s.stations with entries := mapTable (Option.map fun e : StationEntry =>
               { e with accepted := 0, completed := 0, errors := 0 }) s.stations.entries }
         | _ => False) →
       (k = .clearCounters → exec .clearCounters s = .next (cleared.answered t r .ok [])) ∧
       (k = .readCounters → byteAt r.args 1 = 0 →
         exec .readCounters s = .next (s.answered t r .ok (byteAt r.args 0 :: data))) ∧
       (k = .readCounters → byteAt r.args 1 = 1 →
         exec .readCounters s = .next (cleared.answered t r .ok (byteAt r.args 0 :: data)))) ∧
  (∀ (s : State) (t : Fin 4) (r : Request), s.Passes t .readCounters r →
    (byteAt r.args 0 = 0 ∨ 7 < (byteAt r.args 0).toNat ∨ 1 < (byteAt r.args 1).toNat) →
    exec .readCounters s = .next (s.answered t r .badValue [])) ∧
  ∀ (s : State) (t : Fin 4) (r : Request), s.Passes t .clearCounters r →
    (byteAt r.args 0 = 0 ∨ 7 < (byteAt r.args 0).toNat) →
    exec .clearCounters s = .next (s.answered t r .badValue [])

/-- R171, R172: a posting to an enabled slot records the detail, counts up to 65,535 and keeps the time of the first;
with no EVENT frame in flight, one that takes the sum from 0 starts the coalescing timer, and one that brings it to the
coalesce count sets the due flag; one that changes no count does neither. A posting to a disabled slot has no effect.
At its expiry the timer sets the due flag and stops (R172; before it nothing happens, log 3). -/
def Obligations.PostingsAreCoalesced : Prop :=
  (∀ (s : State) (k : EventKind) (detail : U16),
    let x := s.events.slots[k.slot]
    let recorded := { s.events with slots := s.events.slots.set k.slot { x with
      firstTime := if x.count = 0 then s.events.timebase else x.firstTime,
      count := if x.count = 65535 then 65535 else x.count + 1, detail := detail } }
    (x.enabled = false → s.post k detail = s) ∧
    (x.enabled = true → s.uplink.lane.isEvent = true ∨ x.count = 65535 → s.post k detail = s.withEvents recorded) ∧
    (x.enabled = true → s.uplink.lane.isEvent = false → x.count ≠ 65535 →
      s.post k detail = s.withEvents { recorded with
        timer := if s.events.sum = 0 then
            some (s.events.timebase + BitVec.ofNat 32 (100 * s.params.coalesceTime)) else s.events.timer,
        due := s.events.due || decide (s.params.coalesceCount ≤ s.events.sum + 1) })) ∧
  ∀ (s : State) (z : U32), s.events.timer = some z →
    (reached s.events.timebase z = true → exec .coalescingTimerExpiry s =
      .next (s.withEvents { s.events with due := true, timer := none })) ∧
    (reached s.events.timebase z = false → exec .coalescingTimerExpiry s = .next s)

/-- R173, R174: SET_EVENTS enables a slot, or disables it with its count and subtraction at 0, and a sum that falls to
0 clears the due flag and stops the timer; FLUSH_EVENTS makes a frame due and stops the timer if the sum is above 0, or
is noted while a frame is in flight (what the note does at that frame's end is with the frame's end). -/
def Obligations.EventSlotsAreSetAndFlushed : Prop :=
  (∀ (s : State) (t : Fin 4) (r : Request), s.Passes t .setEvents r →
    (byteAt r.args 0 = 0 ∨ 22 < (byteAt r.args 0).toNat ∨ 1 < (byteAt r.args 1).toNat →
      exec .setEvents s = .next (s.answered t r .badValue [])) ∧
    ∀ i : Fin 22, (byteAt r.args 0).toNat = i.val + 1 →
      let x := s.events.slots[i]
      (byteAt r.args 1 = 1 → exec .setEvents s = .next ((s.withEvents { s.events with
        slots := s.events.slots.set i { x with enabled := true } }).answered t r .ok [])) ∧
      (byteAt r.args 1 = 0 → x.enabled = false → exec .setEvents s = .next (s.answered t r .ok [])) ∧
      (byteAt r.args 1 = 0 → x.enabled = true →
        let empties := decide (s.events.sum = x.count.toNat ∧ x.count ≠ 0)
        exec .setEvents s = .next ((s.withEvents { s.events with
          slots := s.events.slots.set i { x with enabled := false, count := 0, subPending := 0 },
          due := s.events.due && !empties,
          timer := if empties then none else s.events.timer }).answered t r .ok []))) ∧
  ∀ (s : State) (t : Fin 4) (r : Request), s.Passes t .flushEvents r →
    (s.uplink.lane.isEvent = false → 0 < s.events.sum → exec .flushEvents s =
      .next ((s.withEvents { s.events with due := true, timer := none }).answered t r .ok [])) ∧
    (s.uplink.lane.isEvent = false → s.events.sum = 0 → exec .flushEvents s = .next (s.answered t r .ok [])) ∧
    (s.uplink.lane.isEvent = true → exec .flushEvents s =
      .next ((s.withEvents { s.events with flushNote := true }).answered t r .ok []))

/-! ### The pool -/

/-- R38, R34, R35: a cell's payload goes into a new block, or after the content of the chain's tail and, where it does not
fit, on into a new block; the message in the chain is what it was with the payload behind it. Every other block, in this
chain or in another, keeps its fields and its bytes; the check code of every block that held still holds. Without a free
block the payload is refused. -/
def Obligations.StoredPayloadFollowsTheMessage : Prop :=
  ∀ (p : BlockPool) (payload : List Byte), p.Canonical → 1 ≤ payload.length → payload.length ≤ 56 →
    let keeps := fun (q : BlockPool) (j : Nat) => q.fields j = p.fields j ∧
      ∀ o < 64, Sparse.get 0 q.content (64 * j + o) = Sparse.get 0 p.content (64 * j + o)
    let stillHolds := fun (q : BlockPool) (j : Nat) =>
      (p.fields j).fill ≤ 64 → p.verifies j = true → q.verifies j = true
    (p.free = [] → p.store payload none = none) ∧
    (∀ b rest, p.free = b :: rest → ∃ q, p.store payload none = some ({ head := b, tail := b, count := 1 }, q) ∧
      q.free = rest ∧ q.chains = p.chains ∧ q.payload { head := b, tail := b, count := 1 } = payload ∧
      q.Forms { head := b, tail := b, count := 1 } [b] ∧ q.verifies b = true ∧
      ∀ j, j ≠ b → keeps q j ∧ stillHolds q j) ∧
    ∀ c l, p.Forms c l → (∀ b ∈ l, b ∉ p.free) →
      ((p.fields c.tail).fill + payload.length ≤ 64 → ∃ q, p.store payload (some c) = some (c, q) ∧
        q.free = p.free ∧ q.chains = p.chains ∧ q.Forms c l ∧ q.payload c = p.payload c ++ payload ∧
        (∀ j, j ≠ c.tail → keeps q j) ∧ ∀ j, stillHolds q j) ∧
      (64 < (p.fields c.tail).fill + payload.length → p.free = [] → p.store payload (some c) = none) ∧
      (∀ b rest, 64 < (p.fields c.tail).fill + payload.length → p.free = b :: rest →
        let c' : Chain := { head := c.head, tail := b, count := c.count + 1 }
        ∃ q, p.store payload (some c) = some (c', q) ∧ q.free = rest ∧ q.chains = p.chains ∧ q.Forms c' (l ++ [b]) ∧
          q.payload c' = p.payload c ++ payload ∧ q.verifies b = true ∧
          (∀ j, j ≠ c.tail → j ≠ b → keeps q j) ∧ ∀ j, j ≠ b → stillHolds q j)

/-- R41, R43: a released chain joins the tail of the free list, head block first; a record that goes takes one from the
reference count of its chain, and the chain that no record names any more is released. -/
def Obligations.ChainsAreReleased : Prop :=
  (∀ (p : BlockPool) (c : Chain) (l : List Nat), p.Forms c l → p.release c = { p with free := p.free ++ l }) ∧
  ∀ (s : State) (h : Nat), s.pool.Canonical →
    let e := s.pool.chainEntry h
    (2 ≤ e.refs → ∃ p, s.dropReference h = s.withPool p ∧ p.free = s.pool.free ∧ p.content = s.pool.content ∧
      p.blocks = s.pool.blocks ∧ ∀ j, p.chainEntry j = if j = h then { e with refs := e.refs - 1 }
        else s.pool.chainEntry j) ∧
    (e.refs ≤ 1 → ∀ l, s.pool.Forms { head := h, tail := e.tail, count := e.count } l →
      ∃ p, s.dropReference h = (s.withPool p).handFreeCount ∧ p.free = s.pool.free ++ l ∧
        p.content = s.pool.content ∧ p.blocks = s.pool.blocks ∧
        ∀ j, p.chainEntry j = if j = h then ChainEntry.absent else s.pool.chainEntry j)

/-! ### Reassembly -/

/-- R54, R55, R62, R63: a start on a key that has no context takes the lowest-numbered FREE context and a new block, and
opens the context or completes it at once; without a context, or without a block, it is refused and counted. -/
def Obligations.MessagesStart : Prop :=
  ∀ (s : State) (c : AdmittedCell) (rest : List StreamItem), s.stream = .cell c :: rest →
    c.kind = .only ∨ c.kind = .first → s.KeyFree c.source c.channel → s.stations.Unique →
    ∀ n, s.stations.OpenCount c.source n →
      let row := if c.kind = .only then Instr.dataOnly else Instr.dataFirst
      let u := s.withStream rest
      let k := s.reassembly.counters
      let refused := fun (k' : ReassemblyCounters) (e : EventKind) =>
        ((u.withReassembly { s.reassembly with counters := k' }).withStations (s.stations.report c.source fun e =>
          { e with errors := satInc e.errors })).post e (c.source.zeroExtend 16)
      (s.params.contextsPerStation ≤ n ∨ (∀ i : Fin 48, s.reassembly.contexts[i].body ≠ .free) →
        exec row s = .next (refused { k with noContext := satInc k.noContext } .noContext)) ∧
      ∀ i, n < s.params.contextsPerStation → s.LowestFree i →
        (s.pool.free = [] → exec row s = .next (refused { k with noBuffer := satInc k.noBuffer } .noBuffer)) ∧
        ∀ b blocks p, s.pool.free = b :: blocks →
          s.pool.store c.payload none = some ({ head := b, tail := b, count := 1 }, p) →
          let m : Message := { station := c.source, channel := c.channel, tag := c.tag, cls := c.cls,
                               arrival := c.arrival, byteCount := c.payload.length,
                               chain := { head := b, tail := b, count := 1 } }
          let v := (u.withPool p).handFreeCount
          (c.kind = .only → exec .dataOnly s = .next (v.completed i m false)) ∧
          (c.kind = .first → exec .dataFirst s = .next ((v.contextPut i
              { body := .opened m (c.sequence + 1) s.gapEnd, lastAbort := s.reassembly.contexts[i].lastAbort }
              k).withStations
            (s.stations.report c.source fun e => { e with openCount := e.openCount + 1 })))

/-- R56, R70, R73: what ends an OPEN or a DISCARDING context, by its reason. A start on a key that has a context first
ends that context with reason RESTART and then goes on as without it. R65: at its expiry the gap timer aborts an OPEN
context with reason TIMEOUT, and frees a DISCARDING one quietly; before it nothing happens (log 3). -/
def Obligations.ContextsEndByReasonOrTimer : Prop :=
  ((∀ (s : State) (i : Fin 48) (r : AbortReason), s.stations.Unique → r ∈ [.restart, .flushed, .trunkLoss] →
     (∀ m e z, s.reassembly.contexts[i].body = .opened m e z → s.endContext r i = s.aborted i m r .free) ∧
     (∀ a ch z, s.reassembly.contexts[i].body = .discarding a ch z → s.endContext r i =
       (s.contextPut i { body := .free, lastAbort := r } (r.count s.reassembly.counters)).withStations
         (s.stations.report a fun e => { e with openCount := e.openCount - 1 })) ∧
     (s.reassembly.contexts[i].body = .free → s.endContext r i = s) ∧
     (∀ m, s.reassembly.contexts[i].body = .complete m → s.endContext r i = s)) ∧
   ∀ (s : State) (c : AdmittedCell) (rest : List StreamItem) (i : Fin 48), s.stream = .cell c :: rest →
     s.KeyHeld c.source c.channel i →
     (c.kind = .only → exec .dataOnly s = exec .dataOnly (s.endContext .restart i)) ∧
     (c.kind = .first → exec .dataFirst s = exec .dataFirst (s.endContext .restart i))) ∧
  ∀ (s : State) (i : Fin 48), s.stations.Unique →
    let x := s.reassembly.contexts[i]
    let k := s.reassembly.counters
    (∀ m e z, x.body = .opened m e z → reached s.events.timebase z = true →
      exec (.gapTimerExpiry i) s = .next (s.aborted i m .timeout .free)) ∧
    (∀ a ch z, x.body = .discarding a ch z → reached s.events.timebase z = true →
      exec (.gapTimerExpiry i) s = .next ((s.contextPut i { x with body := .free }
        { k with timeout := satInc k.timeout }).withStations
        (s.stations.report a fun e => { e with openCount := e.openCount - 1 }))) ∧
    (∀ m e z, x.body = .opened m e z → reached s.events.timebase z = false →
      exec (.gapTimerExpiry i) s = .next s) ∧
    (∀ a ch z, x.body = .discarding a ch z → reached s.events.timebase z = false →
      exec (.gapTimerExpiry i) s = .next s)

/-- R57, R58: an in-order DATA_MIDDLE or DATA_LAST whose payload the pool stores extends the message of its key; the
DATA_LAST completes it. -/
def Obligations.InOrderCellsExtendTheMessage : Prop :=
  ∀ (s : State) (c : AdmittedCell) (rest : List StreamItem) (i : Fin 48) (m : Message) (e : Seq) (z : U32)
    (ch : Chain) (p : BlockPool),
    s.stream = .cell c :: rest → s.KeyHeld c.source c.channel i → s.stations.Unique →
    s.reassembly.contexts[i].body = .opened m e z → c.sequence = e →
    m.byteCount + c.payload.length ≤ s.params.maxLength →
    s.pool.store c.payload (some m.chain) = some (ch, p) →
    let m' := { m with byteCount := m.byteCount + c.payload.length, chain := ch }
    let u := (s.withStream rest).poolStored p
    (c.kind = .middle → exec .dataMiddle s = .next (u.contextPut i
      { body := .opened m' (e + 1) s.gapEnd, lastAbort := s.reassembly.contexts[i].lastAbort }
      s.reassembly.counters)) ∧
    (c.kind = .last → exec .dataLast s = .next (u.completed i m' true))

/-- R57 to R62, R69: a DATA_MIDDLE or DATA_LAST that is not stored: a duplicate is dropped; one out of order, too long
or refused by the pool aborts the message, to DISCARDING or, for the DATA_LAST, to FREE; one for a DISCARDING context is
dropped, and the DATA_LAST frees it; one without a context is an orphan. -/
def Obligations.OtherCellsAreDropped : Prop :=
  ∀ (s : State) (c : AdmittedCell) (rest : List StreamItem), s.stream = .cell c :: rest →
    c.kind = .middle ∨ c.kind = .last → s.stations.Unique →
    let row := if c.kind = .middle then Instr.dataMiddle else Instr.dataLast
    let u := s.withStream rest
    let k := s.reassembly.counters
    (s.KeyFree c.source c.channel → exec row s = .next (((u.withReassembly { s.reassembly with
        counters := { k with orphan := satInc k.orphan } }).withStations (s.stations.report c.source fun e =>
          { e with errors := satInc e.errors })).post .orphanCell (c.source.zeroExtend 16))) ∧
    ∀ i, s.KeyHeld c.source c.channel i →
      let old := s.reassembly.contexts[i].lastAbort
      (∀ m e z, s.reassembly.contexts[i].body = .opened m e z →
        let left := if c.kind = .middle then .discarding c.source c.channel s.gapEnd else .free
        (c.sequence + 1 = e → exec row s = .next (u.contextPut i { body := .opened m e s.gapEnd, lastAbort := old }
          { k with duplicate := satInc k.duplicate })) ∧
        (c.sequence ≠ e → c.sequence + 1 ≠ e → exec row s = .next (u.aborted i m .sequence left)) ∧
        (c.sequence = e → s.params.maxLength < m.byteCount + c.payload.length →
          exec row s = .next (u.aborted i m .oversize left)) ∧
        (c.sequence = e → m.byteCount + c.payload.length ≤ s.params.maxLength →
          s.pool.store c.payload (some m.chain) = none → exec row s = .next (u.aborted i m .noBuffer left))) ∧
      ∀ a ch z, s.reassembly.contexts[i].body = .discarding a ch z →
        (c.kind = .middle → exec .dataMiddle s = .next (u.contextPut i
          { body := .discarding a ch s.gapEnd, lastAbort := old } { k with discarded := satInc k.discarded })) ∧
        (c.kind = .last → exec .dataLast s = .next ((u.contextPut i { body := .free, lastAbort := old }
          { k with discarded := satInc k.discarded }).withStations (s.stations.report a fun e =>
            { e with openCount := e.openCount - 1 })))

/-- R1, R3, R15, R73, R149: a loss report in UP makes the trunk DOWN, posts TRUNK_DOWN, ends every OPEN and DISCARDING
context in ascending order, abandons the cell on the lane and the pending one, and leaves no hold in force; in DOWN it
does nothing (log 3). R28, R29, R70, R155: the removal work ends the OPEN and DISCARDING contexts of the removed stations
in ascending order with reason FLUSHED, and the request that waits is answered with their number, which FLUSH_LEARNED
precedes by the number of entries. (That TRUNK LOSS is one step across the blocks is log 21's; the flag awaitsSwap is the
model's, log 30.) -/
def Obligations.TrunkLossAndRemovalsEndContexts : Prop :=
  (∀ s : State,
     (s.trunkRx.link = .down → exec .trunkLoss s = .next s) ∧
     (s.trunkRx.link = .up →
       let u := (List.finRange 48).foldl (fun v i => v.endContext .trunkLoss i)
         ((s.withTrunkRx { s.trunkRx with link := .down }).post .trunkDown 0)
       exec .trunkLoss s = .next ((u.withTrunkTx { s.trunkTx with inFlight := none, slot := none }).withHold
         { u.hold with mode := .quiet }))) ∧
  ∀ (s : State) (stations : List Addr) (rest : List StreamItem), s.stream = .removal stations :: rest →
    let ends := (List.finRange 48).filter fun i => match s.reassembly.contexts[i].body with
      | .opened m _ _ => decide (m.station ∈ stations)
      | .discarding a _ _ => decide (a ∈ stations)
      | .free => false
      | .complete _ => false
    let u := ends.foldl (fun v i => v.endContext .flushed i) (s.withStream rest)
    (s.management.unit = .idle → exec .removalWork s = .next u) ∧
    ∀ (t : Fin 4) (q : U16) (k : RequestKind), s.management.unit = .executing t q k →
      k = .removeStation ∨ k = .flushLearned →
      let data := if k = .flushLearned then [natByte stations.length, natByte ends.length] else [natByte ends.length]
      let m := { s.management with
        unit := .idle,
        responses := s.management.responses
          ++ [{ tag := natByte t.val, sequence := q, kind := k.code, status := .ok, data := data }] }
      exec .removalWork s = .next (u.withManagement (if s.management.sessions[t].lastSequence = some q then
        { m with sessions := m.sessions.set t { m.sessions[t] with
            inProgress := false, cached := some (.whole k.code .ok data), awaitsSwap := false } }
      else m))

/-! ### The trunk receiver and the lookup -/

/-- R2, R5 to R9, R11: a unit that fails an admission step is counted at the first step that it fails and dropped; a
failed check, format or source posts CELL_ERROR with detail 0. With the trunk DOWN no unit is received, nor is one whose
reception began before the trunk became UP (that the command says so is the model's form, log 6). -/
def Obligations.CellsAreRefusedAtAdmission : Prop :=
  ∀ (s : State) (u : LaneUnit),
    (s.trunkRx.link = .down ∨ u.begunInUp = false → exec (.receivedCell u) s = .next s) ∧
    (s.trunkRx.link = .up → u.begunInUp = true →
      let n := u.bytes.length
      let x := { s.trunkRx with received := satInc s.trunkRx.received }
      let checks := 9 ≤ n ∧ u.codingError = false ∧ crc16 (u.bytes.take (n - 2)) = word16At u.bytes (n - 2)
      let code := (cellCode u.bytes).toNat
      let isData := 1 ≤ code ∧ code ≤ 4 ∧ 1 ≤ cellPayloadLength u.bytes ∧ cellPayloadLength u.bytes ≤ 56 ∧
        n = 9 + cellPayloadLength u.bytes
      let isControl := (code = 8 ∨ code = 9) ∧ n = 9
      let forPart := s.params.trunkAddress = 0 ∨ cellDestination u.bytes = s.params.trunkAddress ∨
        cellDestination u.bytes = 4095
      (¬ checks → exec (.receivedCell u) s =
        .next ((s.withTrunkRx { x with badCheck := satInc x.badCheck }).post .cellError 0)) ∧
      (checks → ¬ isData → ¬ isControl → exec (.receivedCell u) s =
        .next ((s.withTrunkRx { x with badFormat := satInc x.badFormat }).post .cellError 0)) ∧
      (checks → isControl → exec (.receivedCell u) s =
        .next (s.withTrunkRx { x with notData := satInc x.notData })) ∧
      (checks → isData → ¬ forPart → exec (.receivedCell u) s =
        .next (s.withTrunkRx { x with notForPart := satInc x.notForPart })) ∧
      (checks → isData → forPart → cellSource u.bytes = 0 ∨ cellSource u.bytes = 4095 → exec (.receivedCell u) s =
        .next ((s.withTrunkRx { x with badFormat := satInc x.badFormat }).post .cellError 0)))

/-- R5 to R10, R18 to R21: a unit that passes the five steps is admitted with its kind and looked up by its source:
ADMIT hands it on and counts it, BLOCK drops it, both at age 0; with no entry it is learned into the lowest-numbered empty
position, or dropped as foreign. (That the class of a cell other than DATA_ONLY and DATA_FIRST is held as 0 is the
model's, log 24.) -/
def Obligations.AdmittedCellsAreLookedUp : Prop :=
  ∀ (s : State) (u : LaneUnit) (k : DataKind),
    let n := u.bytes.length
    let a := cellSource u.bytes
    s.trunkRx.link = .up → u.begunInUp = true → 9 ≤ n → u.codingError = false →
    crc16 (u.bytes.take (n - 2)) = word16At u.bytes (n - 2) →
    (cellCode u.bytes).toNat = (match k with | .only => 1 | .first => 2 | .middle => 3 | .last => 4) →
    1 ≤ cellPayloadLength u.bytes → cellPayloadLength u.bytes ≤ 56 → n = 9 + cellPayloadLength u.bytes →
    s.params.trunkAddress = 0 ∨ cellDestination u.bytes = s.params.trunkAddress ∨ cellDestination u.bytes = 4095 →
    1 ≤ a.toNat → a.toNat ≤ 4094 →
    let v := s.withTrunkRx { s.trunkRx with received := satInc s.trunkRx.received }
    let handed := fun tag => s.stream ++ [.cell {
      kind := k, source := a, channel := cellChannel u.bytes, sequence := cellSequence u.bytes,
      cls := if k = .only ∨ k = .first then cellClass u.bytes else 0,
      payload := (u.bytes.drop 7).take (cellPayloadLength u.bytes), arrival := s.events.timebase, tag := tag }]
    (∀ i e, s.stations.Has a i e → e.admission = .admits → exec (.receivedCell u) s =
      .next ((v.withStations (s.stations.put i (some { e with age := 0, accepted := satInc e.accepted }))).withStream
        (handed e.tag))) ∧
    (∀ i e, s.stations.Has a i e → e.admission = .blocks → exec (.receivedCell u) s =
      .next ((v.withStations { s.stations.put i (some { e with age := 0 }) with
        blocked := satInc s.stations.blocked }).post .blockedStation (a.zeroExtend 16))) ∧
    (∀ i, s.stations.Lacks a → s.params.learning = true → s.stations.Room i → exec (.receivedCell u) s =
      .next (((v.post .stationLearned (a.zeroExtend 16)).withStations (s.stations.put i (some
        { address := a, origin := .learned, admission := .admits, tag := s.params.defaultTag, age := 0, openCount := 0,
          accepted := 1, completed := 0, errors := 0 }))).withStream (handed s.params.defaultTag))) ∧
    (s.stations.Lacks a → s.params.learning = false ∨ (∀ i : Fin 64, s.stations.entries[i] ≠ none) →
      exec (.receivedCell u) s = .next ((v.withStations { s.stations with
        foreign := satInc s.stations.foreign }).post .foreignStation (a.zeroExtend 16)))

/-! ### The Classifier -/

/-- R68, R76, R78: an IDLE Classifier takes the head of the pending list and gathers its properties; while it is
CLASSIFYING, while a commit is pending and on an empty list nothing is taken (that the row then does nothing is the
model's, log 3, and that the properties are gathered at the take, log 15). R40, R45, R78, R79, R80: the properties of a
message: a probe that is absent or reaches past the end is 0, any other the two message bytes at its offset; SHORTS names
the probes past the end; and a probed block that does not verify is a memory error. -/
def Obligations.ClassifierTakesTheHeadAndItsProperties : Prop :=
  (∀ s : State,
     (∀ i rest m, s.classifier.state = .idle → s.reassembly.pendingList = i :: rest →
       (∀ h g q, s.program.edit ≠ .committing h g q) → s.reassembly.contexts[i].body = .complete m →
       exec .classifierTake s = .next ((s.withReassembly { s.reassembly with pendingList := rest }).withClassifier
         { s.classifier with state := .classifying i (s.pool.gather s.program.active m) })) ∧
     (s.classifier.state ≠ .idle ∨ (∃ h g q, s.program.edit = .committing h g q) ∨ s.reassembly.pendingList = [] →
       exec .classifierTake s = .next s)) ∧
  ∀ (p : BlockPool) (g : Program) (m : Message) (l : List Nat), p.Forms m.chain l →
    (p.payload m.chain).length = m.byteCount →
    let read := fun (k : Fin 4) (o : U16) => g.probes[k] = some o ∧ o.toNat + 2 ≤ m.byteCount
    let damaged := ∃ k o b, read k o ∧ (l[o.toNat / 64]? = some b ∨ l[(o.toNat + 1) / 64]? = some b) ∧
      p.verifies b = false
    let value := fun k : Fin 4 => match g.probes[k] with
      | none => (0 : U16)
      | some o => if m.byteCount < o.toNat + 2 then 0 else word16At (p.payload m.chain) o.toNat
    let bit := fun (k : Fin 4) (n : U16) => match g.probes[k] with
      | none => (0 : U16)
      | some o => if m.byteCount < o.toNat + 2 then n else 0
    (damaged → p.gather g m = .memoryError) ∧
    (¬ damaged → p.gather g m = .properties {
      station := m.station.zeroExtend 16, channel := m.channel.zeroExtend 16, cls := m.cls.zeroExtend 16,
      length := BitVec.ofNat 16 m.byteCount, tag := m.tag.zeroExtend 16, probe0 := value 0, probe1 := value 1,
      probe2 := value 2, probe3 := value 3, shorts := bit 0 1 + bit 1 2 + bit 2 4 + bit 3 8 })

/-- R78: each property code reads its own property of the message, 0 STATION to 9 SHORTS. R84: a TEST compares the masked
property with the masked operand as unsigned numbers. -/
def Obligations.TestsReadTheirPropertyAndCompareUnderTheMask : Prop :=
  (∀ x : Properties, x.value 0 = x.station ∧ x.value 1 = x.channel ∧ x.value 2 = x.cls ∧ x.value 3 = x.length ∧
    x.value 4 = x.tag ∧ x.value 5 = x.probe0 ∧ x.value 6 = x.probe1 ∧ x.value 7 = x.probe2 ∧ x.value 8 = x.probe3 ∧
    x.value 9 = x.shorts) ∧
  ∀ (p o m : U16),
    (compareMasked 0 p o m = true ↔ (p &&& m).toNat = (o &&& m).toNat) ∧
    (compareMasked 1 p o m = true ↔ (p &&& m).toNat ≠ (o &&& m).toNat) ∧
    (compareMasked 2 p o m = true ↔ (p &&& m).toNat ≥ (o &&& m).toNat) ∧
    (compareMasked 3 p o m = true ↔ (p &&& m).toNat < (o &&& m).toNat)

/-- R85 to R89: the evaluation of a valid program decides what its terms, masks and gates decide, and nothing else. -/
def Obligations.EvaluationFollowsTheTerms : Prop :=
  ∀ (g : Program) (x : Properties), g.count ≤ 256 → g.Valid → ∀ hits a,
    g.Decides x 0 0xFFFF hits a ↔ g.evaluate x = { hits := hits, action := a }

/-- R80, R90 to R96, R42: the end step of a message that was evaluated: its hits, its copies, its message ID, its chain,
its context, the counters, and the Classifier IDLE; and that of a message with a memory error at a probe. (That the
evaluation is within the end step is the model's, log 15.) -/
def Obligations.EndStepCarriesOutTheAction : Prop :=
  (∀ (s : State) (i : Fin 48) (m : Message) (x : Properties) (hits : List Nat) (a : Option ClauseAction),
    s.classifier.state = .classifying i (.properties x) → s.reassembly.contexts[i].body = .complete m →
    s.program.active.count ≤ 256 → s.program.active.Valid →
    s.program.active.evaluate x = { hits := hits, action := a } →
    ∃ counted : Vector Counter 256,
      (∀ j : Fin 256, counted[j] = if j.val ∈ hits then satInc s.program.hits[j] else s.program.hits[j]) ∧
      let n := m.chain.count
      let v := s.withProgram { s.program with hits := counted }
      let record := fun mark mirrored : Bool => ({
        messageId := s.classifier.messageId, generation := s.program.generation, station := m.station,
        channel := m.channel, cls := m.cls, length := m.byteCount, timestamp := m.arrival, mark := mark,
        mirrored := mirrored, replay := false, chain := m.chain.head } : Record)
      let finish := fun (u : State) (copies : Nat) (discards : Bool) =>
        ((if copies = 0 then (u.withPool (s.pool.release m.chain)).handFreeCount
          else u.withPool (s.pool.setChainEntry m.chain.head
            { tail := m.chain.tail, count := n, refs := copies })).contextPut i
          { s.reassembly.contexts[i] with body := .free } s.reassembly.counters).withClassifier
          { s.classifier with
            state := .idle,
            messageId := if copies = 0 then s.classifier.messageId else s.classifier.messageId + 1,
            classified := satInc s.classifier.classified,
            discarded := if discards then satInc s.classifier.discarded else s.classifier.discarded,
            byDefault := if a = none then satInc s.classifier.byDefault else s.classifier.byDefault }
      let delivers := fun (q : Fin 8) (mark : Bool) => exec .classificationEnd s =
        .next (finish (v.offered q n (record mark false)) (if s.Accepts q n then 1 else 0) false)
      (∀ mark, a = some (.discard mark) → exec .classificationEnd s = .next (finish v 0 true)) ∧
      (a = none → s.program.active.default = .discard → exec .classificationEnd s = .next (finish v 0 true)) ∧
      (∀ q : Fin 8, ∀ b mark, a = some (.deliver b mark) → b.toNat = q.val → delivers q mark) ∧
      (∀ q mark, a = none → s.program.active.default = .deliver q mark → delivers q mark) ∧
      (∀ q q2 : Fin 8, ∀ b b2 mark, a = some (.mirror b b2 mark) → b.toNat = q.val → b2.toNat = q2.val →
        exec .classificationEnd s =
          .next (finish ((v.offered q n (record mark false)).offered q2 n (record mark true))
            ((if s.Accepts q n then 1 else 0) + (if s.Accepts q2 n then 1 else 0)) false))) ∧
  ∀ (s : State) (i : Fin 48) (m : Message), s.classifier.state = .classifying i .memoryError →
    s.reassembly.contexts[i].body = .complete m →
    exec .classificationEnd s = .next ((((s.withPool (s.pool.release m.chain)).handFreeCount.contextPut i
      { s.reassembly.contexts[i] with body := .free } s.reassembly.counters).post .memoryError 0xFFFF).withClassifier
      { s.classifier with state := .idle, memoryErrors := satInc s.classifier.memoryErrors })

/-! ### The uplink -/

/-- R181, R182, R115, R129, R137, R167, R176: the reports of the uplink, and what UPLINK LOSS does in every block. A
report that the link state does not await does nothing (log 3). (That UPLINK LOSS is one step across the blocks is log
21's.) -/
def Obligations.UplinkReportsMoveTheLink : Prop :=
  ∀ s : State,
    let linked := fun l => s.withUplink { s.uplink with link := l }
    (s.uplink.link = .down → exec .uplinkSignal s = .next (linked .training)) ∧
    (s.uplink.link ≠ .down → exec .uplinkSignal s = .next s) ∧
    (s.uplink.link = .training → exec .trainingComplete s = .next (linked .up)) ∧
    (s.uplink.link ≠ .training → exec .trainingComplete s = .next s) ∧
    ∀ row, row = .trainingFailure ∨ row = .lossOfSignal →
      (s.uplink.link = .down → exec row s = .next s) ∧
      (s.uplink.link = .training → exec row s = .next (linked .down)) ∧
      (s.uplink.link = .up → exec row s = .next { s with
        uplink := { s.uplink with link := .down, lane := .idle },
        delivery := { s.delivery with queues := Vector.ofFn fun q : Fin 8 =>
          let x := s.delivery.queues[q]
          if s.uplink.lane.streamingQueue = some q then
            { x with credit := 0, inFlight := false, records := match x.records with
              | [] => []
              | r :: rest => { r with replay := true } :: rest }
          else { x with credit := 0 } },
        management := { s.management with fifo := [], responses := [] },
        program := { s.program with edit := match s.program.edit with
          | .none => .none
          | .editing _ _ _ => .none
          | .committing h g q => .committing h g q },
        events :=
          if s.uplink.lane.isEvent then
            let kept := { s.events with
              slots := mapTable (fun x : EventSlot => { x with subPending := 0 }) s.events.slots, flushNote := false }
            if s.params.coalesceCount ≤ s.events.sum ∨ (0 < s.events.sum ∧ s.events.flushNote = true) then
              { kept with due := true }
            else if 0 < s.events.sum then
              { kept with timer := some (s.events.timebase + BitVec.ofNat 32 (100 * s.params.coalesceTime)) }
            else kept
          else s.events })

/-- R121, R153, R183, R184: with the uplink UP, a REQUEST joins the request FIFO or is dropped and counted, a CREDIT adds
to its queue up to 255, and an error is counted and posted with its detail; in any other link state nothing is received,
nor is a unit whose reception began before the link became UP (R181; that the command says so is the model's form,
log 6; that a row carries its unit, which decides the effect, is log 17's). -/
def Obligations.InboundFramesAreTaken : Prop :=
  ∀ (s : State) (u : LaneUnit),
    let failed := fun d : U16 => (s.withUplink { s.uplink with
      frameErrors := satInc s.uplink.frameErrors }).post .uplinkFrameError d
    (s.uplink.link ≠ .up ∨ u.begunInUp = false → exec (.requestFrame u) s = .next s ∧
      exec (.creditFrame u) s = .next s ∧ exec (.uplinkFrameError u) s = .next s) ∧
    (s.uplink.link = .up → u.begunInUp = true →
      (∀ r, checkInbound u = .request r →
        (s.management.fifo.length < 8 → exec (.requestFrame u) s =
          .next (s.withManagement { s.management with fifo := s.management.fifo ++ [r] })) ∧
        (8 ≤ s.management.fifo.length → exec (.requestFrame u) s = .next ((s.withManagement { s.management with
          dropped := satInc s.management.dropped }).post .requestDropped (r.tag.zeroExtend 16)))) ∧
      (∀ b n, checkInbound u = .credit b n →
        (7 < b.toNat ∨ n = 0 → exec (.creditFrame u) s = .next (failed 0x21)) ∧
        ∀ q : Fin 8, b.toNat = q.val → n ≠ 0 →
          let x := s.delivery.queues[q]
          let put := fun c : Byte =>
            s.withDelivery { s.delivery with queues := s.delivery.queues.set q { x with credit := c } }
          (x.credit.toNat + n.toNat ≤ 255 → exec (.creditFrame u) s = .next (put (x.credit + n))) ∧
          (255 < x.credit.toNat + n.toNat → exec (.creditFrame u) s =
            .next ((put 255).post .creditOverflow (BitVec.ofNat 16 q.val)))) ∧
      ∀ d, checkInbound u = .error d → exec (.uplinkFrameError u) s = .next (failed d))

/-- R154, R175, R176, R185, R186: with the uplink UP and the lane IDLE, the head of the response queue starts a RESPONSE
frame, and else a due flag starts an EVENT frame with a snapshot of the slots; the end of each frees the lane, and takes
the response out of the queue, or the snapshot out of the slots. While the link is not UP or the lane is BUSY neither
frame starts, without a response no RESPONSE frame, and while a response waits or none is due no EVENT frame (that such a
row then changes nothing is the model's form, log 3; that a grant is a command of its own, log 27; the record of the bytes
that left, log 12). -/
def Obligations.ResponsesAndEventsAreSent : Prop :=
  ∀ s : State,
    let carrying := fun l => s.withUplink { s.uplink with lane := l }
    let left := fun (u : State) (bytes : List Byte) =>
      (u.withUplink { s.uplink with lane := .idle }).withOutputs { s.outputs with uplink := bytes :: s.outputs.uplink }
    (s.uplink.link = .up → s.uplink.lane = .idle → ∀ r rest, s.management.responses = r :: rest →
      exec .responseFrameStart s = .next (carrying (.response r))) ∧
    (s.uplink.link ≠ .up ∨ s.uplink.lane ≠ .idle ∨ s.management.responses = [] →
      exec .responseFrameStart s = .next s) ∧
    (s.uplink.link ≠ .up ∨ s.uplink.lane ≠ .idle ∨ s.management.responses ≠ [] ∨ s.events.due = false →
      exec .eventFrameStart s = .next s) ∧
    (∀ r, s.uplink.lane = .response r → exec .responseFrameEnd s = .next (left (s.withManagement { s.management with
      responses := s.management.responses.tail }) r.bytes)) ∧
    (s.uplink.link = .up → s.uplink.lane = .idle → s.management.responses = [] → s.events.due = true →
      exec .eventFrameStart s = .next ((carrying (.event ((List.finRange 22).filterMap fun i =>
          let x := s.events.slots[i]
          if x.enabled = true ∧ x.count ≠ 0 then
            some { code := natByte (i.val + 1), count := x.count, detail := x.detail, firstTime := x.firstTime }
          else none))).withEvents { s.events with
        slots := mapTable (fun x : EventSlot =>
          if x.enabled = true ∧ x.count ≠ 0 then { x with subPending := x.count } else x) s.events.slots,
        due := false, timer := none })) ∧
    ∀ entries, s.uplink.lane = .event entries →
      let slots := mapTable (fun x : EventSlot => { x with
        count := if x.subPending.toNat ≤ x.count.toNat then x.count - x.subPending else 0, subPending := 0 })
        s.events.slots
      let sum := (slots.toList.map fun x => x.count.toNat).sum
      let x := { s.events with slots := slots, flushNote := false }
      exec .eventFrameEnd s = .next (left (s.withEvents (
        if s.params.coalesceCount ≤ sum ∨ (0 < sum ∧ s.events.flushNote = true) then { x with due := true }
        else if 0 < sum then
          { x with timer := some (s.events.timebase + BitVec.ofNat 32 (100 * s.params.coalesceTime)) }
        else x)) (eventBytes entries))

/-- R122, R124, R125, R185, R186: with the uplink UP, the lane IDLE, no response waiting and no EVENT frame due, the
scheduler chooses a queue, and a DELIVERY frame starts from its head record for one credit. While the link is not UP, the
lane is BUSY, a response waits, an EVENT frame is due or no queue is eligible, none starts (that the row then changes
nothing is the model's form, log 3, and that a grant is a command of its own, log 27). -/
def Obligations.SchedulerStartsADelivery : Prop :=
  (∀ s : State, (s.uplink.link ≠ .up ∨ s.uplink.lane ≠ .idle ∨ s.management.responses ≠ [] ∨ s.events.due = true ∨
      ∀ q : Fin 8, ¬ (s.delivery.queues[q].state = .running ∧ s.delivery.queues[q].records ≠ [] ∧
        1 ≤ s.delivery.queues[q].credit.toNat)) →
    exec .deliveryFrameStart s = .next s) ∧
  ∀ (s : State) (q : Fin 8) (turns : Nat) (r : Record) (rest : List Record), s.uplink.link = .up →
    s.uplink.lane = .idle → s.management.responses = [] → s.events.due = false → s.Chooses q turns →
    s.delivery.queues[q].records = r :: rest →
    exec .deliveryFrameStart s = .next ((s.withDelivery {
      queues := s.delivery.queues.set q { s.delivery.queues[q] with
        inFlight := true, credit := s.delivery.queues[q].credit - 1 },
      current := q, turns := turns }).withUplink { s.uplink with
        lane := .delivery { queue := q, header := r, payload := .streaming } })

/-- R120, R126, R127, R128, R130, R186: a streamed frame whose blocks all verify ends with trailer OK, and its record
leaves the queue, counted as delivered; the first block that does not verify takes the record out, halts the queue and
cuts the frame, whose end then changes nothing more. (That the blocks are read at the end or the error is the model's,
log 10; the record of the bytes that left, log 12; that the next grant is a command of its own, log 27.) -/
def Obligations.DeliveriesEnd : Prop :=
  ∀ (s : State) (f : DeliveryFrame), s.uplink.lane = .delivery f →
    let x := s.delivery.queues[f.queue]
    let blocks := s.pool.chainBlocks (s.pool.chainOf f.header.chain)
    let put := fun y : Queue => s.withDelivery { s.delivery with queues := s.delivery.queues.set f.queue y }
    (f.payload = .streaming → (∀ b ∈ blocks, s.pool.verifies b = true) →
      let v := (put { x with inFlight := false, counters := { x.counters with
        delivered := satInc x.counters.delivered,
        deliveredBytes := satAdd x.counters.deliveredBytes f.header.length } }).headRemoved f.queue
      let sent := (blocks.flatMap s.pool.blockContent).take f.header.length
      exec .deliveryFrameEnd s = .next ((v.withUplink { s.uplink with lane := .idle }).withOutputs
        { s.outputs with uplink := deliveryBytes f.queue f.header sent .ok :: s.outputs.uplink })) ∧
    (f.payload = .streaming → ∀ before b after, blocks = before ++ b :: after →
      (∀ b' ∈ before, s.pool.verifies b' = true) → s.pool.verifies b = false →
      let v := (put { x with inFlight := false, state := .halted .memory, counters := { x.counters with
        memoryErrors := satInc x.counters.memoryErrors } }).headRemoved f.queue
      exec .deliveryMemoryError s = .next ((v.withUplink { s.uplink with
        lane := .delivery { f with payload := .cut (before.flatMap s.pool.blockContent) .abortedMemory }
        }).post .memoryError (BitVec.ofNat 16 f.queue.val))) ∧
    ∀ sent t, f.payload = .cut sent t → exec .deliveryFrameEnd s =
      .next ((s.withUplink { s.uplink with lane := .idle }).withOutputs { s.outputs with
        uplink := deliveryBytes f.queue f.header sent t :: s.outputs.uplink })

/-! ### Encodings -/

/-- R5, R6, R10, R187: a data cell composed from its fields by the layout of R187 passes the check and the format, and
its kind, channel, destination, source, sequence number, class and payload are read back from it; of the HOLD and RELEASE
cells that the part composes (R13) the kind, channel, destination, source and class are, and the hold duration of a HOLD,
whose place is 0 in a RELEASE. -/
def Obligations.ComposedCellsAreReadBack : Prop :=
  (∀ (k : DataKind) (channel : Chan) (destination source : Addr) (sequence : Seq) (cls : Byte) (payload : List Byte),
    1 ≤ payload.length → payload.length ≤ 56 →
    let code : BitVec 4 := match k with | .only => 1 | .first => 2 | .middle => 3 | .last => 4
    let front := [code ++ channel, destination.extractLsb' 4 8,
        destination.extractLsb' 0 4 ++ source.extractLsb' 8 4, source.extractLsb' 0 8, sequence ++ (0 : BitVec 2),
        natByte payload.length, cls] ++ payload
    let bytes := front ++ be16 (crc16 front)
    cellCheckGood { bytes := bytes, codingError := false, begunInUp := true } = true ∧
      cellFormat bytes = some (.data k) ∧ cellChannel bytes = channel ∧ cellDestination bytes = destination ∧
      cellSource bytes = source ∧ cellSequence bytes = sequence ∧ cellClass bytes = cls ∧ cellPayload bytes = payload) ∧
  ∀ (c : TxCell), cellCheckGood { bytes := c.bytes, codingError := false, begunInUp := true } = true ∧
    c.bytes.length = 9 ∧ cellChannel c.bytes = 0 ∧ cellDestination c.bytes = 4095 ∧ cellClass c.bytes = 0 ∧
    match c with
    | .hold source d => cellFormat c.bytes = some .hold ∧ cellSource c.bytes = source ∧ word16At c.bytes 4 = d
    | .release source => cellFormat c.bytes = some .release ∧ cellSource c.bytes = source ∧ word16At c.bytes 4 = 0

/-- R183, R187: the four checks of an inbound unit in order, each failing unit with its detail: size, coding and CRC-32,
then the body length field, then the type, then the body; a unit that passes them is read as the REQUEST or CREDIT that it
carries. A REQUEST or CREDIT frame composed by the layout of R187 passes them all and is read back. -/
def Obligations.InboundUnitsAreCheckedAndReadBack : Prop :=
  (∀ u : LaneUnit,
    let n := u.bytes.length
    let type := byteAt u.bytes 0
    let good := 7 ≤ n ∧ n ≤ 80 ∧ u.codingError = false ∧ crc32 (u.bytes.take (n - 4)) = word32At u.bytes (n - 4)
    let fits := (word16At u.bytes 1).toNat = n - 7
    (¬ good → checkInbound u = .error 0) ∧
    (good → ¬ fits → checkInbound u = .error (type.zeroExtend 16)) ∧
    (good → fits → type ≠ 0x20 → type ≠ 0x21 → checkInbound u = .error (type.zeroExtend 16)) ∧
    (good → fits → type = 0x21 → n - 7 ≠ 2 → checkInbound u = .error 0x21) ∧
    (good → fits → type = 0x21 → n - 7 = 2 →
      checkInbound u = .credit (byteAt u.bytes 3) (byteAt u.bytes 4)) ∧
    (good → fits → type = 0x20 → n - 7 < 6 ∨ n - 7 ≠ 6 + (word16At u.bytes 7).toNat → checkInbound u = .error 0x20) ∧
    (good → fits → type = 0x20 → n - 7 = 6 + (word16At u.bytes 7).toNat → checkInbound u = .request {
      tag := byteAt u.bytes 3, sequence := word16At u.bytes 4, kind := byteAt u.bytes 6,
      args := (u.bytes.drop 9).take (n - 13) })) ∧
  (∀ (u : LaneUnit) (r : Request), u.codingError = false → r.args.length ≤ 67 →
    u.bytes = frameBytes 0x20 ([r.tag] ++ be16 r.sequence ++ [r.kind] ++ natBe16 r.args.length ++ r.args) →
    checkInbound u = .request r) ∧
  ∀ (u : LaneUnit) (q n : Byte), u.codingError = false → u.bytes = frameBytes 0x21 [q, n] → checkInbound u = .credit q n

/-- R183, R187: the bytes of the three outbound frames, offset by offset: type, body length, body, and the CRC-32 over
the three, fields most significant byte first. The payload bytes of a DELIVERY frame that were not sent (R128, R130) are
zeros up to its length. -/
def Obligations.OutboundFramesAreLaidOut : Prop :=
  let high := fun x : U16 => x.extractLsb' 8 8
  let low := fun x : U16 => x.extractLsb' 0 8
  let four := fun x : U32 => [x.extractLsb' 24 8, x.extractLsb' 16 8, x.extractLsb' 8 8, x.extractLsb' 0 8]
  let frame := fun (type : Byte) (length : U16) (body : List Byte) =>
    [type, high length, low length] ++ body ++ four (crc32 ([type, high length, low length] ++ body))
  (∀ r : Response, r.bytes = frame 0x12 (7 + BitVec.ofNat 16 r.data.length)
    ([r.tag, high r.sequence, low r.sequence, r.kind, r.status.code, high (BitVec.ofNat 16 r.data.length),
      low (BitVec.ofNat 16 r.data.length)] ++ r.data)) ∧
  ([Status.ok, .badTag, .badKind, .badArg, .badValue, .noRight, .busyEdit, .noEdit, .commitPending, .invalidProgram,
    .notFound, .tableFull, .holdActive, .linkDown, .restarted, .retryTooLong].map Status.code =
      (List.range 16).map (BitVec.ofNat 8)) ∧
  (∀ entries : List EventEntry, eventBytes entries = frame 0x11 (1 + 9 * BitVec.ofNat 16 entries.length)
      (BitVec.ofNat 8 entries.length :: entries.flatMap fun e =>
        [e.code, high e.count, low e.count, high e.detail, low e.detail] ++ four e.firstTime)) ∧
  ∀ (q : Fin 8) (r : Record) (sent : List Byte) (t : Trailer), sent.length ≤ r.length →
    deliveryBytes q r sent t = frame 0x10 (17 + BitVec.ofNat 16 r.length)
      ([BitVec.ofNat 8 q.val,
        (if r.mark then 1 else 0) + (if r.replay then 2 else 0) + (if r.mirrored then 4 else 0),
        high r.messageId, low r.messageId, high r.generation, low r.generation,
        (0 : BitVec 4) ++ r.station.extractLsb' 8 4, r.station.extractLsb' 0 8, (0 : BitVec 4) ++ r.channel, r.cls,
        high (BitVec.ofNat 16 r.length), low (BitVec.ofNat 16 r.length)] ++ four r.timestamp ++ sent
        ++ List.replicate (r.length - sent.length) (0 : Byte)
        ++ [(match t with | .ok => 0 | .abortedMemory => 1 | .abortedRestart => 2 : Byte)])

/-! ### Invariants -/

/-- Every step keeps that the request FIFO and the response queue are bounded, with a place kept for every answer to
come (R112, R153 to R155), that every accepted request is in progress or has its answer in the cache (R158, R159; the
flag awaitsSwap that tells which is the model's, log 30), and the rights (R152). -/
def Obligations.StepKeepsTheManagementUnitSound : Prop :=
  ∀ s t : State, s.ManagementSound → step s = .next t → t.ManagementSound

/-- Every step keeps the parameters in their ranges (R141, R161), and the trunk side sound: no hold and no cell on a
trunk that is DOWN (R15, R149). That this holds after every step rests on TRUNK LOSS being one step across the blocks, as
spec/95_what_each_step_holds.md has TRUNK_LOSS (log 21, read from the spec): the window of which R15, R147 and R149 speak,
in which the link is DOWN and a block has not yet taken the loss, lies within that step. -/
def Obligations.StepKeepsParametersAndTrunkSound : Prop :=
  ∀ s t : State, s.params.InRange → s.TrunkSound → step s = .next t → t.params.InRange ∧ t.TrunkSound

/-- Every step keeps the lists that hold the Block Pool in canonical form, so that pools that hold the same are equal.
Canonical form is the model's own storage form, not the spec's (log 31). -/
def Obligations.StepKeepsThePoolCanonical : Prop :=
  ∀ s t : State, s.pool.Canonical → step s = .next t → t.pool.Canonical

/-- Every step keeps the Block Pool sound: each of the 2,048 blocks is once on the free list or once in one chain of a
context or of queue records (R36, R37), the chains are linked (R40), a chain's reference count is the number of records
that name it, 1 or 2 (R43), and a queue's charge is the sum of the block counts of the chains that its records name (R44,
R117). -/
def Obligations.StepKeepsThePoolSound : Prop :=
  ∀ s t : State, s.PoolSound → step s = .next t → t.PoolSound

/-- Every step keeps the active program valid (R82, R111). -/
def Obligations.StepKeepsTheProgramValid : Prop :=
  ∀ s t : State, s.ProgramSound → step s = .next t → t.ProgramSound

/-- Every step keeps the addresses of the Station Table legal and unique (R17), at most one context per key, and the
pending list the list of the COMPLETE contexts (R51, R67, R68). -/
def Obligations.StepKeepsStationsAndContextsSound : Prop :=
  (∀ s t : State, s.stations.Sound → step s = .next t → t.stations.Sound) ∧
  ∀ s t : State, s.ContextsSound → step s = .next t → t.ContextsSound

/-- Every step keeps each entry's open-context count the number of its station's OPEN and DISCARDING contexts, but in the
window that a removal opens (R22, R53); an aging tick that would remove an entry while a cell of its station still waits
for the Reassembly Unit is left out, since the command queue could hold such a cell back for longer than the age limit
(logs 1 and 2; R25 has the cell's lookup set the age to 0). -/
def Obligations.StepKeepsTheOpenCountsSound : Prop :=
  ∀ s t : State, s.stations.Sound → s.OpenCountsSound → (s.pending.head? = some .agingTick → s.NoStaleCell) →
    step s = .next t → t.OpenCountsSound

/-- Every step keeps the lane, the in-flight mark, the credit and the queues in step (R117, R119, R137, R182); that this
holds after UPLINK LOSS rests on its being one step across the blocks (log 21). -/
def Obligations.StepKeepsTheUplinkSound : Prop :=
  ∀ s t : State, s.UplinkSound → step s = .next t → t.UplinkSound

/-- Every step keeps the due flag, the timer and the slots in step (R172 to R176); that this holds after UPLINK LOSS and
SOFT RESTART rests on each being one step across the blocks (log 21). -/
def Obligations.StepKeepsTheEventsSound : Prop :=
  ∀ s t : State, s.params.InRange → s.EventsSound → step s = .next t → t.EventsSound

/-- The state after POWER-ON meets every invariant above. -/
def Obligations.ResetMeetsTheInvariants : Prop :=
  State.reset.ManagementSound ∧ State.reset.params.InRange ∧ State.reset.TrunkSound ∧ State.reset.pool.Canonical ∧
    State.reset.PoolSound ∧ State.reset.ProgramSound ∧ State.reset.stations.Sound ∧ State.reset.ContextsSound ∧
    State.reset.OpenCountsSound ∧ State.reset.UplinkSound ∧ State.reset.EventsSound
end

