-- ==== Sys2Proof/Laws/Bytes.lean ====
section
/-! SUPPORT. Numbers in bytes: how long their bytes are, and that they are read back from where they stand; the CRC-16
continued. -/

namespace Sys2Proof.Machine

@[simp] theorem length_be16 (x : U16) : (be16 x).length = 2 := rfl

@[simp] theorem length_be32 (x : U32) : (be32 x).length = 4 := rfl

@[simp] theorem length_natBe16 (n : Nat) : (natBe16 n).length = 2 := rfl

theorem byteAt_append_left (a b : List Byte) (i : Nat) (h : i < a.length) : byteAt (a ++ b) i = byteAt a i := by
  simp [byteAt, List.getD_eq_getElem?_getD, List.getElem?_append_left h]

theorem byteAt_append_right (a b : List Byte) (i : Nat) : byteAt (a ++ b) (a.length + i) = byteAt b i := by
  rw [byteAt, byteAt, List.getD_append_right _ _ _ _ (by omega), Nat.add_sub_cancel_left]

theorem word16At_append_left (a b : List Byte) (i : Nat) (h : i + 1 < a.length) :
    word16At (a ++ b) i = word16At a i := by
  simp only [word16At, byteAt_append_left a b i (by omega), byteAt_append_left a b (i + 1) h]

theorem word16At_append_right (a b : List Byte) (i : Nat) : word16At (a ++ b) (a.length + i) = word16At b i := by
  simp only [word16At, byteAt_append_right, Nat.add_assoc]

theorem word32At_append_right (a b : List Byte) (i : Nat) : word32At (a ++ b) (a.length + i) = word32At b i := by
  simp only [word32At, word16At_append_right, Nat.add_assoc]

/-- The two bytes of a word, most significant first, are the word. -/
theorem word16At_be16 (x : U16) (rest : List Byte) : word16At (be16 x ++ rest) 0 = x := by
  show x.extractLsb' 8 8 ++ x.extractLsb' 0 8 = x
  apply BitVec.eq_of_getLsbD_eq
  intro i hi
  simp only [BitVec.getLsbD_append, BitVec.getLsbD_extractLsb']
  by_cases h : i < 8
  · simp [h]
  · simp [h, show i - 8 < 8 by omega, show 8 + (i - 8) = i by omega]

/-- The four bytes of a word, most significant first, are the word. -/
theorem word32At_be32 (x : U32) (rest : List Byte) : word32At (be32 x ++ rest) 0 = x := by
  show (x.extractLsb' 24 8 ++ x.extractLsb' 16 8) ++ (x.extractLsb' 8 8 ++ x.extractLsb' 0 8) = x
  apply BitVec.eq_of_getLsbD_eq
  intro i hi
  simp only [BitVec.getLsbD_append, BitVec.getLsbD_extractLsb']
  by_cases h1 : i < 8
  · simp [h1, show i < 16 by omega]
  by_cases h2 : i < 16
  · simp [h1, h2, show i - 8 < 8 by omega, show 8 + (i - 8) = i by omega]
  by_cases h3 : i < 24
  · simp [h2, show i - 16 < 8 by omega, show 16 + (i - 16) = i by omega]
  · simp [h2, show ¬ i - 16 < 8 by omega, show i - 16 - 8 < 8 by omega, show 24 + (i - 16 - 8) = i by omega]

/-- A CRC-16 at the end of a unit is read back (R5). -/
theorem word16At_end (front : List Byte) (c : U16) : word16At (front ++ be16 c) front.length = c := by
  have h := word16At_append_right front (be16 c) 0
  rw [Nat.add_zero] at h
  rw [h, ← List.append_nil (be16 c), word16At_be16]

/-- A CRC-32 at the end of a unit is read back (R183). -/
theorem word32At_end (front : List Byte) (c : U32) : word32At (front ++ be32 c) front.length = c := by
  have h := word32At_append_right front (be32 c) 0
  rw [Nat.add_zero] at h
  rw [h, ← List.append_nil (be32 c), word32At_be32]

/-- R35: the check code of a block continues over the bytes that follow its content. -/
theorem crc16From_append (reg : U16) (a b : List Byte) : crc16From reg (a ++ b) = crc16From (crc16From reg a) b :=
  List.foldl_append

theorem crc16_append (a b : List Byte) : crc16 (a ++ b) = crc16From (crc16 a) b := crc16From_append _ a b

end Sys2Proof.Machine
end

