-- ==== Sys2Proof/Laws/State.lean ====
section
/-! SUPPORT. One lemma per field per update of State: what an update leaves and what it writes. -/

namespace Sys2Proof.Machine.State

@[simp] theorem withTrunkRx_trunkRx (s : State) (x) : (s.withTrunkRx x).trunkRx = x := rfl
@[simp] theorem withTrunkRx_trunkTx (s : State) (x) : (s.withTrunkRx x).trunkTx = s.trunkTx := rfl
@[simp] theorem withTrunkRx_stations (s : State) (x) : (s.withTrunkRx x).stations = s.stations := rfl
@[simp] theorem withTrunkRx_stream (s : State) (x) : (s.withTrunkRx x).stream = s.stream := rfl
@[simp] theorem withTrunkRx_pool (s : State) (x) : (s.withTrunkRx x).pool = s.pool := rfl
@[simp] theorem withTrunkRx_reassembly (s : State) (x) : (s.withTrunkRx x).reassembly = s.reassembly := rfl
@[simp] theorem withTrunkRx_classifier (s : State) (x) : (s.withTrunkRx x).classifier = s.classifier := rfl
@[simp] theorem withTrunkRx_program (s : State) (x) : (s.withTrunkRx x).program = s.program := rfl
@[simp] theorem withTrunkRx_delivery (s : State) (x) : (s.withTrunkRx x).delivery = s.delivery := rfl
@[simp] theorem withTrunkRx_uplink (s : State) (x) : (s.withTrunkRx x).uplink = s.uplink := rfl
@[simp] theorem withTrunkRx_hold (s : State) (x) : (s.withTrunkRx x).hold = s.hold := rfl
@[simp] theorem withTrunkRx_management (s : State) (x) : (s.withTrunkRx x).management = s.management := rfl
@[simp] theorem withTrunkRx_events (s : State) (x) : (s.withTrunkRx x).events = s.events := rfl
@[simp] theorem withTrunkRx_params (s : State) (x) : (s.withTrunkRx x).params = s.params := rfl
@[simp] theorem withTrunkRx_outputs (s : State) (x) : (s.withTrunkRx x).outputs = s.outputs := rfl
@[simp] theorem withTrunkRx_freeDraws (s : State) (x) : (s.withTrunkRx x).freeDraws = s.freeDraws := rfl
@[simp] theorem withTrunkRx_pending (s : State) (x) : (s.withTrunkRx x).pending = s.pending := rfl
@[simp] theorem withTrunkRx_withTrunkRx (s : State) (x y) : (s.withTrunkRx x).withTrunkRx y = s.withTrunkRx y := rfl
@[simp] theorem withTrunkRx_self (s : State) : s.withTrunkRx s.trunkRx = s := rfl

@[simp] theorem withTrunkTx_trunkRx (s : State) (x) : (s.withTrunkTx x).trunkRx = s.trunkRx := rfl
@[simp] theorem withTrunkTx_trunkTx (s : State) (x) : (s.withTrunkTx x).trunkTx = x := rfl
@[simp] theorem withTrunkTx_stations (s : State) (x) : (s.withTrunkTx x).stations = s.stations := rfl
@[simp] theorem withTrunkTx_stream (s : State) (x) : (s.withTrunkTx x).stream = s.stream := rfl
@[simp] theorem withTrunkTx_pool (s : State) (x) : (s.withTrunkTx x).pool = s.pool := rfl
@[simp] theorem withTrunkTx_reassembly (s : State) (x) : (s.withTrunkTx x).reassembly = s.reassembly := rfl
@[simp] theorem withTrunkTx_classifier (s : State) (x) : (s.withTrunkTx x).classifier = s.classifier := rfl
@[simp] theorem withTrunkTx_program (s : State) (x) : (s.withTrunkTx x).program = s.program := rfl
@[simp] theorem withTrunkTx_delivery (s : State) (x) : (s.withTrunkTx x).delivery = s.delivery := rfl
@[simp] theorem withTrunkTx_uplink (s : State) (x) : (s.withTrunkTx x).uplink = s.uplink := rfl
@[simp] theorem withTrunkTx_hold (s : State) (x) : (s.withTrunkTx x).hold = s.hold := rfl
@[simp] theorem withTrunkTx_management (s : State) (x) : (s.withTrunkTx x).management = s.management := rfl
@[simp] theorem withTrunkTx_events (s : State) (x) : (s.withTrunkTx x).events = s.events := rfl
@[simp] theorem withTrunkTx_params (s : State) (x) : (s.withTrunkTx x).params = s.params := rfl
@[simp] theorem withTrunkTx_outputs (s : State) (x) : (s.withTrunkTx x).outputs = s.outputs := rfl
@[simp] theorem withTrunkTx_freeDraws (s : State) (x) : (s.withTrunkTx x).freeDraws = s.freeDraws := rfl
@[simp] theorem withTrunkTx_pending (s : State) (x) : (s.withTrunkTx x).pending = s.pending := rfl
@[simp] theorem withTrunkTx_withTrunkTx (s : State) (x y) : (s.withTrunkTx x).withTrunkTx y = s.withTrunkTx y := rfl
@[simp] theorem withTrunkTx_self (s : State) : s.withTrunkTx s.trunkTx = s := rfl

@[simp] theorem withStations_trunkRx (s : State) (x) : (s.withStations x).trunkRx = s.trunkRx := rfl
@[simp] theorem withStations_trunkTx (s : State) (x) : (s.withStations x).trunkTx = s.trunkTx := rfl
@[simp] theorem withStations_stations (s : State) (x) : (s.withStations x).stations = x := rfl
@[simp] theorem withStations_stream (s : State) (x) : (s.withStations x).stream = s.stream := rfl
@[simp] theorem withStations_pool (s : State) (x) : (s.withStations x).pool = s.pool := rfl
@[simp] theorem withStations_reassembly (s : State) (x) : (s.withStations x).reassembly = s.reassembly := rfl
@[simp] theorem withStations_classifier (s : State) (x) : (s.withStations x).classifier = s.classifier := rfl
@[simp] theorem withStations_program (s : State) (x) : (s.withStations x).program = s.program := rfl
@[simp] theorem withStations_delivery (s : State) (x) : (s.withStations x).delivery = s.delivery := rfl
@[simp] theorem withStations_uplink (s : State) (x) : (s.withStations x).uplink = s.uplink := rfl
@[simp] theorem withStations_hold (s : State) (x) : (s.withStations x).hold = s.hold := rfl
@[simp] theorem withStations_management (s : State) (x) : (s.withStations x).management = s.management := rfl
@[simp] theorem withStations_events (s : State) (x) : (s.withStations x).events = s.events := rfl
@[simp] theorem withStations_params (s : State) (x) : (s.withStations x).params = s.params := rfl
@[simp] theorem withStations_outputs (s : State) (x) : (s.withStations x).outputs = s.outputs := rfl
@[simp] theorem withStations_freeDraws (s : State) (x) : (s.withStations x).freeDraws = s.freeDraws := rfl
@[simp] theorem withStations_pending (s : State) (x) : (s.withStations x).pending = s.pending := rfl
@[simp] theorem withStations_withStations (s : State) (x y) : (s.withStations x).withStations y = s.withStations y := rfl
@[simp] theorem withStations_self (s : State) : s.withStations s.stations = s := rfl

@[simp] theorem withStream_trunkRx (s : State) (x) : (s.withStream x).trunkRx = s.trunkRx := rfl
@[simp] theorem withStream_trunkTx (s : State) (x) : (s.withStream x).trunkTx = s.trunkTx := rfl
@[simp] theorem withStream_stations (s : State) (x) : (s.withStream x).stations = s.stations := rfl
@[simp] theorem withStream_stream (s : State) (x) : (s.withStream x).stream = x := rfl
@[simp] theorem withStream_pool (s : State) (x) : (s.withStream x).pool = s.pool := rfl
@[simp] theorem withStream_reassembly (s : State) (x) : (s.withStream x).reassembly = s.reassembly := rfl
@[simp] theorem withStream_classifier (s : State) (x) : (s.withStream x).classifier = s.classifier := rfl
@[simp] theorem withStream_program (s : State) (x) : (s.withStream x).program = s.program := rfl
@[simp] theorem withStream_delivery (s : State) (x) : (s.withStream x).delivery = s.delivery := rfl
@[simp] theorem withStream_uplink (s : State) (x) : (s.withStream x).uplink = s.uplink := rfl
@[simp] theorem withStream_hold (s : State) (x) : (s.withStream x).hold = s.hold := rfl
@[simp] theorem withStream_management (s : State) (x) : (s.withStream x).management = s.management := rfl
@[simp] theorem withStream_events (s : State) (x) : (s.withStream x).events = s.events := rfl
@[simp] theorem withStream_params (s : State) (x) : (s.withStream x).params = s.params := rfl
@[simp] theorem withStream_outputs (s : State) (x) : (s.withStream x).outputs = s.outputs := rfl
@[simp] theorem withStream_freeDraws (s : State) (x) : (s.withStream x).freeDraws = s.freeDraws := rfl
@[simp] theorem withStream_pending (s : State) (x) : (s.withStream x).pending = s.pending := rfl
@[simp] theorem withStream_withStream (s : State) (x y) : (s.withStream x).withStream y = s.withStream y := rfl
@[simp] theorem withStream_self (s : State) : s.withStream s.stream = s := rfl

@[simp] theorem withPool_trunkRx (s : State) (x) : (s.withPool x).trunkRx = s.trunkRx := rfl
@[simp] theorem withPool_trunkTx (s : State) (x) : (s.withPool x).trunkTx = s.trunkTx := rfl
@[simp] theorem withPool_stations (s : State) (x) : (s.withPool x).stations = s.stations := rfl
@[simp] theorem withPool_stream (s : State) (x) : (s.withPool x).stream = s.stream := rfl
@[simp] theorem withPool_pool (s : State) (x) : (s.withPool x).pool = x := rfl
@[simp] theorem withPool_reassembly (s : State) (x) : (s.withPool x).reassembly = s.reassembly := rfl
@[simp] theorem withPool_classifier (s : State) (x) : (s.withPool x).classifier = s.classifier := rfl
@[simp] theorem withPool_program (s : State) (x) : (s.withPool x).program = s.program := rfl
@[simp] theorem withPool_delivery (s : State) (x) : (s.withPool x).delivery = s.delivery := rfl
@[simp] theorem withPool_uplink (s : State) (x) : (s.withPool x).uplink = s.uplink := rfl
@[simp] theorem withPool_hold (s : State) (x) : (s.withPool x).hold = s.hold := rfl
@[simp] theorem withPool_management (s : State) (x) : (s.withPool x).management = s.management := rfl
@[simp] theorem withPool_events (s : State) (x) : (s.withPool x).events = s.events := rfl
@[simp] theorem withPool_params (s : State) (x) : (s.withPool x).params = s.params := rfl
@[simp] theorem withPool_outputs (s : State) (x) : (s.withPool x).outputs = s.outputs := rfl
@[simp] theorem withPool_freeDraws (s : State) (x) : (s.withPool x).freeDraws = s.freeDraws := rfl
@[simp] theorem withPool_pending (s : State) (x) : (s.withPool x).pending = s.pending := rfl
@[simp] theorem withPool_withPool (s : State) (x y) : (s.withPool x).withPool y = s.withPool y := rfl
@[simp] theorem withPool_self (s : State) : s.withPool s.pool = s := rfl

@[simp] theorem withReassembly_trunkRx (s : State) (x) : (s.withReassembly x).trunkRx = s.trunkRx := rfl
@[simp] theorem withReassembly_trunkTx (s : State) (x) : (s.withReassembly x).trunkTx = s.trunkTx := rfl
@[simp] theorem withReassembly_stations (s : State) (x) : (s.withReassembly x).stations = s.stations := rfl
@[simp] theorem withReassembly_stream (s : State) (x) : (s.withReassembly x).stream = s.stream := rfl
@[simp] theorem withReassembly_pool (s : State) (x) : (s.withReassembly x).pool = s.pool := rfl
@[simp] theorem withReassembly_reassembly (s : State) (x) : (s.withReassembly x).reassembly = x := rfl
@[simp] theorem withReassembly_classifier (s : State) (x) : (s.withReassembly x).classifier = s.classifier := rfl
@[simp] theorem withReassembly_program (s : State) (x) : (s.withReassembly x).program = s.program := rfl
@[simp] theorem withReassembly_delivery (s : State) (x) : (s.withReassembly x).delivery = s.delivery := rfl
@[simp] theorem withReassembly_uplink (s : State) (x) : (s.withReassembly x).uplink = s.uplink := rfl
@[simp] theorem withReassembly_hold (s : State) (x) : (s.withReassembly x).hold = s.hold := rfl
@[simp] theorem withReassembly_management (s : State) (x) : (s.withReassembly x).management = s.management := rfl
@[simp] theorem withReassembly_events (s : State) (x) : (s.withReassembly x).events = s.events := rfl
@[simp] theorem withReassembly_params (s : State) (x) : (s.withReassembly x).params = s.params := rfl
@[simp] theorem withReassembly_outputs (s : State) (x) : (s.withReassembly x).outputs = s.outputs := rfl
@[simp] theorem withReassembly_freeDraws (s : State) (x) : (s.withReassembly x).freeDraws = s.freeDraws := rfl
@[simp] theorem withReassembly_pending (s : State) (x) : (s.withReassembly x).pending = s.pending := rfl
@[simp] theorem withReassembly_withReassembly (s : State) (x y) : (s.withReassembly x).withReassembly y = s.withReassembly y := rfl
@[simp] theorem withReassembly_self (s : State) : s.withReassembly s.reassembly = s := rfl

@[simp] theorem withClassifier_trunkRx (s : State) (x) : (s.withClassifier x).trunkRx = s.trunkRx := rfl
@[simp] theorem withClassifier_trunkTx (s : State) (x) : (s.withClassifier x).trunkTx = s.trunkTx := rfl
@[simp] theorem withClassifier_stations (s : State) (x) : (s.withClassifier x).stations = s.stations := rfl
@[simp] theorem withClassifier_stream (s : State) (x) : (s.withClassifier x).stream = s.stream := rfl
@[simp] theorem withClassifier_pool (s : State) (x) : (s.withClassifier x).pool = s.pool := rfl
@[simp] theorem withClassifier_reassembly (s : State) (x) : (s.withClassifier x).reassembly = s.reassembly := rfl
@[simp] theorem withClassifier_classifier (s : State) (x) : (s.withClassifier x).classifier = x := rfl
@[simp] theorem withClassifier_program (s : State) (x) : (s.withClassifier x).program = s.program := rfl
@[simp] theorem withClassifier_delivery (s : State) (x) : (s.withClassifier x).delivery = s.delivery := rfl
@[simp] theorem withClassifier_uplink (s : State) (x) : (s.withClassifier x).uplink = s.uplink := rfl
@[simp] theorem withClassifier_hold (s : State) (x) : (s.withClassifier x).hold = s.hold := rfl
@[simp] theorem withClassifier_management (s : State) (x) : (s.withClassifier x).management = s.management := rfl
@[simp] theorem withClassifier_events (s : State) (x) : (s.withClassifier x).events = s.events := rfl
@[simp] theorem withClassifier_params (s : State) (x) : (s.withClassifier x).params = s.params := rfl
@[simp] theorem withClassifier_outputs (s : State) (x) : (s.withClassifier x).outputs = s.outputs := rfl
@[simp] theorem withClassifier_freeDraws (s : State) (x) : (s.withClassifier x).freeDraws = s.freeDraws := rfl
@[simp] theorem withClassifier_pending (s : State) (x) : (s.withClassifier x).pending = s.pending := rfl
@[simp] theorem withClassifier_withClassifier (s : State) (x y) : (s.withClassifier x).withClassifier y = s.withClassifier y := rfl
@[simp] theorem withClassifier_self (s : State) : s.withClassifier s.classifier = s := rfl

@[simp] theorem withProgram_trunkRx (s : State) (x) : (s.withProgram x).trunkRx = s.trunkRx := rfl
@[simp] theorem withProgram_trunkTx (s : State) (x) : (s.withProgram x).trunkTx = s.trunkTx := rfl
@[simp] theorem withProgram_stations (s : State) (x) : (s.withProgram x).stations = s.stations := rfl
@[simp] theorem withProgram_stream (s : State) (x) : (s.withProgram x).stream = s.stream := rfl
@[simp] theorem withProgram_pool (s : State) (x) : (s.withProgram x).pool = s.pool := rfl
@[simp] theorem withProgram_reassembly (s : State) (x) : (s.withProgram x).reassembly = s.reassembly := rfl
@[simp] theorem withProgram_classifier (s : State) (x) : (s.withProgram x).classifier = s.classifier := rfl
@[simp] theorem withProgram_program (s : State) (x) : (s.withProgram x).program = x := rfl
@[simp] theorem withProgram_delivery (s : State) (x) : (s.withProgram x).delivery = s.delivery := rfl
@[simp] theorem withProgram_uplink (s : State) (x) : (s.withProgram x).uplink = s.uplink := rfl
@[simp] theorem withProgram_hold (s : State) (x) : (s.withProgram x).hold = s.hold := rfl
@[simp] theorem withProgram_management (s : State) (x) : (s.withProgram x).management = s.management := rfl
@[simp] theorem withProgram_events (s : State) (x) : (s.withProgram x).events = s.events := rfl
@[simp] theorem withProgram_params (s : State) (x) : (s.withProgram x).params = s.params := rfl
@[simp] theorem withProgram_outputs (s : State) (x) : (s.withProgram x).outputs = s.outputs := rfl
@[simp] theorem withProgram_freeDraws (s : State) (x) : (s.withProgram x).freeDraws = s.freeDraws := rfl
@[simp] theorem withProgram_pending (s : State) (x) : (s.withProgram x).pending = s.pending := rfl
@[simp] theorem withProgram_withProgram (s : State) (x y) : (s.withProgram x).withProgram y = s.withProgram y := rfl
@[simp] theorem withProgram_self (s : State) : s.withProgram s.program = s := rfl

@[simp] theorem withDelivery_trunkRx (s : State) (x) : (s.withDelivery x).trunkRx = s.trunkRx := rfl
@[simp] theorem withDelivery_trunkTx (s : State) (x) : (s.withDelivery x).trunkTx = s.trunkTx := rfl
@[simp] theorem withDelivery_stations (s : State) (x) : (s.withDelivery x).stations = s.stations := rfl
@[simp] theorem withDelivery_stream (s : State) (x) : (s.withDelivery x).stream = s.stream := rfl
@[simp] theorem withDelivery_pool (s : State) (x) : (s.withDelivery x).pool = s.pool := rfl
@[simp] theorem withDelivery_reassembly (s : State) (x) : (s.withDelivery x).reassembly = s.reassembly := rfl
@[simp] theorem withDelivery_classifier (s : State) (x) : (s.withDelivery x).classifier = s.classifier := rfl
@[simp] theorem withDelivery_program (s : State) (x) : (s.withDelivery x).program = s.program := rfl
@[simp] theorem withDelivery_delivery (s : State) (x) : (s.withDelivery x).delivery = x := rfl
@[simp] theorem withDelivery_uplink (s : State) (x) : (s.withDelivery x).uplink = s.uplink := rfl
@[simp] theorem withDelivery_hold (s : State) (x) : (s.withDelivery x).hold = s.hold := rfl
@[simp] theorem withDelivery_management (s : State) (x) : (s.withDelivery x).management = s.management := rfl
@[simp] theorem withDelivery_events (s : State) (x) : (s.withDelivery x).events = s.events := rfl
@[simp] theorem withDelivery_params (s : State) (x) : (s.withDelivery x).params = s.params := rfl
@[simp] theorem withDelivery_outputs (s : State) (x) : (s.withDelivery x).outputs = s.outputs := rfl
@[simp] theorem withDelivery_freeDraws (s : State) (x) : (s.withDelivery x).freeDraws = s.freeDraws := rfl
@[simp] theorem withDelivery_pending (s : State) (x) : (s.withDelivery x).pending = s.pending := rfl
@[simp] theorem withDelivery_withDelivery (s : State) (x y) : (s.withDelivery x).withDelivery y = s.withDelivery y := rfl
@[simp] theorem withDelivery_self (s : State) : s.withDelivery s.delivery = s := rfl

@[simp] theorem withUplink_trunkRx (s : State) (x) : (s.withUplink x).trunkRx = s.trunkRx := rfl
@[simp] theorem withUplink_trunkTx (s : State) (x) : (s.withUplink x).trunkTx = s.trunkTx := rfl
@[simp] theorem withUplink_stations (s : State) (x) : (s.withUplink x).stations = s.stations := rfl
@[simp] theorem withUplink_stream (s : State) (x) : (s.withUplink x).stream = s.stream := rfl
@[simp] theorem withUplink_pool (s : State) (x) : (s.withUplink x).pool = s.pool := rfl
@[simp] theorem withUplink_reassembly (s : State) (x) : (s.withUplink x).reassembly = s.reassembly := rfl
@[simp] theorem withUplink_classifier (s : State) (x) : (s.withUplink x).classifier = s.classifier := rfl
@[simp] theorem withUplink_program (s : State) (x) : (s.withUplink x).program = s.program := rfl
@[simp] theorem withUplink_delivery (s : State) (x) : (s.withUplink x).delivery = s.delivery := rfl
@[simp] theorem withUplink_uplink (s : State) (x) : (s.withUplink x).uplink = x := rfl
@[simp] theorem withUplink_hold (s : State) (x) : (s.withUplink x).hold = s.hold := rfl
@[simp] theorem withUplink_management (s : State) (x) : (s.withUplink x).management = s.management := rfl
@[simp] theorem withUplink_events (s : State) (x) : (s.withUplink x).events = s.events := rfl
@[simp] theorem withUplink_params (s : State) (x) : (s.withUplink x).params = s.params := rfl
@[simp] theorem withUplink_outputs (s : State) (x) : (s.withUplink x).outputs = s.outputs := rfl
@[simp] theorem withUplink_freeDraws (s : State) (x) : (s.withUplink x).freeDraws = s.freeDraws := rfl
@[simp] theorem withUplink_pending (s : State) (x) : (s.withUplink x).pending = s.pending := rfl
@[simp] theorem withUplink_withUplink (s : State) (x y) : (s.withUplink x).withUplink y = s.withUplink y := rfl
@[simp] theorem withUplink_self (s : State) : s.withUplink s.uplink = s := rfl

@[simp] theorem withHold_trunkRx (s : State) (x) : (s.withHold x).trunkRx = s.trunkRx := rfl
@[simp] theorem withHold_trunkTx (s : State) (x) : (s.withHold x).trunkTx = s.trunkTx := rfl
@[simp] theorem withHold_stations (s : State) (x) : (s.withHold x).stations = s.stations := rfl
@[simp] theorem withHold_stream (s : State) (x) : (s.withHold x).stream = s.stream := rfl
@[simp] theorem withHold_pool (s : State) (x) : (s.withHold x).pool = s.pool := rfl
@[simp] theorem withHold_reassembly (s : State) (x) : (s.withHold x).reassembly = s.reassembly := rfl
@[simp] theorem withHold_classifier (s : State) (x) : (s.withHold x).classifier = s.classifier := rfl
@[simp] theorem withHold_program (s : State) (x) : (s.withHold x).program = s.program := rfl
@[simp] theorem withHold_delivery (s : State) (x) : (s.withHold x).delivery = s.delivery := rfl
@[simp] theorem withHold_uplink (s : State) (x) : (s.withHold x).uplink = s.uplink := rfl
@[simp] theorem withHold_hold (s : State) (x) : (s.withHold x).hold = x := rfl
@[simp] theorem withHold_management (s : State) (x) : (s.withHold x).management = s.management := rfl
@[simp] theorem withHold_events (s : State) (x) : (s.withHold x).events = s.events := rfl
@[simp] theorem withHold_params (s : State) (x) : (s.withHold x).params = s.params := rfl
@[simp] theorem withHold_outputs (s : State) (x) : (s.withHold x).outputs = s.outputs := rfl
@[simp] theorem withHold_freeDraws (s : State) (x) : (s.withHold x).freeDraws = s.freeDraws := rfl
@[simp] theorem withHold_pending (s : State) (x) : (s.withHold x).pending = s.pending := rfl
@[simp] theorem withHold_withHold (s : State) (x y) : (s.withHold x).withHold y = s.withHold y := rfl
@[simp] theorem withHold_self (s : State) : s.withHold s.hold = s := rfl

@[simp] theorem withManagement_trunkRx (s : State) (x) : (s.withManagement x).trunkRx = s.trunkRx := rfl
@[simp] theorem withManagement_trunkTx (s : State) (x) : (s.withManagement x).trunkTx = s.trunkTx := rfl
@[simp] theorem withManagement_stations (s : State) (x) : (s.withManagement x).stations = s.stations := rfl
@[simp] theorem withManagement_stream (s : State) (x) : (s.withManagement x).stream = s.stream := rfl
@[simp] theorem withManagement_pool (s : State) (x) : (s.withManagement x).pool = s.pool := rfl
@[simp] theorem withManagement_reassembly (s : State) (x) : (s.withManagement x).reassembly = s.reassembly := rfl
@[simp] theorem withManagement_classifier (s : State) (x) : (s.withManagement x).classifier = s.classifier := rfl
@[simp] theorem withManagement_program (s : State) (x) : (s.withManagement x).program = s.program := rfl
@[simp] theorem withManagement_delivery (s : State) (x) : (s.withManagement x).delivery = s.delivery := rfl
@[simp] theorem withManagement_uplink (s : State) (x) : (s.withManagement x).uplink = s.uplink := rfl
@[simp] theorem withManagement_hold (s : State) (x) : (s.withManagement x).hold = s.hold := rfl
@[simp] theorem withManagement_management (s : State) (x) : (s.withManagement x).management = x := rfl
@[simp] theorem withManagement_events (s : State) (x) : (s.withManagement x).events = s.events := rfl
@[simp] theorem withManagement_params (s : State) (x) : (s.withManagement x).params = s.params := rfl
@[simp] theorem withManagement_outputs (s : State) (x) : (s.withManagement x).outputs = s.outputs := rfl
@[simp] theorem withManagement_freeDraws (s : State) (x) : (s.withManagement x).freeDraws = s.freeDraws := rfl
@[simp] theorem withManagement_pending (s : State) (x) : (s.withManagement x).pending = s.pending := rfl
@[simp] theorem withManagement_withManagement (s : State) (x y) : (s.withManagement x).withManagement y = s.withManagement y := rfl
@[simp] theorem withManagement_self (s : State) : s.withManagement s.management = s := rfl

@[simp] theorem withEvents_trunkRx (s : State) (x) : (s.withEvents x).trunkRx = s.trunkRx := rfl
@[simp] theorem withEvents_trunkTx (s : State) (x) : (s.withEvents x).trunkTx = s.trunkTx := rfl
@[simp] theorem withEvents_stations (s : State) (x) : (s.withEvents x).stations = s.stations := rfl
@[simp] theorem withEvents_stream (s : State) (x) : (s.withEvents x).stream = s.stream := rfl
@[simp] theorem withEvents_pool (s : State) (x) : (s.withEvents x).pool = s.pool := rfl
@[simp] theorem withEvents_reassembly (s : State) (x) : (s.withEvents x).reassembly = s.reassembly := rfl
@[simp] theorem withEvents_classifier (s : State) (x) : (s.withEvents x).classifier = s.classifier := rfl
@[simp] theorem withEvents_program (s : State) (x) : (s.withEvents x).program = s.program := rfl
@[simp] theorem withEvents_delivery (s : State) (x) : (s.withEvents x).delivery = s.delivery := rfl
@[simp] theorem withEvents_uplink (s : State) (x) : (s.withEvents x).uplink = s.uplink := rfl
@[simp] theorem withEvents_hold (s : State) (x) : (s.withEvents x).hold = s.hold := rfl
@[simp] theorem withEvents_management (s : State) (x) : (s.withEvents x).management = s.management := rfl
@[simp] theorem withEvents_events (s : State) (x) : (s.withEvents x).events = x := rfl
@[simp] theorem withEvents_params (s : State) (x) : (s.withEvents x).params = s.params := rfl
@[simp] theorem withEvents_outputs (s : State) (x) : (s.withEvents x).outputs = s.outputs := rfl
@[simp] theorem withEvents_freeDraws (s : State) (x) : (s.withEvents x).freeDraws = s.freeDraws := rfl
@[simp] theorem withEvents_pending (s : State) (x) : (s.withEvents x).pending = s.pending := rfl
@[simp] theorem withEvents_withEvents (s : State) (x y) : (s.withEvents x).withEvents y = s.withEvents y := rfl
@[simp] theorem withEvents_self (s : State) : s.withEvents s.events = s := rfl

@[simp] theorem withParams_trunkRx (s : State) (x) : (s.withParams x).trunkRx = s.trunkRx := rfl
@[simp] theorem withParams_trunkTx (s : State) (x) : (s.withParams x).trunkTx = s.trunkTx := rfl
@[simp] theorem withParams_stations (s : State) (x) : (s.withParams x).stations = s.stations := rfl
@[simp] theorem withParams_stream (s : State) (x) : (s.withParams x).stream = s.stream := rfl
@[simp] theorem withParams_pool (s : State) (x) : (s.withParams x).pool = s.pool := rfl
@[simp] theorem withParams_reassembly (s : State) (x) : (s.withParams x).reassembly = s.reassembly := rfl
@[simp] theorem withParams_classifier (s : State) (x) : (s.withParams x).classifier = s.classifier := rfl
@[simp] theorem withParams_program (s : State) (x) : (s.withParams x).program = s.program := rfl
@[simp] theorem withParams_delivery (s : State) (x) : (s.withParams x).delivery = s.delivery := rfl
@[simp] theorem withParams_uplink (s : State) (x) : (s.withParams x).uplink = s.uplink := rfl
@[simp] theorem withParams_hold (s : State) (x) : (s.withParams x).hold = s.hold := rfl
@[simp] theorem withParams_management (s : State) (x) : (s.withParams x).management = s.management := rfl
@[simp] theorem withParams_events (s : State) (x) : (s.withParams x).events = s.events := rfl
@[simp] theorem withParams_params (s : State) (x) : (s.withParams x).params = x := rfl
@[simp] theorem withParams_outputs (s : State) (x) : (s.withParams x).outputs = s.outputs := rfl
@[simp] theorem withParams_freeDraws (s : State) (x) : (s.withParams x).freeDraws = s.freeDraws := rfl
@[simp] theorem withParams_pending (s : State) (x) : (s.withParams x).pending = s.pending := rfl
@[simp] theorem withParams_withParams (s : State) (x y) : (s.withParams x).withParams y = s.withParams y := rfl
@[simp] theorem withParams_self (s : State) : s.withParams s.params = s := rfl

@[simp] theorem withOutputs_trunkRx (s : State) (x) : (s.withOutputs x).trunkRx = s.trunkRx := rfl
@[simp] theorem withOutputs_trunkTx (s : State) (x) : (s.withOutputs x).trunkTx = s.trunkTx := rfl
@[simp] theorem withOutputs_stations (s : State) (x) : (s.withOutputs x).stations = s.stations := rfl
@[simp] theorem withOutputs_stream (s : State) (x) : (s.withOutputs x).stream = s.stream := rfl
@[simp] theorem withOutputs_pool (s : State) (x) : (s.withOutputs x).pool = s.pool := rfl
@[simp] theorem withOutputs_reassembly (s : State) (x) : (s.withOutputs x).reassembly = s.reassembly := rfl
@[simp] theorem withOutputs_classifier (s : State) (x) : (s.withOutputs x).classifier = s.classifier := rfl
@[simp] theorem withOutputs_program (s : State) (x) : (s.withOutputs x).program = s.program := rfl
@[simp] theorem withOutputs_delivery (s : State) (x) : (s.withOutputs x).delivery = s.delivery := rfl
@[simp] theorem withOutputs_uplink (s : State) (x) : (s.withOutputs x).uplink = s.uplink := rfl
@[simp] theorem withOutputs_hold (s : State) (x) : (s.withOutputs x).hold = s.hold := rfl
@[simp] theorem withOutputs_management (s : State) (x) : (s.withOutputs x).management = s.management := rfl
@[simp] theorem withOutputs_events (s : State) (x) : (s.withOutputs x).events = s.events := rfl
@[simp] theorem withOutputs_params (s : State) (x) : (s.withOutputs x).params = s.params := rfl
@[simp] theorem withOutputs_outputs (s : State) (x) : (s.withOutputs x).outputs = x := rfl
@[simp] theorem withOutputs_freeDraws (s : State) (x) : (s.withOutputs x).freeDraws = s.freeDraws := rfl
@[simp] theorem withOutputs_pending (s : State) (x) : (s.withOutputs x).pending = s.pending := rfl
@[simp] theorem withOutputs_withOutputs (s : State) (x y) : (s.withOutputs x).withOutputs y = s.withOutputs y := rfl
@[simp] theorem withOutputs_self (s : State) : s.withOutputs s.outputs = s := rfl

@[simp] theorem withFreeDraws_trunkRx (s : State) (x) : (s.withFreeDraws x).trunkRx = s.trunkRx := rfl
@[simp] theorem withFreeDraws_trunkTx (s : State) (x) : (s.withFreeDraws x).trunkTx = s.trunkTx := rfl
@[simp] theorem withFreeDraws_stations (s : State) (x) : (s.withFreeDraws x).stations = s.stations := rfl
@[simp] theorem withFreeDraws_stream (s : State) (x) : (s.withFreeDraws x).stream = s.stream := rfl
@[simp] theorem withFreeDraws_pool (s : State) (x) : (s.withFreeDraws x).pool = s.pool := rfl
@[simp] theorem withFreeDraws_reassembly (s : State) (x) : (s.withFreeDraws x).reassembly = s.reassembly := rfl
@[simp] theorem withFreeDraws_classifier (s : State) (x) : (s.withFreeDraws x).classifier = s.classifier := rfl
@[simp] theorem withFreeDraws_program (s : State) (x) : (s.withFreeDraws x).program = s.program := rfl
@[simp] theorem withFreeDraws_delivery (s : State) (x) : (s.withFreeDraws x).delivery = s.delivery := rfl
@[simp] theorem withFreeDraws_uplink (s : State) (x) : (s.withFreeDraws x).uplink = s.uplink := rfl
@[simp] theorem withFreeDraws_hold (s : State) (x) : (s.withFreeDraws x).hold = s.hold := rfl
@[simp] theorem withFreeDraws_management (s : State) (x) : (s.withFreeDraws x).management = s.management := rfl
@[simp] theorem withFreeDraws_events (s : State) (x) : (s.withFreeDraws x).events = s.events := rfl
@[simp] theorem withFreeDraws_params (s : State) (x) : (s.withFreeDraws x).params = s.params := rfl
@[simp] theorem withFreeDraws_outputs (s : State) (x) : (s.withFreeDraws x).outputs = s.outputs := rfl
@[simp] theorem withFreeDraws_freeDraws (s : State) (x) : (s.withFreeDraws x).freeDraws = x := rfl
@[simp] theorem withFreeDraws_pending (s : State) (x) : (s.withFreeDraws x).pending = s.pending := rfl
@[simp] theorem withFreeDraws_withFreeDraws (s : State) (x y) : (s.withFreeDraws x).withFreeDraws y = s.withFreeDraws y := rfl
@[simp] theorem withFreeDraws_self (s : State) : s.withFreeDraws s.freeDraws = s := rfl

@[simp] theorem withPending_trunkRx (s : State) (x) : (s.withPending x).trunkRx = s.trunkRx := rfl
@[simp] theorem withPending_trunkTx (s : State) (x) : (s.withPending x).trunkTx = s.trunkTx := rfl
@[simp] theorem withPending_stations (s : State) (x) : (s.withPending x).stations = s.stations := rfl
@[simp] theorem withPending_stream (s : State) (x) : (s.withPending x).stream = s.stream := rfl
@[simp] theorem withPending_pool (s : State) (x) : (s.withPending x).pool = s.pool := rfl
@[simp] theorem withPending_reassembly (s : State) (x) : (s.withPending x).reassembly = s.reassembly := rfl
@[simp] theorem withPending_classifier (s : State) (x) : (s.withPending x).classifier = s.classifier := rfl
@[simp] theorem withPending_program (s : State) (x) : (s.withPending x).program = s.program := rfl
@[simp] theorem withPending_delivery (s : State) (x) : (s.withPending x).delivery = s.delivery := rfl
@[simp] theorem withPending_uplink (s : State) (x) : (s.withPending x).uplink = s.uplink := rfl
@[simp] theorem withPending_hold (s : State) (x) : (s.withPending x).hold = s.hold := rfl
@[simp] theorem withPending_management (s : State) (x) : (s.withPending x).management = s.management := rfl
@[simp] theorem withPending_events (s : State) (x) : (s.withPending x).events = s.events := rfl
@[simp] theorem withPending_params (s : State) (x) : (s.withPending x).params = s.params := rfl
@[simp] theorem withPending_outputs (s : State) (x) : (s.withPending x).outputs = s.outputs := rfl
@[simp] theorem withPending_freeDraws (s : State) (x) : (s.withPending x).freeDraws = s.freeDraws := rfl
@[simp] theorem withPending_pending (s : State) (x) : (s.withPending x).pending = x := rfl
@[simp] theorem withPending_withPending (s : State) (x y) : (s.withPending x).withPending y = s.withPending y := rfl
@[simp] theorem withPending_self (s : State) : s.withPending s.pending = s := rfl

/-- Two states with the same fields are the same state. -/
theorem ext_fields {s t : State}
    (h1 : s.trunkRx = t.trunkRx) (h2 : s.trunkTx = t.trunkTx) (h3 : s.stations = t.stations) (h4 : s.stream = t.stream) (h5 : s.pool = t.pool) (h6 : s.reassembly = t.reassembly) (h7 : s.classifier = t.classifier) (h8 : s.program = t.program) (h9 : s.delivery = t.delivery) (h10 : s.uplink = t.uplink) (h11 : s.hold = t.hold) (h12 : s.management = t.management) (h13 : s.events = t.events) (h14 : s.params = t.params) (h15 : s.outputs = t.outputs) (h16 : s.freeDraws = t.freeDraws) (h17 : s.pending = t.pending) : s = t := by
  cases s; cases t; simp_all

end Sys2Proof.Machine.State
end

