-- ==== Sys2Proof/Laws/Tables.lean ====
section
/-! SUPPORT. Fixed-size tables: mapping over all places, and finding the lowest place. -/

namespace Sys2Proof.Machine

variable {α β : Type} {n : Nat}

@[simp] theorem getElem_mapTable (f : α → β) (v : Vector α n) (i : Nat) (h : i < n) :
    (mapTable f v)[i] = f v[i] := by
  simp [mapTable]

@[simp] theorem getElem_fin_mapTable (f : α → β) (v : Vector α n) (i : Fin n) : (mapTable f v)[i] = f v[i] := by
  simp [mapTable]

@[simp] theorem toList_mapTable (f : α → β) (v : Vector α n) : (mapTable f v).toList = v.toList.map f := by
  simp [mapTable, Vector.toList]

/-- A table as the list of its places in order. -/
theorem toList_eq_finRange (v : Vector α n) : v.toList = (List.finRange n).map fun i => v[i] := by
  apply List.ext_getElem <;> simp

/-- The lowest place: it satisfies the test and no lower one does. -/
theorem firstPlace_eq_some {p : α → Bool} {v : Vector α n} {i : Fin n} :
    firstPlace p v = some i ↔ p v[i] = true ∧ ∀ j : Fin n, j < i → p v[j] = false := by
  unfold firstPlace
  rw [List.find?_eq_some_iff_getElem]
  constructor
  · rintro ⟨h, k, hk, hi, hlow⟩
    simp only [List.getElem_finRange] at hi
    subst hi
    refine ⟨by simpa using h, fun j hj => ?_⟩
    have := hlow j.val (by simpa [Fin.lt_def] using hj)
    simpa using this
  · rintro ⟨h, hlow⟩
    refine ⟨by simpa using h, i.val, by simp, by simp, fun j hj => ?_⟩
    simpa using hlow ⟨j, by omega⟩ (by simpa [Fin.lt_def] using hj)

/-- No place satisfies the test. -/
theorem firstPlace_eq_none {p : α → Bool} {v : Vector α n} :
    firstPlace p v = none ↔ ∀ j : Fin n, p v[j] = false := by
  simp [firstPlace, List.find?_eq_none]

/-- The only place that satisfies the test is the lowest. -/
theorem firstPlace_unique {p : α → Bool} {v : Vector α n} {i : Fin n} (h : p v[i] = true)
    (hu : ∀ j : Fin n, p v[j] = true → j = i) : firstPlace p v = some i := by
  rw [firstPlace_eq_some]
  refine ⟨h, fun j hj => ?_⟩
  by_contra hp
  exact absurd (hu j (by simpa using hp)) (ne_of_lt hj)

theorem firstPlace_some {p : α → Bool} {v : Vector α n} {i : Fin n} (h : firstPlace p v = some i) : p v[i] = true :=
  (firstPlace_eq_some.mp h).1

theorem getElem_set_fin (v : Vector α n) (i j : Fin n) (x : α) :
    (v.set i x)[j] = if j = i then x else v[j] := by
  simp only [Fin.getElem_fin, Vector.getElem_set]
  simp only [Fin.ext_iff, eq_comm]

end Sys2Proof.Machine
end

