-- ==== Sys2Proof/Laws/Frames/Ops.lean ====
section
/-! SUPPORT. What each operation leaves unchanged, field by field: the shared operations of Machine/Ops.lean. -/

namespace Sys2Proof.Machine.State

@[simp] theorem post_frame (k : EventKind) (d : U16) (s : State) :
    (s.post k d).trunkRx = s.trunkRx ∧ (s.post k d).trunkTx = s.trunkTx ∧ (s.post k d).stations = s.stations ∧
    (s.post k d).stream = s.stream ∧ (s.post k d).pool = s.pool ∧ (s.post k d).reassembly = s.reassembly ∧
    (s.post k d).classifier = s.classifier ∧ (s.post k d).program = s.program ∧ (s.post k d).delivery = s.delivery ∧
    (s.post k d).uplink = s.uplink ∧ (s.post k d).hold = s.hold ∧ (s.post k d).management = s.management ∧
    (s.post k d).params = s.params ∧ (s.post k d).outputs = s.outputs ∧ (s.post k d).freeDraws = s.freeDraws ∧
    (s.post k d).pending = s.pending :=
  by simp [State.post]

@[simp] theorem postStation_frame (k : EventKind) (a : Addr) (s : State) :
    (s.postStation k a).trunkRx = s.trunkRx ∧ (s.postStation k a).trunkTx = s.trunkTx ∧
    (s.postStation k a).stations = s.stations ∧ (s.postStation k a).stream = s.stream ∧
    (s.postStation k a).pool = s.pool ∧ (s.postStation k a).reassembly = s.reassembly ∧
    (s.postStation k a).classifier = s.classifier ∧ (s.postStation k a).program = s.program ∧
    (s.postStation k a).delivery = s.delivery ∧ (s.postStation k a).uplink = s.uplink ∧
    (s.postStation k a).hold = s.hold ∧ (s.postStation k a).management = s.management ∧
    (s.postStation k a).params = s.params ∧ (s.postStation k a).outputs = s.outputs ∧
    (s.postStation k a).freeDraws = s.freeDraws ∧ (s.postStation k a).pending = s.pending :=
  by simp [State.postStation]

@[simp] theorem postNat_frame (k : EventKind) (n : Nat) (s : State) :
    (s.postNat k n).trunkRx = s.trunkRx ∧ (s.postNat k n).trunkTx = s.trunkTx ∧
    (s.postNat k n).stations = s.stations ∧ (s.postNat k n).stream = s.stream ∧ (s.postNat k n).pool = s.pool ∧
    (s.postNat k n).reassembly = s.reassembly ∧ (s.postNat k n).classifier = s.classifier ∧
    (s.postNat k n).program = s.program ∧ (s.postNat k n).delivery = s.delivery ∧ (s.postNat k n).uplink = s.uplink ∧
    (s.postNat k n).hold = s.hold ∧ (s.postNat k n).management = s.management ∧ (s.postNat k n).params = s.params ∧
    (s.postNat k n).outputs = s.outputs ∧ (s.postNat k n).freeDraws = s.freeDraws ∧
    (s.postNat k n).pending = s.pending :=
  by simp [State.postNat]

@[simp] theorem transmit_frame (c : TxCell) (s : State) :
    (s.transmit c).trunkRx = s.trunkRx ∧ (s.transmit c).stations = s.stations ∧ (s.transmit c).stream = s.stream ∧
    (s.transmit c).pool = s.pool ∧ (s.transmit c).reassembly = s.reassembly ∧
    (s.transmit c).classifier = s.classifier ∧ (s.transmit c).program = s.program ∧
    (s.transmit c).delivery = s.delivery ∧ (s.transmit c).uplink = s.uplink ∧ (s.transmit c).hold = s.hold ∧
    (s.transmit c).management = s.management ∧ (s.transmit c).events = s.events ∧ (s.transmit c).params = s.params ∧
    (s.transmit c).outputs = s.outputs ∧ (s.transmit c).freeDraws = s.freeDraws ∧
    (s.transmit c).pending = s.pending :=
  by unfold State.transmit; split <;> (try split) <;> simp

@[simp] theorem requestHold_frame (d : U16) (s : State) :
    (s.requestHold d).trunkRx = s.trunkRx ∧ (s.requestHold d).stations = s.stations ∧
    (s.requestHold d).stream = s.stream ∧ (s.requestHold d).pool = s.pool ∧
    (s.requestHold d).reassembly = s.reassembly ∧ (s.requestHold d).classifier = s.classifier ∧
    (s.requestHold d).program = s.program ∧ (s.requestHold d).delivery = s.delivery ∧
    (s.requestHold d).uplink = s.uplink ∧ (s.requestHold d).hold = s.hold ∧
    (s.requestHold d).management = s.management ∧ (s.requestHold d).events = s.events ∧
    (s.requestHold d).params = s.params ∧ (s.requestHold d).outputs = s.outputs ∧
    (s.requestHold d).freeDraws = s.freeDraws ∧ (s.requestHold d).pending = s.pending :=
  by simp [State.requestHold]

@[simp] theorem requestRelease_frame (s : State) :
    s.requestRelease.trunkRx = s.trunkRx ∧ s.requestRelease.stations = s.stations ∧
    s.requestRelease.stream = s.stream ∧ s.requestRelease.pool = s.pool ∧ s.requestRelease.reassembly = s.reassembly ∧
    s.requestRelease.classifier = s.classifier ∧ s.requestRelease.program = s.program ∧
    s.requestRelease.delivery = s.delivery ∧ s.requestRelease.uplink = s.uplink ∧ s.requestRelease.hold = s.hold ∧
    s.requestRelease.management = s.management ∧ s.requestRelease.events = s.events ∧
    s.requestRelease.params = s.params ∧ s.requestRelease.outputs = s.outputs ∧
    s.requestRelease.freeDraws = s.freeDraws ∧ s.requestRelease.pending = s.pending :=
  by simp [State.requestRelease]

@[simp] theorem beginHold_frame (s : State) :
    s.beginHold.trunkRx = s.trunkRx ∧ s.beginHold.stations = s.stations ∧ s.beginHold.stream = s.stream ∧
    s.beginHold.pool = s.pool ∧ s.beginHold.reassembly = s.reassembly ∧ s.beginHold.classifier = s.classifier ∧
    s.beginHold.program = s.program ∧ s.beginHold.delivery = s.delivery ∧ s.beginHold.uplink = s.uplink ∧
    s.beginHold.management = s.management ∧ s.beginHold.params = s.params ∧ s.beginHold.outputs = s.outputs ∧
    s.beginHold.freeDraws = s.freeDraws ∧ s.beginHold.pending = s.pending :=
  by simp [State.beginHold]

@[simp] theorem endHold_frame (s : State) :
    s.endHold.trunkRx = s.trunkRx ∧ s.endHold.stations = s.stations ∧ s.endHold.stream = s.stream ∧
    s.endHold.pool = s.pool ∧ s.endHold.reassembly = s.reassembly ∧ s.endHold.classifier = s.classifier ∧
    s.endHold.program = s.program ∧ s.endHold.delivery = s.delivery ∧ s.endHold.uplink = s.uplink ∧
    s.endHold.management = s.management ∧ s.endHold.params = s.params ∧ s.endHold.outputs = s.outputs ∧
    s.endHold.freeDraws = s.freeDraws ∧ s.endHold.pending = s.pending :=
  by simp [State.endHold]

@[simp] theorem evaluateHold_frame (s : State) :
    s.evaluateHold.trunkRx = s.trunkRx ∧ s.evaluateHold.stations = s.stations ∧ s.evaluateHold.stream = s.stream ∧
    s.evaluateHold.pool = s.pool ∧ s.evaluateHold.reassembly = s.reassembly ∧
    s.evaluateHold.classifier = s.classifier ∧ s.evaluateHold.program = s.program ∧
    s.evaluateHold.delivery = s.delivery ∧ s.evaluateHold.uplink = s.uplink ∧
    s.evaluateHold.management = s.management ∧ s.evaluateHold.params = s.params ∧ s.evaluateHold.outputs = s.outputs ∧
    s.evaluateHold.freeDraws = s.freeDraws ∧ s.evaluateHold.pending = s.pending :=
  by unfold State.evaluateHold; split <;> (try split) <;> simp

@[simp] theorem handFreeCount_frame (s : State) :
    s.handFreeCount.trunkRx = s.trunkRx ∧ s.handFreeCount.stations = s.stations ∧ s.handFreeCount.stream = s.stream ∧
    s.handFreeCount.pool = s.pool ∧ s.handFreeCount.reassembly = s.reassembly ∧
    s.handFreeCount.classifier = s.classifier ∧ s.handFreeCount.program = s.program ∧
    s.handFreeCount.delivery = s.delivery ∧ s.handFreeCount.uplink = s.uplink ∧
    s.handFreeCount.management = s.management ∧ s.handFreeCount.params = s.params ∧
    s.handFreeCount.outputs = s.outputs ∧ s.handFreeCount.freeDraws = s.freeDraws ∧
    s.handFreeCount.pending = s.pending :=
  by simp [State.handFreeCount]

@[simp] theorem releaseChain_frame (c : Chain) (s : State) :
    (s.releaseChain c).trunkRx = s.trunkRx ∧ (s.releaseChain c).stations = s.stations ∧
    (s.releaseChain c).stream = s.stream ∧ (s.releaseChain c).reassembly = s.reassembly ∧
    (s.releaseChain c).classifier = s.classifier ∧ (s.releaseChain c).program = s.program ∧
    (s.releaseChain c).delivery = s.delivery ∧ (s.releaseChain c).uplink = s.uplink ∧
    (s.releaseChain c).management = s.management ∧ (s.releaseChain c).params = s.params ∧
    (s.releaseChain c).outputs = s.outputs ∧ (s.releaseChain c).freeDraws = s.freeDraws ∧
    (s.releaseChain c).pending = s.pending :=
  by simp [State.releaseChain]

@[simp] theorem adoptChain_frame (c : Chain) (n : Nat) (s : State) :
    (s.adoptChain c n).trunkRx = s.trunkRx ∧ (s.adoptChain c n).trunkTx = s.trunkTx ∧
    (s.adoptChain c n).stations = s.stations ∧ (s.adoptChain c n).stream = s.stream ∧
    (s.adoptChain c n).reassembly = s.reassembly ∧ (s.adoptChain c n).classifier = s.classifier ∧
    (s.adoptChain c n).program = s.program ∧ (s.adoptChain c n).delivery = s.delivery ∧
    (s.adoptChain c n).uplink = s.uplink ∧ (s.adoptChain c n).hold = s.hold ∧
    (s.adoptChain c n).management = s.management ∧ (s.adoptChain c n).events = s.events ∧
    (s.adoptChain c n).params = s.params ∧ (s.adoptChain c n).outputs = s.outputs ∧
    (s.adoptChain c n).freeDraws = s.freeDraws ∧ (s.adoptChain c n).pending = s.pending :=
  by simp [State.adoptChain]

@[simp] theorem dropReference_frame (h : Nat) (s : State) :
    (s.dropReference h).trunkRx = s.trunkRx ∧ (s.dropReference h).stations = s.stations ∧
    (s.dropReference h).stream = s.stream ∧ (s.dropReference h).reassembly = s.reassembly ∧
    (s.dropReference h).classifier = s.classifier ∧ (s.dropReference h).program = s.program ∧
    (s.dropReference h).delivery = s.delivery ∧ (s.dropReference h).uplink = s.uplink ∧
    (s.dropReference h).management = s.management ∧ (s.dropReference h).params = s.params ∧
    (s.dropReference h).outputs = s.outputs ∧ (s.dropReference h).freeDraws = s.freeDraws ∧
    (s.dropReference h).pending = s.pending :=
  by simp only [State.dropReference]; split <;> simp

@[simp] theorem setEntry_frame (i : Fin 64) (e : Option StationEntry) (s : State) :
    (s.setEntry i e).trunkRx = s.trunkRx ∧ (s.setEntry i e).trunkTx = s.trunkTx ∧ (s.setEntry i e).stream = s.stream ∧
    (s.setEntry i e).pool = s.pool ∧ (s.setEntry i e).reassembly = s.reassembly ∧
    (s.setEntry i e).classifier = s.classifier ∧ (s.setEntry i e).program = s.program ∧
    (s.setEntry i e).delivery = s.delivery ∧ (s.setEntry i e).uplink = s.uplink ∧ (s.setEntry i e).hold = s.hold ∧
    (s.setEntry i e).management = s.management ∧ (s.setEntry i e).events = s.events ∧
    (s.setEntry i e).params = s.params ∧ (s.setEntry i e).outputs = s.outputs ∧
    (s.setEntry i e).freeDraws = s.freeDraws ∧ (s.setEntry i e).pending = s.pending :=
  by simp [State.setEntry]

@[simp] theorem reportStation_frame (a : Addr) (f : StationEntry → StationEntry) (s : State) :
    (s.reportStation a f).trunkRx = s.trunkRx ∧ (s.reportStation a f).trunkTx = s.trunkTx ∧
    (s.reportStation a f).stream = s.stream ∧ (s.reportStation a f).pool = s.pool ∧
    (s.reportStation a f).reassembly = s.reassembly ∧ (s.reportStation a f).classifier = s.classifier ∧
    (s.reportStation a f).program = s.program ∧ (s.reportStation a f).delivery = s.delivery ∧
    (s.reportStation a f).uplink = s.uplink ∧ (s.reportStation a f).hold = s.hold ∧
    (s.reportStation a f).management = s.management ∧ (s.reportStation a f).events = s.events ∧
    (s.reportStation a f).params = s.params ∧ (s.reportStation a f).outputs = s.outputs ∧
    (s.reportStation a f).freeDraws = s.freeDraws ∧ (s.reportStation a f).pending = s.pending :=
  by unfold State.reportStation; split <;> simp

@[simp] theorem countOpen_frame (a : Addr) (s : State) :
    (s.countOpen a).trunkRx = s.trunkRx ∧ (s.countOpen a).trunkTx = s.trunkTx ∧ (s.countOpen a).stream = s.stream ∧
    (s.countOpen a).pool = s.pool ∧ (s.countOpen a).reassembly = s.reassembly ∧
    (s.countOpen a).classifier = s.classifier ∧ (s.countOpen a).program = s.program ∧
    (s.countOpen a).delivery = s.delivery ∧ (s.countOpen a).uplink = s.uplink ∧ (s.countOpen a).hold = s.hold ∧
    (s.countOpen a).management = s.management ∧ (s.countOpen a).events = s.events ∧
    (s.countOpen a).params = s.params ∧ (s.countOpen a).outputs = s.outputs ∧
    (s.countOpen a).freeDraws = s.freeDraws ∧ (s.countOpen a).pending = s.pending :=
  by simp [State.countOpen]

@[simp] theorem countClosed_frame (a : Addr) (s : State) :
    (s.countClosed a).trunkRx = s.trunkRx ∧ (s.countClosed a).trunkTx = s.trunkTx ∧
    (s.countClosed a).stream = s.stream ∧ (s.countClosed a).pool = s.pool ∧
    (s.countClosed a).reassembly = s.reassembly ∧ (s.countClosed a).classifier = s.classifier ∧
    (s.countClosed a).program = s.program ∧ (s.countClosed a).delivery = s.delivery ∧
    (s.countClosed a).uplink = s.uplink ∧ (s.countClosed a).hold = s.hold ∧
    (s.countClosed a).management = s.management ∧ (s.countClosed a).events = s.events ∧
    (s.countClosed a).params = s.params ∧ (s.countClosed a).outputs = s.outputs ∧
    (s.countClosed a).freeDraws = s.freeDraws ∧ (s.countClosed a).pending = s.pending :=
  by simp [State.countClosed]

@[simp] theorem countCompleted_frame (a : Addr) (s : State) :
    (s.countCompleted a).trunkRx = s.trunkRx ∧ (s.countCompleted a).trunkTx = s.trunkTx ∧
    (s.countCompleted a).stream = s.stream ∧ (s.countCompleted a).pool = s.pool ∧
    (s.countCompleted a).reassembly = s.reassembly ∧ (s.countCompleted a).classifier = s.classifier ∧
    (s.countCompleted a).program = s.program ∧ (s.countCompleted a).delivery = s.delivery ∧
    (s.countCompleted a).uplink = s.uplink ∧ (s.countCompleted a).hold = s.hold ∧
    (s.countCompleted a).management = s.management ∧ (s.countCompleted a).events = s.events ∧
    (s.countCompleted a).params = s.params ∧ (s.countCompleted a).outputs = s.outputs ∧
    (s.countCompleted a).freeDraws = s.freeDraws ∧ (s.countCompleted a).pending = s.pending :=
  by simp [State.countCompleted]

@[simp] theorem countError_frame (a : Addr) (s : State) :
    (s.countError a).trunkRx = s.trunkRx ∧ (s.countError a).trunkTx = s.trunkTx ∧ (s.countError a).stream = s.stream ∧
    (s.countError a).pool = s.pool ∧ (s.countError a).reassembly = s.reassembly ∧
    (s.countError a).classifier = s.classifier ∧ (s.countError a).program = s.program ∧
    (s.countError a).delivery = s.delivery ∧ (s.countError a).uplink = s.uplink ∧ (s.countError a).hold = s.hold ∧
    (s.countError a).management = s.management ∧ (s.countError a).events = s.events ∧
    (s.countError a).params = s.params ∧ (s.countError a).outputs = s.outputs ∧
    (s.countError a).freeDraws = s.freeDraws ∧ (s.countError a).pending = s.pending :=
  by simp [State.countError]

@[simp] theorem setContext_frame (i : Fin 48) (c : Context) (s : State) :
    (s.setContext i c).trunkRx = s.trunkRx ∧ (s.setContext i c).trunkTx = s.trunkTx ∧
    (s.setContext i c).stations = s.stations ∧ (s.setContext i c).stream = s.stream ∧
    (s.setContext i c).pool = s.pool ∧ (s.setContext i c).classifier = s.classifier ∧
    (s.setContext i c).program = s.program ∧ (s.setContext i c).delivery = s.delivery ∧
    (s.setContext i c).uplink = s.uplink ∧ (s.setContext i c).hold = s.hold ∧
    (s.setContext i c).management = s.management ∧ (s.setContext i c).events = s.events ∧
    (s.setContext i c).params = s.params ∧ (s.setContext i c).outputs = s.outputs ∧
    (s.setContext i c).freeDraws = s.freeDraws ∧ (s.setContext i c).pending = s.pending :=
  by simp [State.setContext]

@[simp] theorem setBody_frame (i : Fin 48) (b : ContextState) (s : State) :
    (s.setBody i b).trunkRx = s.trunkRx ∧ (s.setBody i b).trunkTx = s.trunkTx ∧
    (s.setBody i b).stations = s.stations ∧ (s.setBody i b).stream = s.stream ∧ (s.setBody i b).pool = s.pool ∧
    (s.setBody i b).classifier = s.classifier ∧ (s.setBody i b).program = s.program ∧
    (s.setBody i b).delivery = s.delivery ∧ (s.setBody i b).uplink = s.uplink ∧ (s.setBody i b).hold = s.hold ∧
    (s.setBody i b).management = s.management ∧ (s.setBody i b).events = s.events ∧
    (s.setBody i b).params = s.params ∧ (s.setBody i b).outputs = s.outputs ∧
    (s.setBody i b).freeDraws = s.freeDraws ∧ (s.setBody i b).pending = s.pending :=
  by simp [State.setBody]

@[simp] theorem countReassembly_frame (f : ReassemblyCounters → ReassemblyCounters) (s : State) :
    (s.countReassembly f).trunkRx = s.trunkRx ∧ (s.countReassembly f).trunkTx = s.trunkTx ∧
    (s.countReassembly f).stations = s.stations ∧ (s.countReassembly f).stream = s.stream ∧
    (s.countReassembly f).pool = s.pool ∧ (s.countReassembly f).classifier = s.classifier ∧
    (s.countReassembly f).program = s.program ∧ (s.countReassembly f).delivery = s.delivery ∧
    (s.countReassembly f).uplink = s.uplink ∧ (s.countReassembly f).hold = s.hold ∧
    (s.countReassembly f).management = s.management ∧ (s.countReassembly f).events = s.events ∧
    (s.countReassembly f).params = s.params ∧ (s.countReassembly f).outputs = s.outputs ∧
    (s.countReassembly f).freeDraws = s.freeDraws ∧ (s.countReassembly f).pending = s.pending :=
  by simp [State.countReassembly]

@[simp] theorem accountAbort_frame (r : AbortReason) (a : Addr) (s : State) :
    (s.accountAbort r a).trunkRx = s.trunkRx ∧ (s.accountAbort r a).trunkTx = s.trunkTx ∧
    (s.accountAbort r a).stream = s.stream ∧ (s.accountAbort r a).pool = s.pool ∧
    (s.accountAbort r a).classifier = s.classifier ∧ (s.accountAbort r a).program = s.program ∧
    (s.accountAbort r a).delivery = s.delivery ∧ (s.accountAbort r a).uplink = s.uplink ∧
    (s.accountAbort r a).hold = s.hold ∧ (s.accountAbort r a).management = s.management ∧
    (s.accountAbort r a).params = s.params ∧ (s.accountAbort r a).outputs = s.outputs ∧
    (s.accountAbort r a).freeDraws = s.freeDraws ∧ (s.accountAbort r a).pending = s.pending :=
  by cases r <;> simp [State.accountAbort, AbortReason.isError, AbortReason.event]

@[simp] theorem abortToFree_frame (i : Fin 48) (m : Message) (r : AbortReason) (s : State) :
    (s.abortToFree i m r).trunkRx = s.trunkRx ∧ (s.abortToFree i m r).stream = s.stream ∧
    (s.abortToFree i m r).classifier = s.classifier ∧ (s.abortToFree i m r).program = s.program ∧
    (s.abortToFree i m r).delivery = s.delivery ∧ (s.abortToFree i m r).uplink = s.uplink ∧
    (s.abortToFree i m r).management = s.management ∧ (s.abortToFree i m r).params = s.params ∧
    (s.abortToFree i m r).outputs = s.outputs ∧ (s.abortToFree i m r).freeDraws = s.freeDraws ∧
    (s.abortToFree i m r).pending = s.pending :=
  by simp [State.abortToFree]

@[simp] theorem abortToDiscarding_frame (i : Fin 48) (m : Message) (r : AbortReason) (s : State) :
    (s.abortToDiscarding i m r).trunkRx = s.trunkRx ∧ (s.abortToDiscarding i m r).stream = s.stream ∧
    (s.abortToDiscarding i m r).classifier = s.classifier ∧ (s.abortToDiscarding i m r).program = s.program ∧
    (s.abortToDiscarding i m r).delivery = s.delivery ∧ (s.abortToDiscarding i m r).uplink = s.uplink ∧
    (s.abortToDiscarding i m r).management = s.management ∧ (s.abortToDiscarding i m r).params = s.params ∧
    (s.abortToDiscarding i m r).outputs = s.outputs ∧ (s.abortToDiscarding i m r).freeDraws = s.freeDraws ∧
    (s.abortToDiscarding i m r).pending = s.pending :=
  by simp [State.abortToDiscarding]

@[simp] theorem endDiscarding_frame (i : Fin 48) (a : Addr) (r : AbortReason) (s : State) :
    (s.endDiscarding i a r).trunkRx = s.trunkRx ∧ (s.endDiscarding i a r).trunkTx = s.trunkTx ∧
    (s.endDiscarding i a r).stream = s.stream ∧ (s.endDiscarding i a r).pool = s.pool ∧
    (s.endDiscarding i a r).classifier = s.classifier ∧ (s.endDiscarding i a r).program = s.program ∧
    (s.endDiscarding i a r).delivery = s.delivery ∧ (s.endDiscarding i a r).uplink = s.uplink ∧
    (s.endDiscarding i a r).hold = s.hold ∧ (s.endDiscarding i a r).management = s.management ∧
    (s.endDiscarding i a r).events = s.events ∧ (s.endDiscarding i a r).params = s.params ∧
    (s.endDiscarding i a r).outputs = s.outputs ∧ (s.endDiscarding i a r).freeDraws = s.freeDraws ∧
    (s.endDiscarding i a r).pending = s.pending :=
  by simp [State.endDiscarding]

@[simp] theorem endContext_frame (r : AbortReason) (i : Fin 48) (s : State) :
    (s.endContext r i).trunkRx = s.trunkRx ∧ (s.endContext r i).stream = s.stream ∧
    (s.endContext r i).classifier = s.classifier ∧ (s.endContext r i).program = s.program ∧
    (s.endContext r i).delivery = s.delivery ∧ (s.endContext r i).uplink = s.uplink ∧
    (s.endContext r i).management = s.management ∧ (s.endContext r i).params = s.params ∧
    (s.endContext r i).outputs = s.outputs ∧ (s.endContext r i).freeDraws = s.freeDraws ∧
    (s.endContext r i).pending = s.pending :=
  by unfold State.endContext; split <;> simp

@[simp] theorem endContexts_frame (r : AbortReason) (is : List (Fin 48)) (s : State) :
    (s.endContexts r is).trunkRx = s.trunkRx ∧ (s.endContexts r is).stream = s.stream ∧
    (s.endContexts r is).classifier = s.classifier ∧ (s.endContexts r is).program = s.program ∧
    (s.endContexts r is).delivery = s.delivery ∧ (s.endContexts r is).uplink = s.uplink ∧
    (s.endContexts r is).management = s.management ∧ (s.endContexts r is).params = s.params ∧
    (s.endContexts r is).outputs = s.outputs ∧ (s.endContexts r is).freeDraws = s.freeDraws ∧
    (s.endContexts r is).pending = s.pending := by
  induction is generalizing s with
  | nil => simp [State.endContexts]
  | cons i is ih => simpa [State.endContexts] using ih (s.endContext r i)

@[simp] theorem setQueue_frame (q : Fin 8) (x : Queue) (s : State) :
    (s.setQueue q x).trunkRx = s.trunkRx ∧ (s.setQueue q x).trunkTx = s.trunkTx ∧
    (s.setQueue q x).stations = s.stations ∧ (s.setQueue q x).stream = s.stream ∧ (s.setQueue q x).pool = s.pool ∧
    (s.setQueue q x).reassembly = s.reassembly ∧ (s.setQueue q x).classifier = s.classifier ∧
    (s.setQueue q x).program = s.program ∧ (s.setQueue q x).uplink = s.uplink ∧ (s.setQueue q x).hold = s.hold ∧
    (s.setQueue q x).management = s.management ∧ (s.setQueue q x).events = s.events ∧
    (s.setQueue q x).params = s.params ∧ (s.setQueue q x).outputs = s.outputs ∧
    (s.setQueue q x).freeDraws = s.freeDraws ∧ (s.setQueue q x).pending = s.pending :=
  by simp [State.setQueue]

@[simp] theorem keepRecords_frame (q : Fin 8) (k m : List Record) (s : State) :
    (s.keepRecords q k m).trunkRx = s.trunkRx ∧ (s.keepRecords q k m).trunkTx = s.trunkTx ∧
    (s.keepRecords q k m).stations = s.stations ∧ (s.keepRecords q k m).stream = s.stream ∧
    (s.keepRecords q k m).pool = s.pool ∧ (s.keepRecords q k m).reassembly = s.reassembly ∧
    (s.keepRecords q k m).classifier = s.classifier ∧ (s.keepRecords q k m).program = s.program ∧
    (s.keepRecords q k m).uplink = s.uplink ∧ (s.keepRecords q k m).hold = s.hold ∧
    (s.keepRecords q k m).management = s.management ∧ (s.keepRecords q k m).events = s.events ∧
    (s.keepRecords q k m).params = s.params ∧ (s.keepRecords q k m).outputs = s.outputs ∧
    (s.keepRecords q k m).freeDraws = s.freeDraws ∧ (s.keepRecords q k m).pending = s.pending :=
  by simp [State.keepRecords]

@[simp] theorem dropReferences_frame (m : List Record) (s : State) :
    (s.dropReferences m).trunkRx = s.trunkRx ∧ (s.dropReferences m).stations = s.stations ∧
    (s.dropReferences m).stream = s.stream ∧ (s.dropReferences m).reassembly = s.reassembly ∧
    (s.dropReferences m).classifier = s.classifier ∧ (s.dropReferences m).program = s.program ∧
    (s.dropReferences m).delivery = s.delivery ∧ (s.dropReferences m).uplink = s.uplink ∧
    (s.dropReferences m).management = s.management ∧ (s.dropReferences m).params = s.params ∧
    (s.dropReferences m).outputs = s.outputs ∧ (s.dropReferences m).freeDraws = s.freeDraws ∧
    (s.dropReferences m).pending = s.pending := by
  induction m generalizing s with
  | nil => simp [State.dropReferences]
  | cons r m ih => simpa [State.dropReferences] using ih (s.dropReference r.chain)

@[simp] theorem setLane_frame (l : Lane) (s : State) :
    (s.setLane l).trunkRx = s.trunkRx ∧ (s.setLane l).trunkTx = s.trunkTx ∧ (s.setLane l).stations = s.stations ∧
    (s.setLane l).stream = s.stream ∧ (s.setLane l).pool = s.pool ∧ (s.setLane l).reassembly = s.reassembly ∧
    (s.setLane l).classifier = s.classifier ∧ (s.setLane l).program = s.program ∧
    (s.setLane l).delivery = s.delivery ∧ (s.setLane l).hold = s.hold ∧ (s.setLane l).management = s.management ∧
    (s.setLane l).events = s.events ∧ (s.setLane l).params = s.params ∧ (s.setLane l).outputs = s.outputs ∧
    (s.setLane l).freeDraws = s.freeDraws ∧ (s.setLane l).pending = s.pending :=
  by simp [State.setLane]

@[simp] theorem finishFrame_frame (b : List Byte) (s : State) :
    (s.finishFrame b).trunkRx = s.trunkRx ∧ (s.finishFrame b).trunkTx = s.trunkTx ∧
    (s.finishFrame b).stations = s.stations ∧ (s.finishFrame b).stream = s.stream ∧ (s.finishFrame b).pool = s.pool ∧
    (s.finishFrame b).reassembly = s.reassembly ∧ (s.finishFrame b).classifier = s.classifier ∧
    (s.finishFrame b).program = s.program ∧ (s.finishFrame b).delivery = s.delivery ∧
    (s.finishFrame b).hold = s.hold ∧ (s.finishFrame b).management = s.management ∧
    (s.finishFrame b).events = s.events ∧ (s.finishFrame b).params = s.params ∧
    (s.finishFrame b).freeDraws = s.freeDraws ∧ (s.finishFrame b).pending = s.pending :=
  by simp [State.finishFrame]

@[simp] theorem frameError_frame (d : U16) (s : State) :
    (s.frameError d).trunkRx = s.trunkRx ∧ (s.frameError d).trunkTx = s.trunkTx ∧
    (s.frameError d).stations = s.stations ∧ (s.frameError d).stream = s.stream ∧ (s.frameError d).pool = s.pool ∧
    (s.frameError d).reassembly = s.reassembly ∧ (s.frameError d).classifier = s.classifier ∧
    (s.frameError d).program = s.program ∧ (s.frameError d).delivery = s.delivery ∧ (s.frameError d).hold = s.hold ∧
    (s.frameError d).management = s.management ∧ (s.frameError d).params = s.params ∧
    (s.frameError d).outputs = s.outputs ∧ (s.frameError d).freeDraws = s.freeDraws ∧
    (s.frameError d).pending = s.pending :=
  by simp [State.frameError]

@[simp] theorem setSession_frame (t : Fin 4) (x : Session) (s : State) :
    (s.setSession t x).trunkRx = s.trunkRx ∧ (s.setSession t x).trunkTx = s.trunkTx ∧
    (s.setSession t x).stations = s.stations ∧ (s.setSession t x).stream = s.stream ∧
    (s.setSession t x).pool = s.pool ∧ (s.setSession t x).reassembly = s.reassembly ∧
    (s.setSession t x).classifier = s.classifier ∧ (s.setSession t x).program = s.program ∧
    (s.setSession t x).delivery = s.delivery ∧ (s.setSession t x).uplink = s.uplink ∧
    (s.setSession t x).hold = s.hold ∧ (s.setSession t x).events = s.events ∧ (s.setSession t x).params = s.params ∧
    (s.setSession t x).outputs = s.outputs ∧ (s.setSession t x).freeDraws = s.freeDraws ∧
    (s.setSession t x).pending = s.pending :=
  by simp [State.setSession]

@[simp] theorem queueResponse_frame (r : Response) (s : State) :
    (s.queueResponse r).trunkRx = s.trunkRx ∧ (s.queueResponse r).trunkTx = s.trunkTx ∧
    (s.queueResponse r).stations = s.stations ∧ (s.queueResponse r).stream = s.stream ∧
    (s.queueResponse r).pool = s.pool ∧ (s.queueResponse r).reassembly = s.reassembly ∧
    (s.queueResponse r).classifier = s.classifier ∧ (s.queueResponse r).program = s.program ∧
    (s.queueResponse r).delivery = s.delivery ∧ (s.queueResponse r).uplink = s.uplink ∧
    (s.queueResponse r).hold = s.hold ∧ (s.queueResponse r).events = s.events ∧
    (s.queueResponse r).params = s.params ∧ (s.queueResponse r).outputs = s.outputs ∧
    (s.queueResponse r).freeDraws = s.freeDraws ∧ (s.queueResponse r).pending = s.pending :=
  by simp [State.queueResponse]

@[simp] theorem popRequest_frame (s : State) :
    s.popRequest.trunkRx = s.trunkRx ∧ s.popRequest.trunkTx = s.trunkTx ∧ s.popRequest.stations = s.stations ∧
    s.popRequest.stream = s.stream ∧ s.popRequest.pool = s.pool ∧ s.popRequest.reassembly = s.reassembly ∧
    s.popRequest.classifier = s.classifier ∧ s.popRequest.program = s.program ∧ s.popRequest.delivery = s.delivery ∧
    s.popRequest.uplink = s.uplink ∧ s.popRequest.hold = s.hold ∧ s.popRequest.events = s.events ∧
    s.popRequest.params = s.params ∧ s.popRequest.outputs = s.outputs ∧ s.popRequest.freeDraws = s.freeDraws ∧
    s.popRequest.pending = s.pending :=
  by simp [State.popRequest]

@[simp] theorem acceptRequest_frame (t : Fin 4) (r : Request) (s : State) :
    (s.acceptRequest t r).trunkRx = s.trunkRx ∧ (s.acceptRequest t r).trunkTx = s.trunkTx ∧
    (s.acceptRequest t r).stations = s.stations ∧ (s.acceptRequest t r).stream = s.stream ∧
    (s.acceptRequest t r).pool = s.pool ∧ (s.acceptRequest t r).reassembly = s.reassembly ∧
    (s.acceptRequest t r).classifier = s.classifier ∧ (s.acceptRequest t r).program = s.program ∧
    (s.acceptRequest t r).delivery = s.delivery ∧ (s.acceptRequest t r).uplink = s.uplink ∧
    (s.acceptRequest t r).hold = s.hold ∧ (s.acceptRequest t r).events = s.events ∧
    (s.acceptRequest t r).params = s.params ∧ (s.acceptRequest t r).outputs = s.outputs ∧
    (s.acceptRequest t r).freeDraws = s.freeDraws ∧ (s.acceptRequest t r).pending = s.pending :=
  by simp [State.acceptRequest]

@[simp] theorem cacheResponse_frame (t : Fin 4) (q : U16) (c : CachedResponse) (s : State) :
    (s.cacheResponse t q c).trunkRx = s.trunkRx ∧ (s.cacheResponse t q c).trunkTx = s.trunkTx ∧
    (s.cacheResponse t q c).stations = s.stations ∧ (s.cacheResponse t q c).stream = s.stream ∧
    (s.cacheResponse t q c).pool = s.pool ∧ (s.cacheResponse t q c).reassembly = s.reassembly ∧
    (s.cacheResponse t q c).classifier = s.classifier ∧ (s.cacheResponse t q c).program = s.program ∧
    (s.cacheResponse t q c).delivery = s.delivery ∧ (s.cacheResponse t q c).uplink = s.uplink ∧
    (s.cacheResponse t q c).hold = s.hold ∧ (s.cacheResponse t q c).events = s.events ∧
    (s.cacheResponse t q c).params = s.params ∧ (s.cacheResponse t q c).outputs = s.outputs ∧
    (s.cacheResponse t q c).freeDraws = s.freeDraws ∧ (s.cacheResponse t q c).pending = s.pending :=
  by unfold State.cacheResponse; split <;> simp

@[simp] theorem respond_frame (t : Fin 4) (q : U16) (k : Byte) (st : Status) (d : List Byte) (s : State) :
    (s.respond t q k st d).trunkRx = s.trunkRx ∧ (s.respond t q k st d).trunkTx = s.trunkTx ∧
    (s.respond t q k st d).stations = s.stations ∧ (s.respond t q k st d).stream = s.stream ∧
    (s.respond t q k st d).pool = s.pool ∧ (s.respond t q k st d).reassembly = s.reassembly ∧
    (s.respond t q k st d).classifier = s.classifier ∧ (s.respond t q k st d).program = s.program ∧
    (s.respond t q k st d).delivery = s.delivery ∧ (s.respond t q k st d).uplink = s.uplink ∧
    (s.respond t q k st d).hold = s.hold ∧ (s.respond t q k st d).events = s.events ∧
    (s.respond t q k st d).params = s.params ∧ (s.respond t q k st d).outputs = s.outputs ∧
    (s.respond t q k st d).freeDraws = s.freeDraws ∧ (s.respond t q k st d).pending = s.pending :=
  by simp [State.respond]

@[simp] theorem awaitSwap_frame (t : Fin 4) (s : State) :
    (s.awaitSwap t).trunkRx = s.trunkRx ∧ (s.awaitSwap t).trunkTx = s.trunkTx ∧
    (s.awaitSwap t).stations = s.stations ∧ (s.awaitSwap t).stream = s.stream ∧ (s.awaitSwap t).pool = s.pool ∧
    (s.awaitSwap t).reassembly = s.reassembly ∧ (s.awaitSwap t).classifier = s.classifier ∧
    (s.awaitSwap t).program = s.program ∧ (s.awaitSwap t).delivery = s.delivery ∧ (s.awaitSwap t).uplink = s.uplink ∧
    (s.awaitSwap t).hold = s.hold ∧ (s.awaitSwap t).events = s.events ∧ (s.awaitSwap t).params = s.params ∧
    (s.awaitSwap t).outputs = s.outputs ∧ (s.awaitSwap t).freeDraws = s.freeDraws ∧
    (s.awaitSwap t).pending = s.pending :=
  by simp [State.awaitSwap]

@[simp] theorem cacheDeferred_frame (t : Fin 4) (q : U16) (c : CachedResponse) (s : State) :
    (s.cacheDeferred t q c).trunkRx = s.trunkRx ∧ (s.cacheDeferred t q c).trunkTx = s.trunkTx ∧
    (s.cacheDeferred t q c).stations = s.stations ∧ (s.cacheDeferred t q c).stream = s.stream ∧
    (s.cacheDeferred t q c).pool = s.pool ∧ (s.cacheDeferred t q c).reassembly = s.reassembly ∧
    (s.cacheDeferred t q c).classifier = s.classifier ∧ (s.cacheDeferred t q c).program = s.program ∧
    (s.cacheDeferred t q c).delivery = s.delivery ∧ (s.cacheDeferred t q c).uplink = s.uplink ∧
    (s.cacheDeferred t q c).hold = s.hold ∧ (s.cacheDeferred t q c).events = s.events ∧
    (s.cacheDeferred t q c).params = s.params ∧ (s.cacheDeferred t q c).outputs = s.outputs ∧
    (s.cacheDeferred t q c).freeDraws = s.freeDraws ∧ (s.cacheDeferred t q c).pending = s.pending :=
  by unfold State.cacheDeferred; split <;> simp

@[simp] theorem respondDeferred_frame (t : Fin 4) (q : U16) (d : List Byte) (s : State) :
    (s.respondDeferred t q d).trunkRx = s.trunkRx ∧ (s.respondDeferred t q d).trunkTx = s.trunkTx ∧
    (s.respondDeferred t q d).stations = s.stations ∧ (s.respondDeferred t q d).stream = s.stream ∧
    (s.respondDeferred t q d).pool = s.pool ∧ (s.respondDeferred t q d).reassembly = s.reassembly ∧
    (s.respondDeferred t q d).classifier = s.classifier ∧ (s.respondDeferred t q d).program = s.program ∧
    (s.respondDeferred t q d).delivery = s.delivery ∧ (s.respondDeferred t q d).uplink = s.uplink ∧
    (s.respondDeferred t q d).hold = s.hold ∧ (s.respondDeferred t q d).events = s.events ∧
    (s.respondDeferred t q d).params = s.params ∧ (s.respondDeferred t q d).outputs = s.outputs ∧
    (s.respondDeferred t q d).freeDraws = s.freeDraws ∧ (s.respondDeferred t q d).pending = s.pending :=
  by simp [State.respondDeferred]

end Sys2Proof.Machine.State
end

