-- ==== Sys2Proof/Laws/Frames/Parts.lean ====
section
/-! SUPPORT. What each operation leaves unchanged, field by field: the operations that belong to one family of commands. -/

namespace Sys2Proof.Machine.State

@[simp] theorem changeRx_frame (f : TrunkReceiver → TrunkReceiver) (s : State) :
    (s.changeRx f).trunkTx = s.trunkTx ∧ (s.changeRx f).stations = s.stations ∧ (s.changeRx f).stream = s.stream ∧
    (s.changeRx f).pool = s.pool ∧ (s.changeRx f).reassembly = s.reassembly ∧
    (s.changeRx f).classifier = s.classifier ∧ (s.changeRx f).program = s.program ∧
    (s.changeRx f).delivery = s.delivery ∧ (s.changeRx f).uplink = s.uplink ∧ (s.changeRx f).hold = s.hold ∧
    (s.changeRx f).management = s.management ∧ (s.changeRx f).events = s.events ∧ (s.changeRx f).params = s.params ∧
    (s.changeRx f).outputs = s.outputs ∧ (s.changeRx f).freeDraws = s.freeDraws ∧
    (s.changeRx f).pending = s.pending :=
  by simp [State.changeRx]

@[simp] theorem dropTransmission_frame (s : State) :
    s.dropTransmission.trunkRx = s.trunkRx ∧ s.dropTransmission.stations = s.stations ∧
    s.dropTransmission.stream = s.stream ∧ s.dropTransmission.pool = s.pool ∧
    s.dropTransmission.reassembly = s.reassembly ∧ s.dropTransmission.classifier = s.classifier ∧
    s.dropTransmission.program = s.program ∧ s.dropTransmission.delivery = s.delivery ∧
    s.dropTransmission.uplink = s.uplink ∧ s.dropTransmission.hold = s.hold ∧
    s.dropTransmission.management = s.management ∧ s.dropTransmission.events = s.events ∧
    s.dropTransmission.params = s.params ∧ s.dropTransmission.outputs = s.outputs ∧
    s.dropTransmission.freeDraws = s.freeDraws ∧ s.dropTransmission.pending = s.pending :=
  by simp [State.dropTransmission]

@[simp] theorem quietHold_frame (s : State) :
    s.quietHold.trunkRx = s.trunkRx ∧ s.quietHold.trunkTx = s.trunkTx ∧ s.quietHold.stations = s.stations ∧
    s.quietHold.stream = s.stream ∧ s.quietHold.pool = s.pool ∧ s.quietHold.reassembly = s.reassembly ∧
    s.quietHold.classifier = s.classifier ∧ s.quietHold.program = s.program ∧ s.quietHold.delivery = s.delivery ∧
    s.quietHold.uplink = s.uplink ∧ s.quietHold.management = s.management ∧ s.quietHold.events = s.events ∧
    s.quietHold.params = s.params ∧ s.quietHold.outputs = s.outputs ∧ s.quietHold.freeDraws = s.freeDraws ∧
    s.quietHold.pending = s.pending :=
  by simp [State.quietHold]

@[simp] theorem handCell_frame (c : AdmittedCell) (s : State) :
    (s.handCell c).trunkRx = s.trunkRx ∧ (s.handCell c).trunkTx = s.trunkTx ∧ (s.handCell c).stations = s.stations ∧
    (s.handCell c).pool = s.pool ∧ (s.handCell c).reassembly = s.reassembly ∧
    (s.handCell c).classifier = s.classifier ∧ (s.handCell c).program = s.program ∧
    (s.handCell c).delivery = s.delivery ∧ (s.handCell c).uplink = s.uplink ∧ (s.handCell c).hold = s.hold ∧
    (s.handCell c).management = s.management ∧ (s.handCell c).events = s.events ∧ (s.handCell c).params = s.params ∧
    (s.handCell c).outputs = s.outputs ∧ (s.handCell c).freeDraws = s.freeDraws ∧
    (s.handCell c).pending = s.pending :=
  by simp [State.handCell]

@[simp] theorem foreignCell_frame (a : Addr) (s : State) :
    (s.foreignCell a).trunkRx = s.trunkRx ∧ (s.foreignCell a).trunkTx = s.trunkTx ∧
    (s.foreignCell a).stream = s.stream ∧ (s.foreignCell a).pool = s.pool ∧
    (s.foreignCell a).reassembly = s.reassembly ∧ (s.foreignCell a).classifier = s.classifier ∧
    (s.foreignCell a).program = s.program ∧ (s.foreignCell a).delivery = s.delivery ∧
    (s.foreignCell a).uplink = s.uplink ∧ (s.foreignCell a).hold = s.hold ∧
    (s.foreignCell a).management = s.management ∧ (s.foreignCell a).params = s.params ∧
    (s.foreignCell a).outputs = s.outputs ∧ (s.foreignCell a).freeDraws = s.freeDraws ∧
    (s.foreignCell a).pending = s.pending :=
  by simp [State.foreignCell]

@[simp] theorem blockedCell_frame (i : Fin 64) (e : StationEntry) (s : State) :
    (s.blockedCell i e).trunkRx = s.trunkRx ∧ (s.blockedCell i e).trunkTx = s.trunkTx ∧
    (s.blockedCell i e).stream = s.stream ∧ (s.blockedCell i e).pool = s.pool ∧
    (s.blockedCell i e).reassembly = s.reassembly ∧ (s.blockedCell i e).classifier = s.classifier ∧
    (s.blockedCell i e).program = s.program ∧ (s.blockedCell i e).delivery = s.delivery ∧
    (s.blockedCell i e).uplink = s.uplink ∧ (s.blockedCell i e).hold = s.hold ∧
    (s.blockedCell i e).management = s.management ∧ (s.blockedCell i e).params = s.params ∧
    (s.blockedCell i e).outputs = s.outputs ∧ (s.blockedCell i e).freeDraws = s.freeDraws ∧
    (s.blockedCell i e).pending = s.pending :=
  by simp [State.blockedCell]

@[simp] theorem acceptedCell_frame (i : Fin 64) (e : StationEntry) (k : DataKind) (b : List Byte) (s : State) :
    (s.acceptedCell i e k b).trunkRx = s.trunkRx ∧ (s.acceptedCell i e k b).trunkTx = s.trunkTx ∧
    (s.acceptedCell i e k b).pool = s.pool ∧ (s.acceptedCell i e k b).reassembly = s.reassembly ∧
    (s.acceptedCell i e k b).classifier = s.classifier ∧ (s.acceptedCell i e k b).program = s.program ∧
    (s.acceptedCell i e k b).delivery = s.delivery ∧ (s.acceptedCell i e k b).uplink = s.uplink ∧
    (s.acceptedCell i e k b).hold = s.hold ∧ (s.acceptedCell i e k b).management = s.management ∧
    (s.acceptedCell i e k b).events = s.events ∧ (s.acceptedCell i e k b).params = s.params ∧
    (s.acceptedCell i e k b).outputs = s.outputs ∧ (s.acceptedCell i e k b).freeDraws = s.freeDraws ∧
    (s.acceptedCell i e k b).pending = s.pending :=
  by simp [State.acceptedCell]

@[simp] theorem lookupCell_frame (k : DataKind) (b : List Byte) (s : State) :
    (s.lookupCell k b).trunkRx = s.trunkRx ∧ (s.lookupCell k b).trunkTx = s.trunkTx ∧
    (s.lookupCell k b).pool = s.pool ∧ (s.lookupCell k b).reassembly = s.reassembly ∧
    (s.lookupCell k b).classifier = s.classifier ∧ (s.lookupCell k b).program = s.program ∧
    (s.lookupCell k b).delivery = s.delivery ∧ (s.lookupCell k b).uplink = s.uplink ∧
    (s.lookupCell k b).hold = s.hold ∧ (s.lookupCell k b).management = s.management ∧
    (s.lookupCell k b).params = s.params ∧ (s.lookupCell k b).outputs = s.outputs ∧
    (s.lookupCell k b).freeDraws = s.freeDraws ∧ (s.lookupCell k b).pending = s.pending := by
  simp only [State.lookupCell]; split
  · split
    · split <;> simp
    · simp
  · split
    · split <;> simp
    · simp

@[simp] theorem sentCell_frame (c : TxCell) (s : State) :
    (s.sentCell c).trunkRx = s.trunkRx ∧ (s.sentCell c).stations = s.stations ∧ (s.sentCell c).stream = s.stream ∧
    (s.sentCell c).pool = s.pool ∧ (s.sentCell c).reassembly = s.reassembly ∧
    (s.sentCell c).classifier = s.classifier ∧ (s.sentCell c).program = s.program ∧
    (s.sentCell c).delivery = s.delivery ∧ (s.sentCell c).uplink = s.uplink ∧ (s.sentCell c).hold = s.hold ∧
    (s.sentCell c).management = s.management ∧ (s.sentCell c).events = s.events ∧ (s.sentCell c).params = s.params ∧
    (s.sentCell c).freeDraws = s.freeDraws ∧ (s.sentCell c).pending = s.pending :=
  by cases c <;> simp [State.sentCell]

@[simp] theorem ageOut_frame (i : Fin 64) (s : State) :
    (s.ageOut i).trunkRx = s.trunkRx ∧ (s.ageOut i).trunkTx = s.trunkTx ∧ (s.ageOut i).stream = s.stream ∧
    (s.ageOut i).pool = s.pool ∧ (s.ageOut i).reassembly = s.reassembly ∧ (s.ageOut i).classifier = s.classifier ∧
    (s.ageOut i).program = s.program ∧ (s.ageOut i).delivery = s.delivery ∧ (s.ageOut i).uplink = s.uplink ∧
    (s.ageOut i).hold = s.hold ∧ (s.ageOut i).management = s.management ∧ (s.ageOut i).params = s.params ∧
    (s.ageOut i).outputs = s.outputs ∧ (s.ageOut i).freeDraws = s.freeDraws ∧ (s.ageOut i).pending = s.pending :=
  by unfold State.ageOut; split <;> (try split) <;> simp

@[simp] theorem storedPool_frame (p : BlockPool) (s : State) :
    (s.storedPool p).trunkRx = s.trunkRx ∧ (s.storedPool p).stations = s.stations ∧
    (s.storedPool p).stream = s.stream ∧ (s.storedPool p).reassembly = s.reassembly ∧
    (s.storedPool p).classifier = s.classifier ∧ (s.storedPool p).program = s.program ∧
    (s.storedPool p).delivery = s.delivery ∧ (s.storedPool p).uplink = s.uplink ∧
    (s.storedPool p).management = s.management ∧ (s.storedPool p).params = s.params ∧
    (s.storedPool p).outputs = s.outputs ∧ (s.storedPool p).freeDraws = s.freeDraws ∧
    (s.storedPool p).pending = s.pending :=
  by unfold State.storedPool; split <;> simp

@[simp] theorem refuseNoContext_frame (a : Addr) (s : State) :
    (s.refuseNoContext a).trunkRx = s.trunkRx ∧ (s.refuseNoContext a).trunkTx = s.trunkTx ∧
    (s.refuseNoContext a).stream = s.stream ∧ (s.refuseNoContext a).pool = s.pool ∧
    (s.refuseNoContext a).classifier = s.classifier ∧ (s.refuseNoContext a).program = s.program ∧
    (s.refuseNoContext a).delivery = s.delivery ∧ (s.refuseNoContext a).uplink = s.uplink ∧
    (s.refuseNoContext a).hold = s.hold ∧ (s.refuseNoContext a).management = s.management ∧
    (s.refuseNoContext a).params = s.params ∧ (s.refuseNoContext a).outputs = s.outputs ∧
    (s.refuseNoContext a).freeDraws = s.freeDraws ∧ (s.refuseNoContext a).pending = s.pending :=
  by simp [State.refuseNoContext]

@[simp] theorem refuseNoBuffer_frame (a : Addr) (s : State) :
    (s.refuseNoBuffer a).trunkRx = s.trunkRx ∧ (s.refuseNoBuffer a).trunkTx = s.trunkTx ∧
    (s.refuseNoBuffer a).stream = s.stream ∧ (s.refuseNoBuffer a).pool = s.pool ∧
    (s.refuseNoBuffer a).classifier = s.classifier ∧ (s.refuseNoBuffer a).program = s.program ∧
    (s.refuseNoBuffer a).delivery = s.delivery ∧ (s.refuseNoBuffer a).uplink = s.uplink ∧
    (s.refuseNoBuffer a).hold = s.hold ∧ (s.refuseNoBuffer a).management = s.management ∧
    (s.refuseNoBuffer a).params = s.params ∧ (s.refuseNoBuffer a).outputs = s.outputs ∧
    (s.refuseNoBuffer a).freeDraws = s.freeDraws ∧ (s.refuseNoBuffer a).pending = s.pending :=
  by simp [State.refuseNoBuffer]

@[simp] theorem completeContext_frame (i : Fin 48) (m : Message) (s : State) :
    (s.completeContext i m).trunkRx = s.trunkRx ∧ (s.completeContext i m).trunkTx = s.trunkTx ∧
    (s.completeContext i m).stream = s.stream ∧ (s.completeContext i m).pool = s.pool ∧
    (s.completeContext i m).classifier = s.classifier ∧ (s.completeContext i m).program = s.program ∧
    (s.completeContext i m).delivery = s.delivery ∧ (s.completeContext i m).uplink = s.uplink ∧
    (s.completeContext i m).hold = s.hold ∧ (s.completeContext i m).management = s.management ∧
    (s.completeContext i m).events = s.events ∧ (s.completeContext i m).params = s.params ∧
    (s.completeContext i m).outputs = s.outputs ∧ (s.completeContext i m).freeDraws = s.freeDraws ∧
    (s.completeContext i m).pending = s.pending :=
  by simp [State.completeContext]

@[simp] theorem startMessage_frame (c : AdmittedCell) (w : Bool) (s : State) :
    (s.startMessage c w).trunkRx = s.trunkRx ∧ (s.startMessage c w).stream = s.stream ∧
    (s.startMessage c w).classifier = s.classifier ∧ (s.startMessage c w).program = s.program ∧
    (s.startMessage c w).delivery = s.delivery ∧ (s.startMessage c w).uplink = s.uplink ∧
    (s.startMessage c w).management = s.management ∧ (s.startMessage c w).params = s.params ∧
    (s.startMessage c w).outputs = s.outputs ∧ (s.startMessage c w).freeDraws = s.freeDraws ∧
    (s.startMessage c w).pending = s.pending := by
  unfold State.startMessage; split
  · simp
  · split
    · simp
    · cases w <;> simp

@[simp] theorem endKeyContext_frame (a : Addr) (ch : Chan) (s : State) :
    (s.endKeyContext a ch).trunkRx = s.trunkRx ∧ (s.endKeyContext a ch).stream = s.stream ∧
    (s.endKeyContext a ch).classifier = s.classifier ∧ (s.endKeyContext a ch).program = s.program ∧
    (s.endKeyContext a ch).delivery = s.delivery ∧ (s.endKeyContext a ch).uplink = s.uplink ∧
    (s.endKeyContext a ch).management = s.management ∧ (s.endKeyContext a ch).params = s.params ∧
    (s.endKeyContext a ch).outputs = s.outputs ∧ (s.endKeyContext a ch).freeDraws = s.freeDraws ∧
    (s.endKeyContext a ch).pending = s.pending :=
  by unfold State.endKeyContext; split <;> simp

@[simp] theorem orphanCell_frame (a : Addr) (s : State) :
    (s.orphanCell a).trunkRx = s.trunkRx ∧ (s.orphanCell a).trunkTx = s.trunkTx ∧ (s.orphanCell a).stream = s.stream ∧
    (s.orphanCell a).pool = s.pool ∧ (s.orphanCell a).classifier = s.classifier ∧
    (s.orphanCell a).program = s.program ∧ (s.orphanCell a).delivery = s.delivery ∧
    (s.orphanCell a).uplink = s.uplink ∧ (s.orphanCell a).hold = s.hold ∧ (s.orphanCell a).management = s.management ∧
    (s.orphanCell a).params = s.params ∧ (s.orphanCell a).outputs = s.outputs ∧
    (s.orphanCell a).freeDraws = s.freeDraws ∧ (s.orphanCell a).pending = s.pending :=
  by simp [State.orphanCell]

@[simp] theorem abortAtCell_frame (l : Bool) (i : Fin 48) (m : Message) (r : AbortReason) (s : State) :
    (s.abortAtCell l i m r).trunkRx = s.trunkRx ∧ (s.abortAtCell l i m r).stream = s.stream ∧
    (s.abortAtCell l i m r).classifier = s.classifier ∧ (s.abortAtCell l i m r).program = s.program ∧
    (s.abortAtCell l i m r).delivery = s.delivery ∧ (s.abortAtCell l i m r).uplink = s.uplink ∧
    (s.abortAtCell l i m r).management = s.management ∧ (s.abortAtCell l i m r).params = s.params ∧
    (s.abortAtCell l i m r).outputs = s.outputs ∧ (s.abortAtCell l i m r).freeDraws = s.freeDraws ∧
    (s.abortAtCell l i m r).pending = s.pending :=
  by cases l <;> simp [State.abortAtCell]

@[simp] theorem extendMessage_frame (l : Bool) (i : Fin 48) (m : Message) (e : Seq) (n : Nat) (c : Chain) (s : State) :
    (s.extendMessage l i m e n c).trunkRx = s.trunkRx ∧ (s.extendMessage l i m e n c).trunkTx = s.trunkTx ∧
    (s.extendMessage l i m e n c).stream = s.stream ∧ (s.extendMessage l i m e n c).pool = s.pool ∧
    (s.extendMessage l i m e n c).classifier = s.classifier ∧ (s.extendMessage l i m e n c).program = s.program ∧
    (s.extendMessage l i m e n c).delivery = s.delivery ∧ (s.extendMessage l i m e n c).uplink = s.uplink ∧
    (s.extendMessage l i m e n c).hold = s.hold ∧ (s.extendMessage l i m e n c).management = s.management ∧
    (s.extendMessage l i m e n c).events = s.events ∧ (s.extendMessage l i m e n c).params = s.params ∧
    (s.extendMessage l i m e n c).outputs = s.outputs ∧ (s.extendMessage l i m e n c).freeDraws = s.freeDraws ∧
    (s.extendMessage l i m e n c).pending = s.pending :=
  by cases l <;> simp [State.extendMessage]

@[simp] theorem dropDuplicate_frame (i : Fin 48) (m : Message) (e : Seq) (s : State) :
    (s.dropDuplicate i m e).trunkRx = s.trunkRx ∧ (s.dropDuplicate i m e).trunkTx = s.trunkTx ∧
    (s.dropDuplicate i m e).stations = s.stations ∧ (s.dropDuplicate i m e).stream = s.stream ∧
    (s.dropDuplicate i m e).pool = s.pool ∧ (s.dropDuplicate i m e).classifier = s.classifier ∧
    (s.dropDuplicate i m e).program = s.program ∧ (s.dropDuplicate i m e).delivery = s.delivery ∧
    (s.dropDuplicate i m e).uplink = s.uplink ∧ (s.dropDuplicate i m e).hold = s.hold ∧
    (s.dropDuplicate i m e).management = s.management ∧ (s.dropDuplicate i m e).events = s.events ∧
    (s.dropDuplicate i m e).params = s.params ∧ (s.dropDuplicate i m e).outputs = s.outputs ∧
    (s.dropDuplicate i m e).freeDraws = s.freeDraws ∧ (s.dropDuplicate i m e).pending = s.pending :=
  by simp [State.dropDuplicate]

@[simp] theorem continueOpen_frame (l : Bool) (c : AdmittedCell) (i : Fin 48) (m : Message) (e : Seq) (s : State) :
    (s.continueOpen l c i m e).trunkRx = s.trunkRx ∧ (s.continueOpen l c i m e).stream = s.stream ∧
    (s.continueOpen l c i m e).classifier = s.classifier ∧ (s.continueOpen l c i m e).program = s.program ∧
    (s.continueOpen l c i m e).delivery = s.delivery ∧ (s.continueOpen l c i m e).uplink = s.uplink ∧
    (s.continueOpen l c i m e).management = s.management ∧ (s.continueOpen l c i m e).params = s.params ∧
    (s.continueOpen l c i m e).outputs = s.outputs ∧ (s.continueOpen l c i m e).freeDraws = s.freeDraws ∧
    (s.continueOpen l c i m e).pending = s.pending := by
  unfold State.continueOpen; split
  · split
    · simp
    · split <;> simp
  · split <;> simp

@[simp] theorem continueDiscarding_frame (l : Bool) (i : Fin 48) (a : Addr) (ch : Chan) (s : State) :
    (s.continueDiscarding l i a ch).trunkRx = s.trunkRx ∧ (s.continueDiscarding l i a ch).trunkTx = s.trunkTx ∧
    (s.continueDiscarding l i a ch).stream = s.stream ∧ (s.continueDiscarding l i a ch).pool = s.pool ∧
    (s.continueDiscarding l i a ch).classifier = s.classifier ∧ (s.continueDiscarding l i a ch).program = s.program ∧
    (s.continueDiscarding l i a ch).delivery = s.delivery ∧ (s.continueDiscarding l i a ch).uplink = s.uplink ∧
    (s.continueDiscarding l i a ch).hold = s.hold ∧ (s.continueDiscarding l i a ch).management = s.management ∧
    (s.continueDiscarding l i a ch).events = s.events ∧ (s.continueDiscarding l i a ch).params = s.params ∧
    (s.continueDiscarding l i a ch).outputs = s.outputs ∧ (s.continueDiscarding l i a ch).freeDraws = s.freeDraws ∧
    (s.continueDiscarding l i a ch).pending = s.pending :=
  by cases l <;> simp [State.continueDiscarding]

@[simp] theorem continueMessage_frame (l : Bool) (c : AdmittedCell) (s : State) :
    (s.continueMessage l c).trunkRx = s.trunkRx ∧ (s.continueMessage l c).stream = s.stream ∧
    (s.continueMessage l c).classifier = s.classifier ∧ (s.continueMessage l c).program = s.program ∧
    (s.continueMessage l c).delivery = s.delivery ∧ (s.continueMessage l c).uplink = s.uplink ∧
    (s.continueMessage l c).management = s.management ∧ (s.continueMessage l c).params = s.params ∧
    (s.continueMessage l c).outputs = s.outputs ∧ (s.continueMessage l c).freeDraws = s.freeDraws ∧
    (s.continueMessage l c).pending = s.pending := by
  unfold State.continueMessage; split
  · simp
  · split <;> simp

@[simp] theorem answerRemoval_frame (x : List Addr) (n : Nat) (s : State) :
    (s.answerRemoval x n).trunkRx = s.trunkRx ∧ (s.answerRemoval x n).trunkTx = s.trunkTx ∧
    (s.answerRemoval x n).stations = s.stations ∧ (s.answerRemoval x n).stream = s.stream ∧
    (s.answerRemoval x n).pool = s.pool ∧ (s.answerRemoval x n).reassembly = s.reassembly ∧
    (s.answerRemoval x n).classifier = s.classifier ∧ (s.answerRemoval x n).program = s.program ∧
    (s.answerRemoval x n).delivery = s.delivery ∧ (s.answerRemoval x n).uplink = s.uplink ∧
    (s.answerRemoval x n).hold = s.hold ∧ (s.answerRemoval x n).events = s.events ∧
    (s.answerRemoval x n).params = s.params ∧ (s.answerRemoval x n).outputs = s.outputs ∧
    (s.answerRemoval x n).freeDraws = s.freeDraws ∧ (s.answerRemoval x n).pending = s.pending :=
  by unfold State.answerRemoval; split <;> simp

@[simp] theorem countHits_frame (h : List Nat) (s : State) :
    (s.countHits h).trunkRx = s.trunkRx ∧ (s.countHits h).trunkTx = s.trunkTx ∧
    (s.countHits h).stations = s.stations ∧ (s.countHits h).stream = s.stream ∧ (s.countHits h).pool = s.pool ∧
    (s.countHits h).reassembly = s.reassembly ∧ (s.countHits h).classifier = s.classifier ∧
    (s.countHits h).delivery = s.delivery ∧ (s.countHits h).uplink = s.uplink ∧ (s.countHits h).hold = s.hold ∧
    (s.countHits h).management = s.management ∧ (s.countHits h).events = s.events ∧
    (s.countHits h).params = s.params ∧ (s.countHits h).outputs = s.outputs ∧
    (s.countHits h).freeDraws = s.freeDraws ∧ (s.countHits h).pending = s.pending :=
  by simp [State.countHits]

@[simp] theorem appendRecord_frame (q : Fin 8) (b : Nat) (r : Record) (s : State) :
    (s.appendRecord q b r).trunkRx = s.trunkRx ∧ (s.appendRecord q b r).trunkTx = s.trunkTx ∧
    (s.appendRecord q b r).stations = s.stations ∧ (s.appendRecord q b r).stream = s.stream ∧
    (s.appendRecord q b r).pool = s.pool ∧ (s.appendRecord q b r).reassembly = s.reassembly ∧
    (s.appendRecord q b r).classifier = s.classifier ∧ (s.appendRecord q b r).program = s.program ∧
    (s.appendRecord q b r).uplink = s.uplink ∧ (s.appendRecord q b r).hold = s.hold ∧
    (s.appendRecord q b r).management = s.management ∧ (s.appendRecord q b r).events = s.events ∧
    (s.appendRecord q b r).params = s.params ∧ (s.appendRecord q b r).outputs = s.outputs ∧
    (s.appendRecord q b r).freeDraws = s.freeDraws ∧ (s.appendRecord q b r).pending = s.pending :=
  by simp [State.appendRecord]

@[simp] theorem refuseCopy_frame (q : Fin 8) (s : State) :
    (s.refuseCopy q).trunkRx = s.trunkRx ∧ (s.refuseCopy q).trunkTx = s.trunkTx ∧
    (s.refuseCopy q).stations = s.stations ∧ (s.refuseCopy q).stream = s.stream ∧ (s.refuseCopy q).pool = s.pool ∧
    (s.refuseCopy q).reassembly = s.reassembly ∧ (s.refuseCopy q).classifier = s.classifier ∧
    (s.refuseCopy q).program = s.program ∧ (s.refuseCopy q).uplink = s.uplink ∧ (s.refuseCopy q).hold = s.hold ∧
    (s.refuseCopy q).management = s.management ∧ (s.refuseCopy q).params = s.params ∧
    (s.refuseCopy q).outputs = s.outputs ∧ (s.refuseCopy q).freeDraws = s.freeDraws ∧
    (s.refuseCopy q).pending = s.pending :=
  by simp [State.refuseCopy]

@[simp] theorem takeMessageId_frame (n : Nat) (s : State) :
    (s.takeMessageId n).trunkRx = s.trunkRx ∧ (s.takeMessageId n).trunkTx = s.trunkTx ∧
    (s.takeMessageId n).stations = s.stations ∧ (s.takeMessageId n).stream = s.stream ∧
    (s.takeMessageId n).pool = s.pool ∧ (s.takeMessageId n).reassembly = s.reassembly ∧
    (s.takeMessageId n).program = s.program ∧ (s.takeMessageId n).delivery = s.delivery ∧
    (s.takeMessageId n).uplink = s.uplink ∧ (s.takeMessageId n).hold = s.hold ∧
    (s.takeMessageId n).management = s.management ∧ (s.takeMessageId n).events = s.events ∧
    (s.takeMessageId n).params = s.params ∧ (s.takeMessageId n).outputs = s.outputs ∧
    (s.takeMessageId n).freeDraws = s.freeDraws ∧ (s.takeMessageId n).pending = s.pending :=
  by unfold State.takeMessageId; split <;> simp

@[simp] theorem disposeChain_frame (c : Chain) (n : Nat) (s : State) :
    (s.disposeChain c n).trunkRx = s.trunkRx ∧ (s.disposeChain c n).stations = s.stations ∧
    (s.disposeChain c n).stream = s.stream ∧ (s.disposeChain c n).reassembly = s.reassembly ∧
    (s.disposeChain c n).classifier = s.classifier ∧ (s.disposeChain c n).program = s.program ∧
    (s.disposeChain c n).delivery = s.delivery ∧ (s.disposeChain c n).uplink = s.uplink ∧
    (s.disposeChain c n).management = s.management ∧ (s.disposeChain c n).params = s.params ∧
    (s.disposeChain c n).outputs = s.outputs ∧ (s.disposeChain c n).freeDraws = s.freeDraws ∧
    (s.disposeChain c n).pending = s.pending :=
  by unfold State.disposeChain; split <;> simp

@[simp] theorem countClassified_frame (a b : Bool) (s : State) :
    (s.countClassified a b).trunkRx = s.trunkRx ∧ (s.countClassified a b).trunkTx = s.trunkTx ∧
    (s.countClassified a b).stations = s.stations ∧ (s.countClassified a b).stream = s.stream ∧
    (s.countClassified a b).pool = s.pool ∧ (s.countClassified a b).reassembly = s.reassembly ∧
    (s.countClassified a b).program = s.program ∧ (s.countClassified a b).delivery = s.delivery ∧
    (s.countClassified a b).uplink = s.uplink ∧ (s.countClassified a b).hold = s.hold ∧
    (s.countClassified a b).management = s.management ∧ (s.countClassified a b).events = s.events ∧
    (s.countClassified a b).params = s.params ∧ (s.countClassified a b).outputs = s.outputs ∧
    (s.countClassified a b).freeDraws = s.freeDraws ∧ (s.countClassified a b).pending = s.pending :=
  by simp [State.countClassified]

@[simp] theorem idleClassifier_frame (s : State) :
    s.idleClassifier.trunkRx = s.trunkRx ∧ s.idleClassifier.trunkTx = s.trunkTx ∧
    s.idleClassifier.stations = s.stations ∧ s.idleClassifier.stream = s.stream ∧ s.idleClassifier.pool = s.pool ∧
    s.idleClassifier.reassembly = s.reassembly ∧ s.idleClassifier.program = s.program ∧
    s.idleClassifier.delivery = s.delivery ∧ s.idleClassifier.uplink = s.uplink ∧ s.idleClassifier.hold = s.hold ∧
    s.idleClassifier.management = s.management ∧ s.idleClassifier.events = s.events ∧
    s.idleClassifier.params = s.params ∧ s.idleClassifier.outputs = s.outputs ∧
    s.idleClassifier.freeDraws = s.freeDraws ∧ s.idleClassifier.pending = s.pending :=
  by simp [State.idleClassifier]

@[simp] theorem setEdit_frame (e : EditState) (s : State) :
    (s.setEdit e).trunkRx = s.trunkRx ∧ (s.setEdit e).trunkTx = s.trunkTx ∧ (s.setEdit e).stations = s.stations ∧
    (s.setEdit e).stream = s.stream ∧ (s.setEdit e).pool = s.pool ∧ (s.setEdit e).reassembly = s.reassembly ∧
    (s.setEdit e).classifier = s.classifier ∧ (s.setEdit e).delivery = s.delivery ∧ (s.setEdit e).uplink = s.uplink ∧
    (s.setEdit e).hold = s.hold ∧ (s.setEdit e).management = s.management ∧ (s.setEdit e).events = s.events ∧
    (s.setEdit e).params = s.params ∧ (s.setEdit e).outputs = s.outputs ∧ (s.setEdit e).freeDraws = s.freeDraws ∧
    (s.setEdit e).pending = s.pending :=
  by simp [State.setEdit]

@[simp] theorem swap_frame (s : State) :
    s.swap.trunkRx = s.trunkRx ∧ s.swap.trunkTx = s.trunkTx ∧ s.swap.stations = s.stations ∧
    s.swap.stream = s.stream ∧ s.swap.pool = s.pool ∧ s.swap.reassembly = s.reassembly ∧
    s.swap.classifier = s.classifier ∧ s.swap.delivery = s.delivery ∧ s.swap.uplink = s.uplink ∧
    s.swap.hold = s.hold ∧ s.swap.params = s.params ∧ s.swap.outputs = s.outputs ∧ s.swap.freeDraws = s.freeDraws ∧
    s.swap.pending = s.pending :=
  by unfold State.swap; split <;> simp

@[simp] theorem manualHold_frame (d : U16) (s : State) :
    (s.manualHold d).trunkRx = s.trunkRx ∧ (s.manualHold d).stations = s.stations ∧
    (s.manualHold d).stream = s.stream ∧ (s.manualHold d).pool = s.pool ∧ (s.manualHold d).reassembly = s.reassembly ∧
    (s.manualHold d).classifier = s.classifier ∧ (s.manualHold d).program = s.program ∧
    (s.manualHold d).delivery = s.delivery ∧ (s.manualHold d).uplink = s.uplink ∧
    (s.manualHold d).management = s.management ∧ (s.manualHold d).events = s.events ∧
    (s.manualHold d).params = s.params ∧ (s.manualHold d).outputs = s.outputs ∧
    (s.manualHold d).freeDraws = s.freeDraws ∧ (s.manualHold d).pending = s.pending :=
  by unfold State.manualHold; split <;> simp

@[simp] theorem startDelivery_frame (q : Fin 8) (n : Nat) (r : Record) (s : State) :
    (s.startDelivery q n r).trunkRx = s.trunkRx ∧ (s.startDelivery q n r).trunkTx = s.trunkTx ∧
    (s.startDelivery q n r).stations = s.stations ∧ (s.startDelivery q n r).stream = s.stream ∧
    (s.startDelivery q n r).pool = s.pool ∧ (s.startDelivery q n r).reassembly = s.reassembly ∧
    (s.startDelivery q n r).classifier = s.classifier ∧ (s.startDelivery q n r).program = s.program ∧
    (s.startDelivery q n r).hold = s.hold ∧ (s.startDelivery q n r).management = s.management ∧
    (s.startDelivery q n r).events = s.events ∧ (s.startDelivery q n r).params = s.params ∧
    (s.startDelivery q n r).outputs = s.outputs ∧ (s.startDelivery q n r).freeDraws = s.freeDraws ∧
    (s.startDelivery q n r).pending = s.pending :=
  by simp [State.startDelivery]

@[simp] theorem removeHead_frame (q : Fin 8) (s : State) :
    (s.removeHead q).trunkRx = s.trunkRx ∧ (s.removeHead q).stations = s.stations ∧
    (s.removeHead q).stream = s.stream ∧ (s.removeHead q).reassembly = s.reassembly ∧
    (s.removeHead q).classifier = s.classifier ∧ (s.removeHead q).program = s.program ∧
    (s.removeHead q).uplink = s.uplink ∧ (s.removeHead q).management = s.management ∧
    (s.removeHead q).params = s.params ∧ (s.removeHead q).outputs = s.outputs ∧
    (s.removeHead q).freeDraws = s.freeDraws ∧ (s.removeHead q).pending = s.pending :=
  by unfold State.removeHead; split <;> simp

@[simp] theorem closeFlight_frame (q : Fin 8) (f : QueueCounters → QueueCounters) (s : State) :
    (s.closeFlight q f).trunkRx = s.trunkRx ∧ (s.closeFlight q f).trunkTx = s.trunkTx ∧
    (s.closeFlight q f).stations = s.stations ∧ (s.closeFlight q f).stream = s.stream ∧
    (s.closeFlight q f).pool = s.pool ∧ (s.closeFlight q f).reassembly = s.reassembly ∧
    (s.closeFlight q f).classifier = s.classifier ∧ (s.closeFlight q f).program = s.program ∧
    (s.closeFlight q f).uplink = s.uplink ∧ (s.closeFlight q f).hold = s.hold ∧
    (s.closeFlight q f).management = s.management ∧ (s.closeFlight q f).events = s.events ∧
    (s.closeFlight q f).params = s.params ∧ (s.closeFlight q f).outputs = s.outputs ∧
    (s.closeFlight q f).freeDraws = s.freeDraws ∧ (s.closeFlight q f).pending = s.pending :=
  by simp [State.closeFlight]

@[simp] theorem endStreamed_frame (f : DeliveryFrame) (s : State) :
    (s.endStreamed f).trunkRx = s.trunkRx ∧ (s.endStreamed f).stations = s.stations ∧
    (s.endStreamed f).stream = s.stream ∧ (s.endStreamed f).reassembly = s.reassembly ∧
    (s.endStreamed f).classifier = s.classifier ∧ (s.endStreamed f).program = s.program ∧
    (s.endStreamed f).management = s.management ∧ (s.endStreamed f).params = s.params ∧
    (s.endStreamed f).freeDraws = s.freeDraws ∧ (s.endStreamed f).pending = s.pending :=
  by simp only [State.endStreamed]; split <;> simp

@[simp] theorem haltOnDamage_frame (f : DeliveryFrame) (b : List Byte) (s : State) :
    (s.haltOnDamage f b).trunkRx = s.trunkRx ∧ (s.haltOnDamage f b).stations = s.stations ∧
    (s.haltOnDamage f b).stream = s.stream ∧ (s.haltOnDamage f b).reassembly = s.reassembly ∧
    (s.haltOnDamage f b).classifier = s.classifier ∧ (s.haltOnDamage f b).program = s.program ∧
    (s.haltOnDamage f b).management = s.management ∧ (s.haltOnDamage f b).params = s.params ∧
    (s.haltOnDamage f b).outputs = s.outputs ∧ (s.haltOnDamage f b).freeDraws = s.freeDraws ∧
    (s.haltOnDamage f b).pending = s.pending :=
  by simp [State.haltOnDamage]

@[simp] theorem loseDelivery_frame (s : State) :
    s.loseDelivery.trunkRx = s.trunkRx ∧ s.loseDelivery.trunkTx = s.trunkTx ∧ s.loseDelivery.stations = s.stations ∧
    s.loseDelivery.stream = s.stream ∧ s.loseDelivery.pool = s.pool ∧ s.loseDelivery.reassembly = s.reassembly ∧
    s.loseDelivery.classifier = s.classifier ∧ s.loseDelivery.program = s.program ∧ s.loseDelivery.uplink = s.uplink ∧
    s.loseDelivery.hold = s.hold ∧ s.loseDelivery.management = s.management ∧ s.loseDelivery.events = s.events ∧
    s.loseDelivery.params = s.params ∧ s.loseDelivery.outputs = s.outputs ∧ s.loseDelivery.freeDraws = s.freeDraws ∧
    s.loseDelivery.pending = s.pending :=
  by simp only [State.loseDelivery]; split <;> simp

@[simp] theorem loseManagement_frame (s : State) :
    s.loseManagement.trunkRx = s.trunkRx ∧ s.loseManagement.trunkTx = s.trunkTx ∧
    s.loseManagement.stations = s.stations ∧ s.loseManagement.stream = s.stream ∧ s.loseManagement.pool = s.pool ∧
    s.loseManagement.reassembly = s.reassembly ∧ s.loseManagement.classifier = s.classifier ∧
    s.loseManagement.program = s.program ∧ s.loseManagement.delivery = s.delivery ∧
    s.loseManagement.uplink = s.uplink ∧ s.loseManagement.hold = s.hold ∧ s.loseManagement.events = s.events ∧
    s.loseManagement.params = s.params ∧ s.loseManagement.outputs = s.outputs ∧
    s.loseManagement.freeDraws = s.freeDraws ∧ s.loseManagement.pending = s.pending :=
  by simp [State.loseManagement]

@[simp] theorem loseEvents_frame (s : State) :
    s.loseEvents.trunkRx = s.trunkRx ∧ s.loseEvents.trunkTx = s.trunkTx ∧ s.loseEvents.stations = s.stations ∧
    s.loseEvents.stream = s.stream ∧ s.loseEvents.pool = s.pool ∧ s.loseEvents.reassembly = s.reassembly ∧
    s.loseEvents.classifier = s.classifier ∧ s.loseEvents.program = s.program ∧ s.loseEvents.delivery = s.delivery ∧
    s.loseEvents.uplink = s.uplink ∧ s.loseEvents.hold = s.hold ∧ s.loseEvents.management = s.management ∧
    s.loseEvents.params = s.params ∧ s.loseEvents.outputs = s.outputs ∧ s.loseEvents.freeDraws = s.freeDraws ∧
    s.loseEvents.pending = s.pending :=
  by unfold State.loseEvents; split <;> simp

@[simp] theorem loseProgram_frame (s : State) :
    s.loseProgram.trunkRx = s.trunkRx ∧ s.loseProgram.trunkTx = s.trunkTx ∧ s.loseProgram.stations = s.stations ∧
    s.loseProgram.stream = s.stream ∧ s.loseProgram.pool = s.pool ∧ s.loseProgram.reassembly = s.reassembly ∧
    s.loseProgram.classifier = s.classifier ∧ s.loseProgram.delivery = s.delivery ∧ s.loseProgram.uplink = s.uplink ∧
    s.loseProgram.hold = s.hold ∧ s.loseProgram.management = s.management ∧ s.loseProgram.events = s.events ∧
    s.loseProgram.params = s.params ∧ s.loseProgram.outputs = s.outputs ∧ s.loseProgram.freeDraws = s.freeDraws ∧
    s.loseProgram.pending = s.pending :=
  by simp [State.loseProgram]

@[simp] theorem uplinkLoss_frame (s : State) :
    s.uplinkLoss.trunkRx = s.trunkRx ∧ s.uplinkLoss.trunkTx = s.trunkTx ∧ s.uplinkLoss.stations = s.stations ∧
    s.uplinkLoss.stream = s.stream ∧ s.uplinkLoss.pool = s.pool ∧ s.uplinkLoss.reassembly = s.reassembly ∧
    s.uplinkLoss.classifier = s.classifier ∧ s.uplinkLoss.hold = s.hold ∧ s.uplinkLoss.params = s.params ∧
    s.uplinkLoss.outputs = s.outputs ∧ s.uplinkLoss.freeDraws = s.freeDraws ∧ s.uplinkLoss.pending = s.pending :=
  by simp [State.uplinkLoss]

@[simp] theorem setUplink_frame (l : UplinkLink) (s : State) :
    (s.setUplink l).trunkRx = s.trunkRx ∧ (s.setUplink l).trunkTx = s.trunkTx ∧
    (s.setUplink l).stations = s.stations ∧ (s.setUplink l).stream = s.stream ∧ (s.setUplink l).pool = s.pool ∧
    (s.setUplink l).reassembly = s.reassembly ∧ (s.setUplink l).classifier = s.classifier ∧
    (s.setUplink l).program = s.program ∧ (s.setUplink l).delivery = s.delivery ∧ (s.setUplink l).hold = s.hold ∧
    (s.setUplink l).management = s.management ∧ (s.setUplink l).events = s.events ∧
    (s.setUplink l).params = s.params ∧ (s.setUplink l).outputs = s.outputs ∧
    (s.setUplink l).freeDraws = s.freeDraws ∧ (s.setUplink l).pending = s.pending :=
  by simp [State.setUplink]

@[simp] theorem arriveRequest_frame (r : Request) (s : State) :
    (s.arriveRequest r).trunkRx = s.trunkRx ∧ (s.arriveRequest r).trunkTx = s.trunkTx ∧
    (s.arriveRequest r).stations = s.stations ∧ (s.arriveRequest r).stream = s.stream ∧
    (s.arriveRequest r).pool = s.pool ∧ (s.arriveRequest r).reassembly = s.reassembly ∧
    (s.arriveRequest r).classifier = s.classifier ∧ (s.arriveRequest r).program = s.program ∧
    (s.arriveRequest r).delivery = s.delivery ∧ (s.arriveRequest r).uplink = s.uplink ∧
    (s.arriveRequest r).hold = s.hold ∧ (s.arriveRequest r).params = s.params ∧
    (s.arriveRequest r).outputs = s.outputs ∧ (s.arriveRequest r).freeDraws = s.freeDraws ∧
    (s.arriveRequest r).pending = s.pending :=
  by unfold State.arriveRequest; split <;> simp

@[simp] theorem addCredit_frame (q : Fin 8) (n : Byte) (s : State) :
    (s.addCredit q n).trunkRx = s.trunkRx ∧ (s.addCredit q n).trunkTx = s.trunkTx ∧
    (s.addCredit q n).stations = s.stations ∧ (s.addCredit q n).stream = s.stream ∧ (s.addCredit q n).pool = s.pool ∧
    (s.addCredit q n).reassembly = s.reassembly ∧ (s.addCredit q n).classifier = s.classifier ∧
    (s.addCredit q n).program = s.program ∧ (s.addCredit q n).uplink = s.uplink ∧ (s.addCredit q n).hold = s.hold ∧
    (s.addCredit q n).management = s.management ∧ (s.addCredit q n).params = s.params ∧
    (s.addCredit q n).outputs = s.outputs ∧ (s.addCredit q n).freeDraws = s.freeDraws ∧
    (s.addCredit q n).pending = s.pending :=
  by simp only [State.addCredit]; split <;> simp

@[simp] theorem arriveCredit_frame (q n : Byte) (s : State) :
    (s.arriveCredit q n).trunkRx = s.trunkRx ∧ (s.arriveCredit q n).trunkTx = s.trunkTx ∧
    (s.arriveCredit q n).stations = s.stations ∧ (s.arriveCredit q n).stream = s.stream ∧
    (s.arriveCredit q n).pool = s.pool ∧ (s.arriveCredit q n).reassembly = s.reassembly ∧
    (s.arriveCredit q n).classifier = s.classifier ∧ (s.arriveCredit q n).program = s.program ∧
    (s.arriveCredit q n).hold = s.hold ∧ (s.arriveCredit q n).management = s.management ∧
    (s.arriveCredit q n).params = s.params ∧ (s.arriveCredit q n).outputs = s.outputs ∧
    (s.arriveCredit q n).freeDraws = s.freeDraws ∧ (s.arriveCredit q n).pending = s.pending :=
  by unfold State.arriveCredit; split <;> simp

@[simp] theorem clearGroup_frame (g : Group) (s : State) :
    (s.clearGroup g).stream = s.stream ∧ (s.clearGroup g).pool = s.pool ∧ (s.clearGroup g).program = s.program ∧
    (s.clearGroup g).hold = s.hold ∧ (s.clearGroup g).events = s.events ∧ (s.clearGroup g).params = s.params ∧
    (s.clearGroup g).outputs = s.outputs ∧ (s.clearGroup g).freeDraws = s.freeDraws ∧
    (s.clearGroup g).pending = s.pending :=
  by cases g <;> simp [State.clearGroup]

@[simp] theorem resend_frame (t : Fin 4) (r : Request) (c : CachedResponse) (s : State) :
    (s.resend t r c).trunkRx = s.trunkRx ∧ (s.resend t r c).trunkTx = s.trunkTx ∧
    (s.resend t r c).stations = s.stations ∧ (s.resend t r c).stream = s.stream ∧ (s.resend t r c).pool = s.pool ∧
    (s.resend t r c).reassembly = s.reassembly ∧ (s.resend t r c).classifier = s.classifier ∧
    (s.resend t r c).program = s.program ∧ (s.resend t r c).delivery = s.delivery ∧
    (s.resend t r c).uplink = s.uplink ∧ (s.resend t r c).hold = s.hold ∧ (s.resend t r c).events = s.events ∧
    (s.resend t r c).params = s.params ∧ (s.resend t r c).outputs = s.outputs ∧
    (s.resend t r c).freeDraws = s.freeDraws ∧ (s.resend t r c).pending = s.pending :=
  by cases c <;> simp [State.resend]

@[simp] theorem answerRetry_frame (t : Fin 4) (r : Request) (s : State) :
    (s.answerRetry t r).trunkRx = s.trunkRx ∧ (s.answerRetry t r).trunkTx = s.trunkTx ∧
    (s.answerRetry t r).stations = s.stations ∧ (s.answerRetry t r).stream = s.stream ∧
    (s.answerRetry t r).pool = s.pool ∧ (s.answerRetry t r).reassembly = s.reassembly ∧
    (s.answerRetry t r).classifier = s.classifier ∧ (s.answerRetry t r).program = s.program ∧
    (s.answerRetry t r).delivery = s.delivery ∧ (s.answerRetry t r).uplink = s.uplink ∧
    (s.answerRetry t r).hold = s.hold ∧ (s.answerRetry t r).events = s.events ∧
    (s.answerRetry t r).params = s.params ∧ (s.answerRetry t r).outputs = s.outputs ∧
    (s.answerRetry t r).freeDraws = s.freeDraws ∧ (s.answerRetry t r).pending = s.pending :=
  by unfold State.answerRetry; split <;> (try split) <;> simp

@[simp] theorem handParam_frame (n : Nat) (s : State) :
    (s.handParam n).trunkRx = s.trunkRx ∧ (s.handParam n).stations = s.stations ∧ (s.handParam n).stream = s.stream ∧
    (s.handParam n).pool = s.pool ∧ (s.handParam n).reassembly = s.reassembly ∧
    (s.handParam n).classifier = s.classifier ∧ (s.handParam n).program = s.program ∧
    (s.handParam n).delivery = s.delivery ∧ (s.handParam n).uplink = s.uplink ∧
    (s.handParam n).management = s.management ∧ (s.handParam n).params = s.params ∧
    (s.handParam n).outputs = s.outputs ∧ (s.handParam n).freeDraws = s.freeDraws ∧
    (s.handParam n).pending = s.pending :=
  by unfold State.handParam; split <;> (try split) <;> (try split) <;> simp

@[simp] theorem cutFrame_frame (s : State) :
    s.cutFrame.trunkRx = s.trunkRx ∧ s.cutFrame.trunkTx = s.trunkTx ∧ s.cutFrame.stations = s.stations ∧
    s.cutFrame.stream = s.stream ∧ s.cutFrame.pool = s.pool ∧ s.cutFrame.reassembly = s.reassembly ∧
    s.cutFrame.classifier = s.classifier ∧ s.cutFrame.program = s.program ∧ s.cutFrame.delivery = s.delivery ∧
    s.cutFrame.hold = s.hold ∧ s.cutFrame.management = s.management ∧ s.cutFrame.events = s.events ∧
    s.cutFrame.params = s.params ∧ s.cutFrame.outputs = s.outputs ∧ s.cutFrame.pending = s.pending :=
  by unfold State.cutFrame; split <;> (try split) <;> simp

@[simp] theorem restartReassembly_frame (s : State) :
    s.restartReassembly.trunkRx = s.trunkRx ∧ s.restartReassembly.trunkTx = s.trunkTx ∧
    s.restartReassembly.stream = s.stream ∧ s.restartReassembly.pool = s.pool ∧
    s.restartReassembly.program = s.program ∧ s.restartReassembly.delivery = s.delivery ∧
    s.restartReassembly.uplink = s.uplink ∧ s.restartReassembly.hold = s.hold ∧
    s.restartReassembly.management = s.management ∧ s.restartReassembly.events = s.events ∧
    s.restartReassembly.params = s.params ∧ s.restartReassembly.outputs = s.outputs ∧
    s.restartReassembly.freeDraws = s.freeDraws ∧ s.restartReassembly.pending = s.pending :=
  by simp [State.restartReassembly]

@[simp] theorem restartDelivery_frame (s : State) :
    s.restartDelivery.trunkRx = s.trunkRx ∧ s.restartDelivery.trunkTx = s.trunkTx ∧
    s.restartDelivery.stations = s.stations ∧ s.restartDelivery.stream = s.stream ∧ s.restartDelivery.pool = s.pool ∧
    s.restartDelivery.reassembly = s.reassembly ∧ s.restartDelivery.classifier = s.classifier ∧
    s.restartDelivery.program = s.program ∧ s.restartDelivery.uplink = s.uplink ∧ s.restartDelivery.hold = s.hold ∧
    s.restartDelivery.management = s.management ∧ s.restartDelivery.events = s.events ∧
    s.restartDelivery.params = s.params ∧ s.restartDelivery.outputs = s.outputs ∧
    s.restartDelivery.freeDraws = s.freeDraws ∧ s.restartDelivery.pending = s.pending :=
  by simp [State.restartDelivery]

@[simp] theorem restartEvents_frame (s : State) :
    s.restartEvents.trunkRx = s.trunkRx ∧ s.restartEvents.trunkTx = s.trunkTx ∧
    s.restartEvents.stations = s.stations ∧ s.restartEvents.stream = s.stream ∧ s.restartEvents.pool = s.pool ∧
    s.restartEvents.reassembly = s.reassembly ∧ s.restartEvents.classifier = s.classifier ∧
    s.restartEvents.program = s.program ∧ s.restartEvents.delivery = s.delivery ∧ s.restartEvents.uplink = s.uplink ∧
    s.restartEvents.hold = s.hold ∧ s.restartEvents.management = s.management ∧ s.restartEvents.params = s.params ∧
    s.restartEvents.outputs = s.outputs ∧ s.restartEvents.freeDraws = s.freeDraws ∧
    s.restartEvents.pending = s.pending :=
  by simp [State.restartEvents]

@[simp] theorem restartProgram_frame (s : State) :
    s.restartProgram.trunkRx = s.trunkRx ∧ s.restartProgram.trunkTx = s.trunkTx ∧
    s.restartProgram.stations = s.stations ∧ s.restartProgram.stream = s.stream ∧ s.restartProgram.pool = s.pool ∧
    s.restartProgram.reassembly = s.reassembly ∧ s.restartProgram.classifier = s.classifier ∧
    s.restartProgram.delivery = s.delivery ∧ s.restartProgram.uplink = s.uplink ∧ s.restartProgram.hold = s.hold ∧
    s.restartProgram.events = s.events ∧ s.restartProgram.params = s.params ∧ s.restartProgram.outputs = s.outputs ∧
    s.restartProgram.freeDraws = s.freeDraws ∧ s.restartProgram.pending = s.pending :=
  by unfold State.restartProgram; split <;> simp

@[simp] theorem restartHold_frame (s : State) :
    s.restartHold.trunkRx = s.trunkRx ∧ s.restartHold.stations = s.stations ∧ s.restartHold.stream = s.stream ∧
    s.restartHold.pool = s.pool ∧ s.restartHold.reassembly = s.reassembly ∧ s.restartHold.classifier = s.classifier ∧
    s.restartHold.program = s.program ∧ s.restartHold.delivery = s.delivery ∧ s.restartHold.uplink = s.uplink ∧
    s.restartHold.management = s.management ∧ s.restartHold.events = s.events ∧ s.restartHold.params = s.params ∧
    s.restartHold.outputs = s.outputs ∧ s.restartHold.freeDraws = s.freeDraws ∧ s.restartHold.pending = s.pending :=
  by unfold State.restartHold; split <;> simp

@[simp] theorem rebuildPool_frame (s : State) :
    s.rebuildPool.trunkRx = s.trunkRx ∧ s.rebuildPool.stations = s.stations ∧ s.rebuildPool.stream = s.stream ∧
    s.rebuildPool.reassembly = s.reassembly ∧ s.rebuildPool.classifier = s.classifier ∧
    s.rebuildPool.program = s.program ∧ s.rebuildPool.delivery = s.delivery ∧ s.rebuildPool.uplink = s.uplink ∧
    s.rebuildPool.management = s.management ∧ s.rebuildPool.params = s.params ∧ s.rebuildPool.outputs = s.outputs ∧
    s.rebuildPool.freeDraws = s.freeDraws ∧ s.rebuildPool.pending = s.pending :=
  by simp [State.rebuildPool]

@[simp] theorem restartParts_frame (s : State) :
    s.restartParts.trunkRx = s.trunkRx ∧ s.restartParts.stream = s.stream ∧ s.restartParts.params = s.params ∧
    s.restartParts.outputs = s.outputs ∧ s.restartParts.pending = s.pending :=
  by simp [State.restartParts]

end Sys2Proof.Machine.State
end

