-- ==== Sys2Proof/Laws/Commute.lean ====
section
/-! SUPPORT. Operations that neither read nor write the Management Unit commute with an update of it: what a block does
for a request is the same before the acceptance of the request as after it. -/

namespace Sys2Proof.Machine.State

variable (m : Management) (s : State)

theorem post_withManagement (k : EventKind) (d : U16) :
    (s.withManagement m).post k d = (s.post k d).withManagement m := rfl

theorem postNat_withManagement (k : EventKind) (n : Nat) :
    (s.withManagement m).postNat k n = (s.postNat k n).withManagement m := rfl

theorem transmit_withManagement (c : TxCell) :
    (s.withManagement m).transmit c = (s.transmit c).withManagement m := by
  simp only [State.transmit, withManagement_trunkRx, withManagement_trunkTx]
  cases s.trunkRx.link
  · rfl
  · cases s.trunkTx.inFlight <;> rfl

theorem requestHold_withManagement (d : U16) :
    (s.withManagement m).requestHold d = (s.requestHold d).withManagement m :=
  transmit_withManagement m s _

theorem requestRelease_withManagement :
    (s.withManagement m).requestRelease = s.requestRelease.withManagement m :=
  transmit_withManagement m s _

theorem withHold_withManagement (h : HoldController) :
    (s.withManagement m).withHold h = (s.withHold h).withManagement m := rfl

theorem withPool_withManagement (p : BlockPool) :
    (s.withManagement m).withPool p = (s.withPool p).withManagement m := rfl

theorem beginHold_withManagement : (s.withManagement m).beginHold = s.beginHold.withManagement m := by
  simp only [State.beginHold, withHold_withManagement, requestHold_withManagement, postNat_withManagement,
    withManagement_hold, withManagement_params]
  rfl

theorem endHold_withManagement : (s.withManagement m).endHold = s.endHold.withManagement m := by
  simp only [State.endHold, withHold_withManagement, requestRelease_withManagement, postNat_withManagement,
    withManagement_hold]

theorem evaluateHold_withManagement : (s.withManagement m).evaluateHold = s.evaluateHold.withManagement m := by
  simp only [State.evaluateHold, withManagement_trunkRx, withManagement_hold, withManagement_params,
    beginHold_withManagement, endHold_withManagement, withHold_withManagement]
  cases s.trunkRx.link <;> cases s.hold.mode
  · rfl
  · rfl
  · exact (apply_ite (fun u => withManagement u m) _ _ _).symm
  · exact (apply_ite (fun u => withManagement u m) _ _ _).symm

theorem handFreeCount_withManagement : (s.withManagement m).handFreeCount = s.handFreeCount.withManagement m :=
  evaluateHold_withManagement m (s.withHold { s.hold with lastFree := s.pool.free.length })

theorem releaseChain_withManagement (c : Chain) :
    (s.withManagement m).releaseChain c = (s.releaseChain c).withManagement m :=
  handFreeCount_withManagement m (s.withPool (s.pool.release c))

theorem dropReference_withManagement (h : Nat) :
    (s.withManagement m).dropReference h = (s.dropReference h).withManagement m := by
  simp only [State.dropReference, withManagement_pool, withPool_withManagement, releaseChain_withManagement]
  split <;> rfl

theorem dropReferences_withManagement (l : List Record) :
    (s.withManagement m).dropReferences l = (s.dropReferences l).withManagement m := by
  induction l generalizing s with
  | nil => rfl
  | cons r l ih =>
    simp only [State.dropReferences, List.foldl_cons, dropReference_withManagement] at ih ⊢
    exact ih _

end Sys2Proof.Machine.State
end

