-- ==== Sys2Proof/Laws/Frames/Commands.lean ====
section
/-! SUPPORT. What each operation leaves unchanged, field by field: the commands themselves, and the blocks' part of each
request. -/

namespace Sys2Proof.Machine.State

@[simp] theorem offerCopies_frame (m : Message) (a : ClauseAction) (s : State) :
    (s.offerCopies m a).2.trunkRx = s.trunkRx ∧ (s.offerCopies m a).2.trunkTx = s.trunkTx ∧
    (s.offerCopies m a).2.stations = s.stations ∧ (s.offerCopies m a).2.stream = s.stream ∧
    (s.offerCopies m a).2.pool = s.pool ∧ (s.offerCopies m a).2.reassembly = s.reassembly ∧
    (s.offerCopies m a).2.classifier = s.classifier ∧ (s.offerCopies m a).2.program = s.program ∧
    (s.offerCopies m a).2.uplink = s.uplink ∧ (s.offerCopies m a).2.hold = s.hold ∧
    (s.offerCopies m a).2.management = s.management ∧ (s.offerCopies m a).2.params = s.params ∧
    (s.offerCopies m a).2.outputs = s.outputs ∧ (s.offerCopies m a).2.freeDraws = s.freeDraws ∧
    (s.offerCopies m a).2.pending = s.pending := by
  unfold State.offerCopies
  generalize a.offers = l
  suffices h : ∀ x : Nat × State,
      (l.foldl (fun st o => State.offerCopy m a.mark o st) x).2.trunkRx = x.2.trunkRx ∧
      (l.foldl (fun st o => State.offerCopy m a.mark o st) x).2.trunkTx = x.2.trunkTx ∧
      (l.foldl (fun st o => State.offerCopy m a.mark o st) x).2.stations = x.2.stations ∧
      (l.foldl (fun st o => State.offerCopy m a.mark o st) x).2.stream = x.2.stream ∧
      (l.foldl (fun st o => State.offerCopy m a.mark o st) x).2.pool = x.2.pool ∧
      (l.foldl (fun st o => State.offerCopy m a.mark o st) x).2.reassembly = x.2.reassembly ∧
      (l.foldl (fun st o => State.offerCopy m a.mark o st) x).2.classifier = x.2.classifier ∧
      (l.foldl (fun st o => State.offerCopy m a.mark o st) x).2.program = x.2.program ∧
      (l.foldl (fun st o => State.offerCopy m a.mark o st) x).2.uplink = x.2.uplink ∧
      (l.foldl (fun st o => State.offerCopy m a.mark o st) x).2.hold = x.2.hold ∧
      (l.foldl (fun st o => State.offerCopy m a.mark o st) x).2.management = x.2.management ∧
      (l.foldl (fun st o => State.offerCopy m a.mark o st) x).2.params = x.2.params ∧
      (l.foldl (fun st o => State.offerCopy m a.mark o st) x).2.outputs = x.2.outputs ∧
      (l.foldl (fun st o => State.offerCopy m a.mark o st) x).2.freeDraws = x.2.freeDraws ∧
      (l.foldl (fun st o => State.offerCopy m a.mark o st) x).2.pending = x.2.pending
      from h (0, s)
  induction l with
  | nil => simp
  | cons o l ih =>
    intro x
    simp only [List.foldl_cons, ih (State.offerCopy m a.mark o x)]
    unfold State.offerCopy
    split <;> simp

@[simp] theorem agingTick_frame (s : State) :
    s.agingTick.trunkRx = s.trunkRx ∧ s.agingTick.trunkTx = s.trunkTx ∧ s.agingTick.stream = s.stream ∧
    s.agingTick.pool = s.pool ∧ s.agingTick.reassembly = s.reassembly ∧ s.agingTick.classifier = s.classifier ∧
    s.agingTick.program = s.program ∧ s.agingTick.delivery = s.delivery ∧ s.agingTick.uplink = s.uplink ∧
    s.agingTick.hold = s.hold ∧ s.agingTick.management = s.management ∧ s.agingTick.params = s.params ∧
    s.agingTick.outputs = s.outputs ∧ s.agingTick.freeDraws = s.freeDraws ∧ s.agingTick.pending = s.pending := by
  suffices h : ∀ (l : List (Fin 64)) (u : State),
      (l.foldl (fun t i => t.ageOut i) u).trunkRx = u.trunkRx ∧
      (l.foldl (fun t i => t.ageOut i) u).trunkTx = u.trunkTx ∧
      (l.foldl (fun t i => t.ageOut i) u).stream = u.stream ∧ (l.foldl (fun t i => t.ageOut i) u).pool = u.pool ∧
      (l.foldl (fun t i => t.ageOut i) u).reassembly = u.reassembly ∧
      (l.foldl (fun t i => t.ageOut i) u).classifier = u.classifier ∧
      (l.foldl (fun t i => t.ageOut i) u).program = u.program ∧
      (l.foldl (fun t i => t.ageOut i) u).delivery = u.delivery ∧
      (l.foldl (fun t i => t.ageOut i) u).uplink = u.uplink ∧ (l.foldl (fun t i => t.ageOut i) u).hold = u.hold ∧
      (l.foldl (fun t i => t.ageOut i) u).management = u.management ∧
      (l.foldl (fun t i => t.ageOut i) u).params = u.params ∧
      (l.foldl (fun t i => t.ageOut i) u).outputs = u.outputs ∧
      (l.foldl (fun t i => t.ageOut i) u).freeDraws = u.freeDraws ∧
      (l.foldl (fun t i => t.ageOut i) u).pending = u.pending
      from h (List.finRange 64) _
  intro l
  induction l with
  | nil => simp
  | cons i l ih =>
    intro u
    simp [ih (u.ageOut i)]

@[simp] theorem trunkUp_frame (s : State) :
    s.trunkUp.stations = s.stations ∧ s.trunkUp.stream = s.stream ∧ s.trunkUp.pool = s.pool ∧
    s.trunkUp.reassembly = s.reassembly ∧ s.trunkUp.classifier = s.classifier ∧ s.trunkUp.program = s.program ∧
    s.trunkUp.delivery = s.delivery ∧ s.trunkUp.uplink = s.uplink ∧ s.trunkUp.management = s.management ∧
    s.trunkUp.params = s.params ∧ s.trunkUp.outputs = s.outputs ∧ s.trunkUp.freeDraws = s.freeDraws ∧
    s.trunkUp.pending = s.pending := by
  simp only [State.trunkUp]
  (repeat' split) <;> simp

@[simp] theorem trunkLoss_frame (s : State) :
    s.trunkLoss.stream = s.stream ∧ s.trunkLoss.classifier = s.classifier ∧ s.trunkLoss.program = s.program ∧
    s.trunkLoss.delivery = s.delivery ∧ s.trunkLoss.uplink = s.uplink ∧ s.trunkLoss.management = s.management ∧
    s.trunkLoss.params = s.params ∧ s.trunkLoss.outputs = s.outputs ∧ s.trunkLoss.freeDraws = s.freeDraws ∧
    s.trunkLoss.pending = s.pending := by
  simp only [State.trunkLoss]
  (repeat' split) <;> simp

@[simp] theorem receivedCell_frame (u : LaneUnit) (s : State) :
    (s.receivedCell u).trunkTx = s.trunkTx ∧ (s.receivedCell u).pool = s.pool ∧
    (s.receivedCell u).reassembly = s.reassembly ∧ (s.receivedCell u).classifier = s.classifier ∧
    (s.receivedCell u).program = s.program ∧ (s.receivedCell u).delivery = s.delivery ∧
    (s.receivedCell u).uplink = s.uplink ∧ (s.receivedCell u).hold = s.hold ∧
    (s.receivedCell u).management = s.management ∧ (s.receivedCell u).params = s.params ∧
    (s.receivedCell u).outputs = s.outputs ∧ (s.receivedCell u).freeDraws = s.freeDraws ∧
    (s.receivedCell u).pending = s.pending := by
  simp only [State.receivedCell]
  (repeat' split) <;> simp

@[simp] theorem dataOnly_frame (s : State) :
    s.dataOnly.trunkRx = s.trunkRx ∧ s.dataOnly.classifier = s.classifier ∧ s.dataOnly.program = s.program ∧
    s.dataOnly.delivery = s.delivery ∧ s.dataOnly.uplink = s.uplink ∧ s.dataOnly.management = s.management ∧
    s.dataOnly.params = s.params ∧ s.dataOnly.outputs = s.outputs ∧ s.dataOnly.freeDraws = s.freeDraws ∧
    s.dataOnly.pending = s.pending := by
  simp only [State.dataOnly, State.takeCell]
  (repeat' split) <;> simp

@[simp] theorem dataFirst_frame (s : State) :
    s.dataFirst.trunkRx = s.trunkRx ∧ s.dataFirst.classifier = s.classifier ∧ s.dataFirst.program = s.program ∧
    s.dataFirst.delivery = s.delivery ∧ s.dataFirst.uplink = s.uplink ∧ s.dataFirst.management = s.management ∧
    s.dataFirst.params = s.params ∧ s.dataFirst.outputs = s.outputs ∧ s.dataFirst.freeDraws = s.freeDraws ∧
    s.dataFirst.pending = s.pending := by
  simp only [State.dataFirst, State.takeCell]
  (repeat' split) <;> simp

@[simp] theorem dataMiddle_frame (s : State) :
    s.dataMiddle.trunkRx = s.trunkRx ∧ s.dataMiddle.classifier = s.classifier ∧ s.dataMiddle.program = s.program ∧
    s.dataMiddle.delivery = s.delivery ∧ s.dataMiddle.uplink = s.uplink ∧ s.dataMiddle.management = s.management ∧
    s.dataMiddle.params = s.params ∧ s.dataMiddle.outputs = s.outputs ∧ s.dataMiddle.freeDraws = s.freeDraws ∧
    s.dataMiddle.pending = s.pending := by
  simp only [State.dataMiddle, State.takeCell]
  (repeat' split) <;> simp

@[simp] theorem dataLast_frame (s : State) :
    s.dataLast.trunkRx = s.trunkRx ∧ s.dataLast.classifier = s.classifier ∧ s.dataLast.program = s.program ∧
    s.dataLast.delivery = s.delivery ∧ s.dataLast.uplink = s.uplink ∧ s.dataLast.management = s.management ∧
    s.dataLast.params = s.params ∧ s.dataLast.outputs = s.outputs ∧ s.dataLast.freeDraws = s.freeDraws ∧
    s.dataLast.pending = s.pending := by
  simp only [State.dataLast, State.takeCell]
  (repeat' split) <;> simp

@[simp] theorem cellTransmissionEnd_frame (s : State) :
    s.cellTransmissionEnd.trunkRx = s.trunkRx ∧ s.cellTransmissionEnd.stations = s.stations ∧
    s.cellTransmissionEnd.stream = s.stream ∧ s.cellTransmissionEnd.pool = s.pool ∧
    s.cellTransmissionEnd.reassembly = s.reassembly ∧ s.cellTransmissionEnd.classifier = s.classifier ∧
    s.cellTransmissionEnd.program = s.program ∧ s.cellTransmissionEnd.delivery = s.delivery ∧
    s.cellTransmissionEnd.uplink = s.uplink ∧ s.cellTransmissionEnd.hold = s.hold ∧
    s.cellTransmissionEnd.management = s.management ∧ s.cellTransmissionEnd.events = s.events ∧
    s.cellTransmissionEnd.params = s.params ∧ s.cellTransmissionEnd.freeDraws = s.freeDraws ∧
    s.cellTransmissionEnd.pending = s.pending := by
  simp only [State.cellTransmissionEnd]
  (repeat' split) <;> simp

@[simp] theorem gapTimerExpiry_frame (i : Fin 48) (s : State) :
    (s.gapTimerExpiry i).trunkRx = s.trunkRx ∧ (s.gapTimerExpiry i).stream = s.stream ∧
    (s.gapTimerExpiry i).classifier = s.classifier ∧ (s.gapTimerExpiry i).program = s.program ∧
    (s.gapTimerExpiry i).delivery = s.delivery ∧ (s.gapTimerExpiry i).uplink = s.uplink ∧
    (s.gapTimerExpiry i).management = s.management ∧ (s.gapTimerExpiry i).params = s.params ∧
    (s.gapTimerExpiry i).outputs = s.outputs ∧ (s.gapTimerExpiry i).freeDraws = s.freeDraws ∧
    (s.gapTimerExpiry i).pending = s.pending := by
  simp only [State.gapTimerExpiry]
  (repeat' split) <;> simp

@[simp] theorem classifierTake_frame (s : State) :
    s.classifierTake.trunkRx = s.trunkRx ∧ s.classifierTake.trunkTx = s.trunkTx ∧
    s.classifierTake.stations = s.stations ∧ s.classifierTake.stream = s.stream ∧ s.classifierTake.pool = s.pool ∧
    s.classifierTake.program = s.program ∧ s.classifierTake.delivery = s.delivery ∧
    s.classifierTake.uplink = s.uplink ∧ s.classifierTake.hold = s.hold ∧
    s.classifierTake.management = s.management ∧ s.classifierTake.events = s.events ∧
    s.classifierTake.params = s.params ∧ s.classifierTake.outputs = s.outputs ∧
    s.classifierTake.freeDraws = s.freeDraws ∧ s.classifierTake.pending = s.pending := by
  simp only [State.classifierTake]
  (repeat' split) <;> simp

@[simp] theorem endEvaluated_frame (i : Fin 48) (m : Message) (x : Properties) (s : State) :
    (s.endEvaluated i m x).trunkRx = s.trunkRx ∧ (s.endEvaluated i m x).stations = s.stations ∧
    (s.endEvaluated i m x).stream = s.stream ∧ (s.endEvaluated i m x).uplink = s.uplink ∧
    (s.endEvaluated i m x).management = s.management ∧ (s.endEvaluated i m x).params = s.params ∧
    (s.endEvaluated i m x).outputs = s.outputs ∧ (s.endEvaluated i m x).freeDraws = s.freeDraws ∧
    (s.endEvaluated i m x).pending = s.pending := by
  simp only [State.endEvaluated]
  repeat' split
  all_goals simp

@[simp] theorem endDamaged_frame (i : Fin 48) (m : Message) (s : State) :
    (s.endDamaged i m).trunkRx = s.trunkRx ∧ (s.endDamaged i m).stations = s.stations ∧
    (s.endDamaged i m).stream = s.stream ∧ (s.endDamaged i m).program = s.program ∧
    (s.endDamaged i m).delivery = s.delivery ∧ (s.endDamaged i m).uplink = s.uplink ∧
    (s.endDamaged i m).management = s.management ∧ (s.endDamaged i m).params = s.params ∧
    (s.endDamaged i m).outputs = s.outputs ∧ (s.endDamaged i m).freeDraws = s.freeDraws ∧
    (s.endDamaged i m).pending = s.pending := by
  simp only [State.endDamaged]
  repeat' split
  all_goals simp

@[simp] theorem classificationEnd_frame (s : State) :
    s.classificationEnd.trunkRx = s.trunkRx ∧ s.classificationEnd.stations = s.stations ∧
    s.classificationEnd.stream = s.stream ∧ s.classificationEnd.uplink = s.uplink ∧
    s.classificationEnd.management = s.management ∧ s.classificationEnd.params = s.params ∧
    s.classificationEnd.outputs = s.outputs ∧ s.classificationEnd.freeDraws = s.freeDraws ∧
    s.classificationEnd.pending = s.pending := by
  simp only [State.classificationEnd]
  (repeat' split) <;> simp

@[simp] theorem idleTimerExpiry_frame (s : State) :
    s.idleTimerExpiry.trunkRx = s.trunkRx ∧ s.idleTimerExpiry.trunkTx = s.trunkTx ∧
    s.idleTimerExpiry.stations = s.stations ∧ s.idleTimerExpiry.stream = s.stream ∧
    s.idleTimerExpiry.pool = s.pool ∧ s.idleTimerExpiry.reassembly = s.reassembly ∧
    s.idleTimerExpiry.classifier = s.classifier ∧ s.idleTimerExpiry.delivery = s.delivery ∧
    s.idleTimerExpiry.uplink = s.uplink ∧ s.idleTimerExpiry.hold = s.hold ∧
    s.idleTimerExpiry.management = s.management ∧ s.idleTimerExpiry.params = s.params ∧
    s.idleTimerExpiry.outputs = s.outputs ∧ s.idleTimerExpiry.freeDraws = s.freeDraws ∧
    s.idleTimerExpiry.pending = s.pending := by
  simp only [State.idleTimerExpiry]
  (repeat' split) <;> simp

@[simp] theorem refreshTimerExpiry_frame (s : State) :
    s.refreshTimerExpiry.trunkRx = s.trunkRx ∧ s.refreshTimerExpiry.stations = s.stations ∧
    s.refreshTimerExpiry.stream = s.stream ∧ s.refreshTimerExpiry.pool = s.pool ∧
    s.refreshTimerExpiry.reassembly = s.reassembly ∧ s.refreshTimerExpiry.classifier = s.classifier ∧
    s.refreshTimerExpiry.program = s.program ∧ s.refreshTimerExpiry.delivery = s.delivery ∧
    s.refreshTimerExpiry.uplink = s.uplink ∧ s.refreshTimerExpiry.management = s.management ∧
    s.refreshTimerExpiry.events = s.events ∧ s.refreshTimerExpiry.params = s.params ∧
    s.refreshTimerExpiry.outputs = s.outputs ∧ s.refreshTimerExpiry.freeDraws = s.freeDraws ∧
    s.refreshTimerExpiry.pending = s.pending := by
  simp only [State.refreshTimerExpiry]
  (repeat' split) <;> simp

@[simp] theorem coalescingTimerExpiry_frame (s : State) :
    s.coalescingTimerExpiry.trunkRx = s.trunkRx ∧ s.coalescingTimerExpiry.trunkTx = s.trunkTx ∧
    s.coalescingTimerExpiry.stations = s.stations ∧ s.coalescingTimerExpiry.stream = s.stream ∧
    s.coalescingTimerExpiry.pool = s.pool ∧ s.coalescingTimerExpiry.reassembly = s.reassembly ∧
    s.coalescingTimerExpiry.classifier = s.classifier ∧ s.coalescingTimerExpiry.program = s.program ∧
    s.coalescingTimerExpiry.delivery = s.delivery ∧ s.coalescingTimerExpiry.uplink = s.uplink ∧
    s.coalescingTimerExpiry.hold = s.hold ∧ s.coalescingTimerExpiry.management = s.management ∧
    s.coalescingTimerExpiry.params = s.params ∧ s.coalescingTimerExpiry.outputs = s.outputs ∧
    s.coalescingTimerExpiry.freeDraws = s.freeDraws ∧ s.coalescingTimerExpiry.pending = s.pending := by
  simp only [State.coalescingTimerExpiry]
  repeat' split
  all_goals simp

@[simp] theorem uplinkSignal_frame (s : State) :
    s.uplinkSignal.trunkRx = s.trunkRx ∧ s.uplinkSignal.trunkTx = s.trunkTx ∧
    s.uplinkSignal.stations = s.stations ∧ s.uplinkSignal.stream = s.stream ∧ s.uplinkSignal.pool = s.pool ∧
    s.uplinkSignal.reassembly = s.reassembly ∧ s.uplinkSignal.classifier = s.classifier ∧
    s.uplinkSignal.program = s.program ∧ s.uplinkSignal.delivery = s.delivery ∧ s.uplinkSignal.hold = s.hold ∧
    s.uplinkSignal.management = s.management ∧ s.uplinkSignal.events = s.events ∧
    s.uplinkSignal.params = s.params ∧ s.uplinkSignal.outputs = s.outputs ∧
    s.uplinkSignal.freeDraws = s.freeDraws ∧ s.uplinkSignal.pending = s.pending := by
  simp only [State.uplinkSignal]
  (repeat' split) <;> simp

@[simp] theorem trainingComplete_frame (s : State) :
    s.trainingComplete.trunkRx = s.trunkRx ∧ s.trainingComplete.trunkTx = s.trunkTx ∧
    s.trainingComplete.stations = s.stations ∧ s.trainingComplete.stream = s.stream ∧
    s.trainingComplete.pool = s.pool ∧ s.trainingComplete.reassembly = s.reassembly ∧
    s.trainingComplete.classifier = s.classifier ∧ s.trainingComplete.program = s.program ∧
    s.trainingComplete.delivery = s.delivery ∧ s.trainingComplete.hold = s.hold ∧
    s.trainingComplete.management = s.management ∧ s.trainingComplete.events = s.events ∧
    s.trainingComplete.params = s.params ∧ s.trainingComplete.outputs = s.outputs ∧
    s.trainingComplete.freeDraws = s.freeDraws ∧ s.trainingComplete.pending = s.pending := by
  simp only [State.trainingComplete]
  (repeat' split) <;> simp

@[simp] theorem uplinkDown_frame (s : State) :
    s.uplinkDown.trunkRx = s.trunkRx ∧ s.uplinkDown.trunkTx = s.trunkTx ∧ s.uplinkDown.stations = s.stations ∧
    s.uplinkDown.stream = s.stream ∧ s.uplinkDown.pool = s.pool ∧ s.uplinkDown.reassembly = s.reassembly ∧
    s.uplinkDown.classifier = s.classifier ∧ s.uplinkDown.hold = s.hold ∧ s.uplinkDown.params = s.params ∧
    s.uplinkDown.outputs = s.outputs ∧ s.uplinkDown.freeDraws = s.freeDraws ∧ s.uplinkDown.pending = s.pending := by
  simp only [State.uplinkDown]
  (repeat' split) <;> simp

@[simp] theorem responseFrameStart_frame (s : State) :
    s.responseFrameStart.trunkRx = s.trunkRx ∧ s.responseFrameStart.trunkTx = s.trunkTx ∧
    s.responseFrameStart.stations = s.stations ∧ s.responseFrameStart.stream = s.stream ∧
    s.responseFrameStart.pool = s.pool ∧ s.responseFrameStart.reassembly = s.reassembly ∧
    s.responseFrameStart.classifier = s.classifier ∧ s.responseFrameStart.program = s.program ∧
    s.responseFrameStart.delivery = s.delivery ∧ s.responseFrameStart.hold = s.hold ∧
    s.responseFrameStart.management = s.management ∧ s.responseFrameStart.events = s.events ∧
    s.responseFrameStart.params = s.params ∧ s.responseFrameStart.outputs = s.outputs ∧
    s.responseFrameStart.freeDraws = s.freeDraws ∧ s.responseFrameStart.pending = s.pending := by
  simp only [State.responseFrameStart]
  (repeat' split) <;> simp

@[simp] theorem responseFrameEnd_frame (s : State) :
    s.responseFrameEnd.trunkRx = s.trunkRx ∧ s.responseFrameEnd.trunkTx = s.trunkTx ∧
    s.responseFrameEnd.stations = s.stations ∧ s.responseFrameEnd.stream = s.stream ∧
    s.responseFrameEnd.pool = s.pool ∧ s.responseFrameEnd.reassembly = s.reassembly ∧
    s.responseFrameEnd.classifier = s.classifier ∧ s.responseFrameEnd.program = s.program ∧
    s.responseFrameEnd.delivery = s.delivery ∧ s.responseFrameEnd.hold = s.hold ∧
    s.responseFrameEnd.events = s.events ∧ s.responseFrameEnd.params = s.params ∧
    s.responseFrameEnd.freeDraws = s.freeDraws ∧ s.responseFrameEnd.pending = s.pending := by
  simp only [State.responseFrameEnd]
  (repeat' split) <;> simp

@[simp] theorem eventFrameStart_frame (s : State) :
    s.eventFrameStart.trunkRx = s.trunkRx ∧ s.eventFrameStart.trunkTx = s.trunkTx ∧
    s.eventFrameStart.stations = s.stations ∧ s.eventFrameStart.stream = s.stream ∧
    s.eventFrameStart.pool = s.pool ∧ s.eventFrameStart.reassembly = s.reassembly ∧
    s.eventFrameStart.classifier = s.classifier ∧ s.eventFrameStart.program = s.program ∧
    s.eventFrameStart.delivery = s.delivery ∧ s.eventFrameStart.hold = s.hold ∧
    s.eventFrameStart.management = s.management ∧ s.eventFrameStart.params = s.params ∧
    s.eventFrameStart.outputs = s.outputs ∧ s.eventFrameStart.freeDraws = s.freeDraws ∧
    s.eventFrameStart.pending = s.pending := by
  simp only [State.eventFrameStart]
  (repeat' split) <;> simp

@[simp] theorem eventFrameEnd_frame (s : State) :
    s.eventFrameEnd.trunkRx = s.trunkRx ∧ s.eventFrameEnd.trunkTx = s.trunkTx ∧
    s.eventFrameEnd.stations = s.stations ∧ s.eventFrameEnd.stream = s.stream ∧ s.eventFrameEnd.pool = s.pool ∧
    s.eventFrameEnd.reassembly = s.reassembly ∧ s.eventFrameEnd.classifier = s.classifier ∧
    s.eventFrameEnd.program = s.program ∧ s.eventFrameEnd.delivery = s.delivery ∧ s.eventFrameEnd.hold = s.hold ∧
    s.eventFrameEnd.management = s.management ∧ s.eventFrameEnd.params = s.params ∧
    s.eventFrameEnd.freeDraws = s.freeDraws ∧ s.eventFrameEnd.pending = s.pending := by
  simp only [State.eventFrameEnd]
  (repeat' split) <;> simp

@[simp] theorem deliveryFrameStart_frame (s : State) :
    s.deliveryFrameStart.trunkRx = s.trunkRx ∧ s.deliveryFrameStart.trunkTx = s.trunkTx ∧
    s.deliveryFrameStart.stations = s.stations ∧ s.deliveryFrameStart.stream = s.stream ∧
    s.deliveryFrameStart.pool = s.pool ∧ s.deliveryFrameStart.reassembly = s.reassembly ∧
    s.deliveryFrameStart.classifier = s.classifier ∧ s.deliveryFrameStart.program = s.program ∧
    s.deliveryFrameStart.hold = s.hold ∧ s.deliveryFrameStart.management = s.management ∧
    s.deliveryFrameStart.events = s.events ∧ s.deliveryFrameStart.params = s.params ∧
    s.deliveryFrameStart.outputs = s.outputs ∧ s.deliveryFrameStart.freeDraws = s.freeDraws ∧
    s.deliveryFrameStart.pending = s.pending := by
  simp only [State.deliveryFrameStart]
  (repeat' split) <;> simp

@[simp] theorem deliveryFrameEnd_frame (s : State) :
    s.deliveryFrameEnd.trunkRx = s.trunkRx ∧ s.deliveryFrameEnd.stations = s.stations ∧
    s.deliveryFrameEnd.stream = s.stream ∧ s.deliveryFrameEnd.reassembly = s.reassembly ∧
    s.deliveryFrameEnd.classifier = s.classifier ∧ s.deliveryFrameEnd.program = s.program ∧
    s.deliveryFrameEnd.management = s.management ∧ s.deliveryFrameEnd.params = s.params ∧
    s.deliveryFrameEnd.freeDraws = s.freeDraws ∧ s.deliveryFrameEnd.pending = s.pending := by
  simp only [State.deliveryFrameEnd]
  (repeat' split) <;> simp

@[simp] theorem deliveryMemoryError_frame (s : State) :
    s.deliveryMemoryError.trunkRx = s.trunkRx ∧ s.deliveryMemoryError.stations = s.stations ∧
    s.deliveryMemoryError.stream = s.stream ∧ s.deliveryMemoryError.reassembly = s.reassembly ∧
    s.deliveryMemoryError.classifier = s.classifier ∧ s.deliveryMemoryError.program = s.program ∧
    s.deliveryMemoryError.management = s.management ∧ s.deliveryMemoryError.params = s.params ∧
    s.deliveryMemoryError.outputs = s.outputs ∧ s.deliveryMemoryError.freeDraws = s.freeDraws ∧
    s.deliveryMemoryError.pending = s.pending := by
  simp only [State.deliveryMemoryError]
  (repeat' split) <;> simp

@[simp] theorem removalWork_frame (s : State) :
    s.removalWork.trunkRx = s.trunkRx ∧ s.removalWork.classifier = s.classifier ∧
    s.removalWork.program = s.program ∧ s.removalWork.delivery = s.delivery ∧ s.removalWork.uplink = s.uplink ∧
    s.removalWork.params = s.params ∧ s.removalWork.outputs = s.outputs ∧ s.removalWork.freeDraws = s.freeDraws ∧
    s.removalWork.pending = s.pending := by
  unfold State.removalWork; split <;> simp

@[simp] theorem badTag_frame (s : State) :
    s.badTag.trunkRx = s.trunkRx ∧ s.badTag.trunkTx = s.trunkTx ∧ s.badTag.stations = s.stations ∧
    s.badTag.stream = s.stream ∧ s.badTag.pool = s.pool ∧ s.badTag.reassembly = s.reassembly ∧
    s.badTag.classifier = s.classifier ∧ s.badTag.program = s.program ∧ s.badTag.delivery = s.delivery ∧
    s.badTag.uplink = s.uplink ∧ s.badTag.hold = s.hold ∧ s.badTag.events = s.events ∧ s.badTag.params = s.params ∧
    s.badTag.outputs = s.outputs ∧ s.badTag.freeDraws = s.freeDraws ∧ s.badTag.pending = s.pending := by
  simp only [State.badTag]
  (repeat' split) <;> simp

@[simp] theorem retryMatch_frame (s : State) :
    s.retryMatch.trunkRx = s.trunkRx ∧ s.retryMatch.trunkTx = s.trunkTx ∧ s.retryMatch.stations = s.stations ∧
    s.retryMatch.stream = s.stream ∧ s.retryMatch.pool = s.pool ∧ s.retryMatch.reassembly = s.reassembly ∧
    s.retryMatch.classifier = s.classifier ∧ s.retryMatch.program = s.program ∧
    s.retryMatch.delivery = s.delivery ∧ s.retryMatch.uplink = s.uplink ∧ s.retryMatch.hold = s.hold ∧
    s.retryMatch.events = s.events ∧ s.retryMatch.params = s.params ∧ s.retryMatch.outputs = s.outputs ∧
    s.retryMatch.freeDraws = s.freeDraws ∧ s.retryMatch.pending = s.pending := by
  simp only [State.retryMatch]
  (repeat' split) <;> simp

@[simp] theorem badKind_frame (s : State) :
    s.badKind.trunkRx = s.trunkRx ∧ s.badKind.trunkTx = s.trunkTx ∧ s.badKind.stations = s.stations ∧
    s.badKind.stream = s.stream ∧ s.badKind.pool = s.pool ∧ s.badKind.reassembly = s.reassembly ∧
    s.badKind.classifier = s.classifier ∧ s.badKind.program = s.program ∧ s.badKind.delivery = s.delivery ∧
    s.badKind.uplink = s.uplink ∧ s.badKind.hold = s.hold ∧ s.badKind.events = s.events ∧
    s.badKind.params = s.params ∧ s.badKind.outputs = s.outputs ∧ s.badKind.freeDraws = s.freeDraws ∧
    s.badKind.pending = s.pending := by
  simp only [State.badKind]
  (repeat' split) <;> simp

@[simp] theorem getStatus_frame (t : Fin 4) (r : Request) (s : State) :
    (State.getStatus t r s).1.trunkRx = s.trunkRx ∧ (State.getStatus t r s).1.trunkTx = s.trunkTx ∧
    (State.getStatus t r s).1.stations = s.stations ∧ (State.getStatus t r s).1.stream = s.stream ∧
    (State.getStatus t r s).1.pool = s.pool ∧ (State.getStatus t r s).1.reassembly = s.reassembly ∧
    (State.getStatus t r s).1.classifier = s.classifier ∧ (State.getStatus t r s).1.program = s.program ∧
    (State.getStatus t r s).1.delivery = s.delivery ∧ (State.getStatus t r s).1.uplink = s.uplink ∧
    (State.getStatus t r s).1.hold = s.hold ∧ (State.getStatus t r s).1.events = s.events ∧
    (State.getStatus t r s).1.params = s.params ∧ (State.getStatus t r s).1.outputs = s.outputs ∧
    (State.getStatus t r s).1.freeDraws = s.freeDraws ∧ (State.getStatus t r s).1.pending = s.pending := by
  simp only [State.getStatus, State.reply]
  repeat' split
  all_goals simp

@[simp] theorem getParam_frame (t : Fin 4) (r : Request) (s : State) :
    (State.getParam t r s).1.trunkRx = s.trunkRx ∧ (State.getParam t r s).1.trunkTx = s.trunkTx ∧
    (State.getParam t r s).1.stations = s.stations ∧ (State.getParam t r s).1.stream = s.stream ∧
    (State.getParam t r s).1.pool = s.pool ∧ (State.getParam t r s).1.reassembly = s.reassembly ∧
    (State.getParam t r s).1.classifier = s.classifier ∧ (State.getParam t r s).1.program = s.program ∧
    (State.getParam t r s).1.delivery = s.delivery ∧ (State.getParam t r s).1.uplink = s.uplink ∧
    (State.getParam t r s).1.hold = s.hold ∧ (State.getParam t r s).1.events = s.events ∧
    (State.getParam t r s).1.params = s.params ∧ (State.getParam t r s).1.outputs = s.outputs ∧
    (State.getParam t r s).1.freeDraws = s.freeDraws ∧ (State.getParam t r s).1.pending = s.pending := by
  simp only [State.getParam, State.reply]
  (repeat' split) <;> simp

@[simp] theorem setParam_frame (t : Fin 4) (r : Request) (s : State) :
    (State.setParam t r s).1.trunkRx = s.trunkRx ∧ (State.setParam t r s).1.stations = s.stations ∧
    (State.setParam t r s).1.stream = s.stream ∧ (State.setParam t r s).1.pool = s.pool ∧
    (State.setParam t r s).1.reassembly = s.reassembly ∧ (State.setParam t r s).1.classifier = s.classifier ∧
    (State.setParam t r s).1.program = s.program ∧ (State.setParam t r s).1.delivery = s.delivery ∧
    (State.setParam t r s).1.uplink = s.uplink ∧ (State.setParam t r s).1.outputs = s.outputs ∧
    (State.setParam t r s).1.freeDraws = s.freeDraws ∧ (State.setParam t r s).1.pending = s.pending := by
  simp only [State.setParam, State.reply]
  (repeat' split) <;> simp

@[simp] theorem setRights_frame (t : Fin 4) (r : Request) (s : State) :
    (State.setRights t r s).1.trunkRx = s.trunkRx ∧ (State.setRights t r s).1.trunkTx = s.trunkTx ∧
    (State.setRights t r s).1.stations = s.stations ∧ (State.setRights t r s).1.stream = s.stream ∧
    (State.setRights t r s).1.pool = s.pool ∧ (State.setRights t r s).1.reassembly = s.reassembly ∧
    (State.setRights t r s).1.classifier = s.classifier ∧ (State.setRights t r s).1.program = s.program ∧
    (State.setRights t r s).1.delivery = s.delivery ∧ (State.setRights t r s).1.uplink = s.uplink ∧
    (State.setRights t r s).1.hold = s.hold ∧ (State.setRights t r s).1.events = s.events ∧
    (State.setRights t r s).1.params = s.params ∧ (State.setRights t r s).1.outputs = s.outputs ∧
    (State.setRights t r s).1.freeDraws = s.freeDraws ∧ (State.setRights t r s).1.pending = s.pending := by
  simp only [State.setRights, State.reply]
  (repeat' split) <;> simp

@[simp] theorem softRestart_frame (t : Fin 4) (r : Request) (s : State) :
    (State.softRestart t r s).1.trunkRx = s.trunkRx ∧ (State.softRestart t r s).1.stream = s.stream ∧
    (State.softRestart t r s).1.params = s.params ∧ (State.softRestart t r s).1.outputs = s.outputs ∧
    (State.softRestart t r s).1.pending = s.pending := by
  simp only [State.softRestart, State.reply]
  repeat' split
  all_goals simp

@[simp] theorem readStation_frame (t : Fin 4) (r : Request) (s : State) :
    (State.readStation t r s).1.trunkRx = s.trunkRx ∧ (State.readStation t r s).1.trunkTx = s.trunkTx ∧
    (State.readStation t r s).1.stations = s.stations ∧ (State.readStation t r s).1.stream = s.stream ∧
    (State.readStation t r s).1.pool = s.pool ∧ (State.readStation t r s).1.reassembly = s.reassembly ∧
    (State.readStation t r s).1.classifier = s.classifier ∧ (State.readStation t r s).1.program = s.program ∧
    (State.readStation t r s).1.delivery = s.delivery ∧ (State.readStation t r s).1.uplink = s.uplink ∧
    (State.readStation t r s).1.hold = s.hold ∧ (State.readStation t r s).1.events = s.events ∧
    (State.readStation t r s).1.params = s.params ∧ (State.readStation t r s).1.outputs = s.outputs ∧
    (State.readStation t r s).1.freeDraws = s.freeDraws ∧ (State.readStation t r s).1.pending = s.pending := by
  simp only [State.readStation, State.reply]
  (repeat' split) <;> simp

@[simp] theorem listStations_frame (t : Fin 4) (r : Request) (s : State) :
    (State.listStations t r s).1.trunkRx = s.trunkRx ∧ (State.listStations t r s).1.trunkTx = s.trunkTx ∧
    (State.listStations t r s).1.stations = s.stations ∧ (State.listStations t r s).1.stream = s.stream ∧
    (State.listStations t r s).1.pool = s.pool ∧ (State.listStations t r s).1.reassembly = s.reassembly ∧
    (State.listStations t r s).1.classifier = s.classifier ∧ (State.listStations t r s).1.program = s.program ∧
    (State.listStations t r s).1.delivery = s.delivery ∧ (State.listStations t r s).1.uplink = s.uplink ∧
    (State.listStations t r s).1.hold = s.hold ∧ (State.listStations t r s).1.events = s.events ∧
    (State.listStations t r s).1.params = s.params ∧ (State.listStations t r s).1.outputs = s.outputs ∧
    (State.listStations t r s).1.freeDraws = s.freeDraws ∧ (State.listStations t r s).1.pending = s.pending := by
  simp only [State.listStations, State.reply]
  (repeat' split) <;> simp

@[simp] theorem pinStation_frame (t : Fin 4) (r : Request) (s : State) :
    (State.pinStation t r s).1.trunkRx = s.trunkRx ∧ (State.pinStation t r s).1.trunkTx = s.trunkTx ∧
    (State.pinStation t r s).1.stream = s.stream ∧ (State.pinStation t r s).1.pool = s.pool ∧
    (State.pinStation t r s).1.reassembly = s.reassembly ∧ (State.pinStation t r s).1.classifier = s.classifier ∧
    (State.pinStation t r s).1.program = s.program ∧ (State.pinStation t r s).1.delivery = s.delivery ∧
    (State.pinStation t r s).1.uplink = s.uplink ∧ (State.pinStation t r s).1.hold = s.hold ∧
    (State.pinStation t r s).1.events = s.events ∧ (State.pinStation t r s).1.params = s.params ∧
    (State.pinStation t r s).1.outputs = s.outputs ∧ (State.pinStation t r s).1.freeDraws = s.freeDraws ∧
    (State.pinStation t r s).1.pending = s.pending := by
  simp only [State.pinStation, State.reply]
  (repeat' split) <;> simp

@[simp] theorem unpinStation_frame (t : Fin 4) (r : Request) (s : State) :
    (State.unpinStation t r s).1.trunkRx = s.trunkRx ∧ (State.unpinStation t r s).1.trunkTx = s.trunkTx ∧
    (State.unpinStation t r s).1.stream = s.stream ∧ (State.unpinStation t r s).1.pool = s.pool ∧
    (State.unpinStation t r s).1.reassembly = s.reassembly ∧
    (State.unpinStation t r s).1.classifier = s.classifier ∧ (State.unpinStation t r s).1.program = s.program ∧
    (State.unpinStation t r s).1.delivery = s.delivery ∧ (State.unpinStation t r s).1.uplink = s.uplink ∧
    (State.unpinStation t r s).1.hold = s.hold ∧ (State.unpinStation t r s).1.events = s.events ∧
    (State.unpinStation t r s).1.params = s.params ∧ (State.unpinStation t r s).1.outputs = s.outputs ∧
    (State.unpinStation t r s).1.freeDraws = s.freeDraws ∧ (State.unpinStation t r s).1.pending = s.pending := by
  simp only [State.unpinStation, State.reply]
  (repeat' split) <;> simp

@[simp] theorem removeStation_frame (t : Fin 4) (r : Request) (s : State) :
    (State.removeStation t r s).1.trunkRx = s.trunkRx ∧ (State.removeStation t r s).1.trunkTx = s.trunkTx ∧
    (State.removeStation t r s).1.pool = s.pool ∧ (State.removeStation t r s).1.reassembly = s.reassembly ∧
    (State.removeStation t r s).1.classifier = s.classifier ∧ (State.removeStation t r s).1.program = s.program ∧
    (State.removeStation t r s).1.delivery = s.delivery ∧ (State.removeStation t r s).1.uplink = s.uplink ∧
    (State.removeStation t r s).1.hold = s.hold ∧ (State.removeStation t r s).1.events = s.events ∧
    (State.removeStation t r s).1.params = s.params ∧ (State.removeStation t r s).1.outputs = s.outputs ∧
    (State.removeStation t r s).1.freeDraws = s.freeDraws ∧ (State.removeStation t r s).1.pending = s.pending := by
  simp only [State.removeStation, State.handRemoval, State.reply]
  (repeat' split) <;> simp

@[simp] theorem flushLearned_frame (t : Fin 4) (r : Request) (s : State) :
    (State.flushLearned t r s).1.trunkRx = s.trunkRx ∧ (State.flushLearned t r s).1.trunkTx = s.trunkTx ∧
    (State.flushLearned t r s).1.pool = s.pool ∧ (State.flushLearned t r s).1.reassembly = s.reassembly ∧
    (State.flushLearned t r s).1.classifier = s.classifier ∧ (State.flushLearned t r s).1.program = s.program ∧
    (State.flushLearned t r s).1.delivery = s.delivery ∧ (State.flushLearned t r s).1.uplink = s.uplink ∧
    (State.flushLearned t r s).1.hold = s.hold ∧ (State.flushLearned t r s).1.events = s.events ∧
    (State.flushLearned t r s).1.params = s.params ∧ (State.flushLearned t r s).1.outputs = s.outputs ∧
    (State.flushLearned t r s).1.freeDraws = s.freeDraws ∧ (State.flushLearned t r s).1.pending = s.pending := by
  simp only [State.flushLearned, State.handRemoval]
  repeat' split
  all_goals simp

@[simp] theorem readContext_frame (t : Fin 4) (r : Request) (s : State) :
    (State.readContext t r s).1.trunkRx = s.trunkRx ∧ (State.readContext t r s).1.trunkTx = s.trunkTx ∧
    (State.readContext t r s).1.stations = s.stations ∧ (State.readContext t r s).1.stream = s.stream ∧
    (State.readContext t r s).1.pool = s.pool ∧ (State.readContext t r s).1.reassembly = s.reassembly ∧
    (State.readContext t r s).1.classifier = s.classifier ∧ (State.readContext t r s).1.program = s.program ∧
    (State.readContext t r s).1.delivery = s.delivery ∧ (State.readContext t r s).1.uplink = s.uplink ∧
    (State.readContext t r s).1.hold = s.hold ∧ (State.readContext t r s).1.events = s.events ∧
    (State.readContext t r s).1.params = s.params ∧ (State.readContext t r s).1.outputs = s.outputs ∧
    (State.readContext t r s).1.freeDraws = s.freeDraws ∧ (State.readContext t r s).1.pending = s.pending := by
  simp only [State.readContext, State.reply]
  (repeat' split) <;> simp

@[simp] theorem readPool_frame (t : Fin 4) (r : Request) (s : State) :
    (State.readPool t r s).1.trunkRx = s.trunkRx ∧ (State.readPool t r s).1.trunkTx = s.trunkTx ∧
    (State.readPool t r s).1.stations = s.stations ∧ (State.readPool t r s).1.stream = s.stream ∧
    (State.readPool t r s).1.pool = s.pool ∧ (State.readPool t r s).1.reassembly = s.reassembly ∧
    (State.readPool t r s).1.classifier = s.classifier ∧ (State.readPool t r s).1.program = s.program ∧
    (State.readPool t r s).1.delivery = s.delivery ∧ (State.readPool t r s).1.uplink = s.uplink ∧
    (State.readPool t r s).1.hold = s.hold ∧ (State.readPool t r s).1.events = s.events ∧
    (State.readPool t r s).1.params = s.params ∧ (State.readPool t r s).1.outputs = s.outputs ∧
    (State.readPool t r s).1.freeDraws = s.freeDraws ∧ (State.readPool t r s).1.pending = s.pending := by
  simp only [State.readPool, State.reply]
  repeat' split
  all_goals simp

@[simp] theorem readClauseActive_frame (t : Fin 4) (r : Request) (s : State) :
    (State.readClauseActive t r s).1.trunkRx = s.trunkRx ∧ (State.readClauseActive t r s).1.trunkTx = s.trunkTx ∧
    (State.readClauseActive t r s).1.stations = s.stations ∧ (State.readClauseActive t r s).1.stream = s.stream ∧
    (State.readClauseActive t r s).1.pool = s.pool ∧ (State.readClauseActive t r s).1.reassembly = s.reassembly ∧
    (State.readClauseActive t r s).1.classifier = s.classifier ∧
    (State.readClauseActive t r s).1.program = s.program ∧ (State.readClauseActive t r s).1.delivery = s.delivery ∧
    (State.readClauseActive t r s).1.uplink = s.uplink ∧ (State.readClauseActive t r s).1.hold = s.hold ∧
    (State.readClauseActive t r s).1.events = s.events ∧ (State.readClauseActive t r s).1.params = s.params ∧
    (State.readClauseActive t r s).1.outputs = s.outputs ∧
    (State.readClauseActive t r s).1.freeDraws = s.freeDraws ∧ (State.readClauseActive t r s).1.pending = s.pending := by
  simp only [State.readClauseActive, State.reply]
  (repeat' split) <;> simp

@[simp] theorem readClauseStaging_frame (t : Fin 4) (r : Request) (s : State) :
    (State.readClauseStaging t r s).1.trunkRx = s.trunkRx ∧ (State.readClauseStaging t r s).1.trunkTx = s.trunkTx ∧
    (State.readClauseStaging t r s).1.stations = s.stations ∧ (State.readClauseStaging t r s).1.stream = s.stream ∧
    (State.readClauseStaging t r s).1.pool = s.pool ∧ (State.readClauseStaging t r s).1.reassembly = s.reassembly ∧
    (State.readClauseStaging t r s).1.classifier = s.classifier ∧
    (State.readClauseStaging t r s).1.program = s.program ∧
    (State.readClauseStaging t r s).1.delivery = s.delivery ∧ (State.readClauseStaging t r s).1.uplink = s.uplink ∧
    (State.readClauseStaging t r s).1.hold = s.hold ∧ (State.readClauseStaging t r s).1.events = s.events ∧
    (State.readClauseStaging t r s).1.params = s.params ∧ (State.readClauseStaging t r s).1.outputs = s.outputs ∧
    (State.readClauseStaging t r s).1.freeDraws = s.freeDraws ∧
    (State.readClauseStaging t r s).1.pending = s.pending := by
  simp only [State.readClauseStaging, State.reply]
  (repeat' split) <;> simp

@[simp] theorem readHits_frame (t : Fin 4) (r : Request) (s : State) :
    (State.readHits t r s).1.trunkRx = s.trunkRx ∧ (State.readHits t r s).1.trunkTx = s.trunkTx ∧
    (State.readHits t r s).1.stations = s.stations ∧ (State.readHits t r s).1.stream = s.stream ∧
    (State.readHits t r s).1.pool = s.pool ∧ (State.readHits t r s).1.reassembly = s.reassembly ∧
    (State.readHits t r s).1.classifier = s.classifier ∧ (State.readHits t r s).1.program = s.program ∧
    (State.readHits t r s).1.delivery = s.delivery ∧ (State.readHits t r s).1.uplink = s.uplink ∧
    (State.readHits t r s).1.hold = s.hold ∧ (State.readHits t r s).1.events = s.events ∧
    (State.readHits t r s).1.params = s.params ∧ (State.readHits t r s).1.outputs = s.outputs ∧
    (State.readHits t r s).1.freeDraws = s.freeDraws ∧ (State.readHits t r s).1.pending = s.pending := by
  simp only [State.readHits, State.reply]
  repeat' split
  all_goals simp

@[simp] theorem openEdit_frame (t : Fin 4) (r : Request) (s : State) :
    (State.openEdit t r s).1.trunkRx = s.trunkRx ∧ (State.openEdit t r s).1.trunkTx = s.trunkTx ∧
    (State.openEdit t r s).1.stations = s.stations ∧ (State.openEdit t r s).1.stream = s.stream ∧
    (State.openEdit t r s).1.pool = s.pool ∧ (State.openEdit t r s).1.reassembly = s.reassembly ∧
    (State.openEdit t r s).1.classifier = s.classifier ∧ (State.openEdit t r s).1.delivery = s.delivery ∧
    (State.openEdit t r s).1.uplink = s.uplink ∧ (State.openEdit t r s).1.hold = s.hold ∧
    (State.openEdit t r s).1.events = s.events ∧ (State.openEdit t r s).1.params = s.params ∧
    (State.openEdit t r s).1.outputs = s.outputs ∧ (State.openEdit t r s).1.freeDraws = s.freeDraws ∧
    (State.openEdit t r s).1.pending = s.pending := by
  simp only [State.openEdit, State.reply]
  (repeat' split) <;> simp

@[simp] theorem writeClause_frame (t : Fin 4) (r : Request) (s : State) :
    (State.writeClause t r s).1.trunkRx = s.trunkRx ∧ (State.writeClause t r s).1.trunkTx = s.trunkTx ∧
    (State.writeClause t r s).1.stations = s.stations ∧ (State.writeClause t r s).1.stream = s.stream ∧
    (State.writeClause t r s).1.pool = s.pool ∧ (State.writeClause t r s).1.reassembly = s.reassembly ∧
    (State.writeClause t r s).1.classifier = s.classifier ∧ (State.writeClause t r s).1.delivery = s.delivery ∧
    (State.writeClause t r s).1.uplink = s.uplink ∧ (State.writeClause t r s).1.hold = s.hold ∧
    (State.writeClause t r s).1.events = s.events ∧ (State.writeClause t r s).1.params = s.params ∧
    (State.writeClause t r s).1.outputs = s.outputs ∧ (State.writeClause t r s).1.freeDraws = s.freeDraws ∧
    (State.writeClause t r s).1.pending = s.pending := by
  simp only [State.writeClause, State.forHolder, State.writeStaging, State.reply]
  (repeat' split) <;> simp

@[simp] theorem writeProbes_frame (t : Fin 4) (r : Request) (s : State) :
    (State.writeProbes t r s).1.trunkRx = s.trunkRx ∧ (State.writeProbes t r s).1.trunkTx = s.trunkTx ∧
    (State.writeProbes t r s).1.stations = s.stations ∧ (State.writeProbes t r s).1.stream = s.stream ∧
    (State.writeProbes t r s).1.pool = s.pool ∧ (State.writeProbes t r s).1.reassembly = s.reassembly ∧
    (State.writeProbes t r s).1.classifier = s.classifier ∧ (State.writeProbes t r s).1.delivery = s.delivery ∧
    (State.writeProbes t r s).1.uplink = s.uplink ∧ (State.writeProbes t r s).1.hold = s.hold ∧
    (State.writeProbes t r s).1.events = s.events ∧ (State.writeProbes t r s).1.params = s.params ∧
    (State.writeProbes t r s).1.outputs = s.outputs ∧ (State.writeProbes t r s).1.freeDraws = s.freeDraws ∧
    (State.writeProbes t r s).1.pending = s.pending := by
  simp only [State.writeProbes, State.forHolder, State.writeStaging, State.reply]
  (repeat' split) <;> simp

@[simp] theorem setDefault_frame (t : Fin 4) (r : Request) (s : State) :
    (State.setDefault t r s).1.trunkRx = s.trunkRx ∧ (State.setDefault t r s).1.trunkTx = s.trunkTx ∧
    (State.setDefault t r s).1.stations = s.stations ∧ (State.setDefault t r s).1.stream = s.stream ∧
    (State.setDefault t r s).1.pool = s.pool ∧ (State.setDefault t r s).1.reassembly = s.reassembly ∧
    (State.setDefault t r s).1.classifier = s.classifier ∧ (State.setDefault t r s).1.delivery = s.delivery ∧
    (State.setDefault t r s).1.uplink = s.uplink ∧ (State.setDefault t r s).1.hold = s.hold ∧
    (State.setDefault t r s).1.events = s.events ∧ (State.setDefault t r s).1.params = s.params ∧
    (State.setDefault t r s).1.outputs = s.outputs ∧ (State.setDefault t r s).1.freeDraws = s.freeDraws ∧
    (State.setDefault t r s).1.pending = s.pending := by
  simp only [State.setDefault, State.forHolder, State.writeStaging, State.reply]
  (repeat' split) <;> simp

@[simp] theorem setCount_frame (t : Fin 4) (r : Request) (s : State) :
    (State.setCount t r s).1.trunkRx = s.trunkRx ∧ (State.setCount t r s).1.trunkTx = s.trunkTx ∧
    (State.setCount t r s).1.stations = s.stations ∧ (State.setCount t r s).1.stream = s.stream ∧
    (State.setCount t r s).1.pool = s.pool ∧ (State.setCount t r s).1.reassembly = s.reassembly ∧
    (State.setCount t r s).1.classifier = s.classifier ∧ (State.setCount t r s).1.delivery = s.delivery ∧
    (State.setCount t r s).1.uplink = s.uplink ∧ (State.setCount t r s).1.hold = s.hold ∧
    (State.setCount t r s).1.events = s.events ∧ (State.setCount t r s).1.params = s.params ∧
    (State.setCount t r s).1.outputs = s.outputs ∧ (State.setCount t r s).1.freeDraws = s.freeDraws ∧
    (State.setCount t r s).1.pending = s.pending := by
  simp only [State.setCount, State.forHolder, State.writeStaging, State.reply]
  (repeat' split) <;> simp

@[simp] theorem commit_frame (t : Fin 4) (r : Request) (s : State) :
    (State.commit t r s).1.trunkRx = s.trunkRx ∧ (State.commit t r s).1.trunkTx = s.trunkTx ∧
    (State.commit t r s).1.stations = s.stations ∧ (State.commit t r s).1.stream = s.stream ∧
    (State.commit t r s).1.pool = s.pool ∧ (State.commit t r s).1.reassembly = s.reassembly ∧
    (State.commit t r s).1.classifier = s.classifier ∧ (State.commit t r s).1.delivery = s.delivery ∧
    (State.commit t r s).1.uplink = s.uplink ∧ (State.commit t r s).1.hold = s.hold ∧
    (State.commit t r s).1.params = s.params ∧ (State.commit t r s).1.outputs = s.outputs ∧
    (State.commit t r s).1.freeDraws = s.freeDraws ∧ (State.commit t r s).1.pending = s.pending := by
  simp only [State.commit, State.forHolder, State.reply]
  (repeat' split) <;> simp

@[simp] theorem abortEdit_frame (t : Fin 4) (r : Request) (s : State) :
    (State.abortEdit t r s).1.trunkRx = s.trunkRx ∧ (State.abortEdit t r s).1.trunkTx = s.trunkTx ∧
    (State.abortEdit t r s).1.stations = s.stations ∧ (State.abortEdit t r s).1.stream = s.stream ∧
    (State.abortEdit t r s).1.pool = s.pool ∧ (State.abortEdit t r s).1.reassembly = s.reassembly ∧
    (State.abortEdit t r s).1.classifier = s.classifier ∧ (State.abortEdit t r s).1.delivery = s.delivery ∧
    (State.abortEdit t r s).1.uplink = s.uplink ∧ (State.abortEdit t r s).1.hold = s.hold ∧
    (State.abortEdit t r s).1.events = s.events ∧ (State.abortEdit t r s).1.params = s.params ∧
    (State.abortEdit t r s).1.outputs = s.outputs ∧ (State.abortEdit t r s).1.freeDraws = s.freeDraws ∧
    (State.abortEdit t r s).1.pending = s.pending := by
  simp only [State.abortEdit, State.forHolder, State.reply]
  (repeat' split) <;> simp

@[simp] theorem readQueue_frame (t : Fin 4) (r : Request) (s : State) :
    (State.readQueue t r s).1.trunkRx = s.trunkRx ∧ (State.readQueue t r s).1.trunkTx = s.trunkTx ∧
    (State.readQueue t r s).1.stations = s.stations ∧ (State.readQueue t r s).1.stream = s.stream ∧
    (State.readQueue t r s).1.pool = s.pool ∧ (State.readQueue t r s).1.reassembly = s.reassembly ∧
    (State.readQueue t r s).1.classifier = s.classifier ∧ (State.readQueue t r s).1.program = s.program ∧
    (State.readQueue t r s).1.delivery = s.delivery ∧ (State.readQueue t r s).1.uplink = s.uplink ∧
    (State.readQueue t r s).1.hold = s.hold ∧ (State.readQueue t r s).1.events = s.events ∧
    (State.readQueue t r s).1.params = s.params ∧ (State.readQueue t r s).1.outputs = s.outputs ∧
    (State.readQueue t r s).1.freeDraws = s.freeDraws ∧ (State.readQueue t r s).1.pending = s.pending := by
  simp only [State.readQueue, State.forQueue, State.reply]
  (repeat' split) <;> simp

@[simp] theorem haltQueue_frame (t : Fin 4) (r : Request) (s : State) :
    (State.haltQueue t r s).1.trunkRx = s.trunkRx ∧ (State.haltQueue t r s).1.trunkTx = s.trunkTx ∧
    (State.haltQueue t r s).1.stations = s.stations ∧ (State.haltQueue t r s).1.stream = s.stream ∧
    (State.haltQueue t r s).1.pool = s.pool ∧ (State.haltQueue t r s).1.reassembly = s.reassembly ∧
    (State.haltQueue t r s).1.classifier = s.classifier ∧ (State.haltQueue t r s).1.program = s.program ∧
    (State.haltQueue t r s).1.uplink = s.uplink ∧ (State.haltQueue t r s).1.hold = s.hold ∧
    (State.haltQueue t r s).1.events = s.events ∧ (State.haltQueue t r s).1.params = s.params ∧
    (State.haltQueue t r s).1.outputs = s.outputs ∧ (State.haltQueue t r s).1.freeDraws = s.freeDraws ∧
    (State.haltQueue t r s).1.pending = s.pending := by
  simp only [State.haltQueue, State.forQueue, State.reply]
  (repeat' split) <;> simp

@[simp] theorem restartQueue_frame (t : Fin 4) (r : Request) (s : State) :
    (State.restartQueue t r s).1.trunkRx = s.trunkRx ∧ (State.restartQueue t r s).1.trunkTx = s.trunkTx ∧
    (State.restartQueue t r s).1.stations = s.stations ∧ (State.restartQueue t r s).1.stream = s.stream ∧
    (State.restartQueue t r s).1.pool = s.pool ∧ (State.restartQueue t r s).1.reassembly = s.reassembly ∧
    (State.restartQueue t r s).1.classifier = s.classifier ∧ (State.restartQueue t r s).1.program = s.program ∧
    (State.restartQueue t r s).1.uplink = s.uplink ∧ (State.restartQueue t r s).1.hold = s.hold ∧
    (State.restartQueue t r s).1.events = s.events ∧ (State.restartQueue t r s).1.params = s.params ∧
    (State.restartQueue t r s).1.outputs = s.outputs ∧ (State.restartQueue t r s).1.freeDraws = s.freeDraws ∧
    (State.restartQueue t r s).1.pending = s.pending := by
  simp only [State.restartQueue, State.forQueue, State.reply]
  (repeat' split) <;> simp

@[simp] theorem flushQueue_frame (t : Fin 4) (r : Request) (s : State) :
    (State.flushQueue t r s).1.trunkRx = s.trunkRx ∧ (State.flushQueue t r s).1.stations = s.stations ∧
    (State.flushQueue t r s).1.stream = s.stream ∧ (State.flushQueue t r s).1.reassembly = s.reassembly ∧
    (State.flushQueue t r s).1.classifier = s.classifier ∧ (State.flushQueue t r s).1.program = s.program ∧
    (State.flushQueue t r s).1.uplink = s.uplink ∧ (State.flushQueue t r s).1.params = s.params ∧
    (State.flushQueue t r s).1.outputs = s.outputs ∧ (State.flushQueue t r s).1.freeDraws = s.freeDraws ∧
    (State.flushQueue t r s).1.pending = s.pending := by
  simp only [State.flushQueue, State.forQueue, State.reply]
  (repeat' split) <;> simp

@[simp] theorem sendHold_frame (t : Fin 4) (r : Request) (s : State) :
    (State.sendHold t r s).1.trunkRx = s.trunkRx ∧ (State.sendHold t r s).1.stations = s.stations ∧
    (State.sendHold t r s).1.stream = s.stream ∧ (State.sendHold t r s).1.pool = s.pool ∧
    (State.sendHold t r s).1.reassembly = s.reassembly ∧ (State.sendHold t r s).1.classifier = s.classifier ∧
    (State.sendHold t r s).1.program = s.program ∧ (State.sendHold t r s).1.delivery = s.delivery ∧
    (State.sendHold t r s).1.uplink = s.uplink ∧ (State.sendHold t r s).1.events = s.events ∧
    (State.sendHold t r s).1.params = s.params ∧ (State.sendHold t r s).1.outputs = s.outputs ∧
    (State.sendHold t r s).1.freeDraws = s.freeDraws ∧ (State.sendHold t r s).1.pending = s.pending := by
  simp only [State.sendHold, State.reply]
  (repeat' split) <;> simp

@[simp] theorem sendRelease_frame (t : Fin 4) (r : Request) (s : State) :
    (State.sendRelease t r s).1.trunkRx = s.trunkRx ∧ (State.sendRelease t r s).1.stations = s.stations ∧
    (State.sendRelease t r s).1.stream = s.stream ∧ (State.sendRelease t r s).1.pool = s.pool ∧
    (State.sendRelease t r s).1.reassembly = s.reassembly ∧ (State.sendRelease t r s).1.classifier = s.classifier ∧
    (State.sendRelease t r s).1.program = s.program ∧ (State.sendRelease t r s).1.delivery = s.delivery ∧
    (State.sendRelease t r s).1.uplink = s.uplink ∧ (State.sendRelease t r s).1.hold = s.hold ∧
    (State.sendRelease t r s).1.events = s.events ∧ (State.sendRelease t r s).1.params = s.params ∧
    (State.sendRelease t r s).1.outputs = s.outputs ∧ (State.sendRelease t r s).1.freeDraws = s.freeDraws ∧
    (State.sendRelease t r s).1.pending = s.pending := by
  simp only [State.sendRelease, State.reply]
  (repeat' split) <;> simp

@[simp] theorem readCounters_frame (t : Fin 4) (r : Request) (s : State) :
    (State.readCounters t r s).1.stream = s.stream ∧ (State.readCounters t r s).1.pool = s.pool ∧
    (State.readCounters t r s).1.program = s.program ∧ (State.readCounters t r s).1.hold = s.hold ∧
    (State.readCounters t r s).1.events = s.events ∧ (State.readCounters t r s).1.params = s.params ∧
    (State.readCounters t r s).1.outputs = s.outputs ∧ (State.readCounters t r s).1.freeDraws = s.freeDraws ∧
    (State.readCounters t r s).1.pending = s.pending := by
  simp only [State.readCounters, State.reply]
  (repeat' split) <;> simp

@[simp] theorem clearCounters_frame (t : Fin 4) (r : Request) (s : State) :
    (State.clearCounters t r s).1.stream = s.stream ∧ (State.clearCounters t r s).1.pool = s.pool ∧
    (State.clearCounters t r s).1.program = s.program ∧ (State.clearCounters t r s).1.hold = s.hold ∧
    (State.clearCounters t r s).1.events = s.events ∧ (State.clearCounters t r s).1.params = s.params ∧
    (State.clearCounters t r s).1.outputs = s.outputs ∧ (State.clearCounters t r s).1.freeDraws = s.freeDraws ∧
    (State.clearCounters t r s).1.pending = s.pending := by
  simp only [State.clearCounters, State.reply]
  (repeat' split) <;> simp

@[simp] theorem setEvents_frame (t : Fin 4) (r : Request) (s : State) :
    (State.setEvents t r s).1.trunkRx = s.trunkRx ∧ (State.setEvents t r s).1.trunkTx = s.trunkTx ∧
    (State.setEvents t r s).1.stations = s.stations ∧ (State.setEvents t r s).1.stream = s.stream ∧
    (State.setEvents t r s).1.pool = s.pool ∧ (State.setEvents t r s).1.reassembly = s.reassembly ∧
    (State.setEvents t r s).1.classifier = s.classifier ∧ (State.setEvents t r s).1.program = s.program ∧
    (State.setEvents t r s).1.delivery = s.delivery ∧ (State.setEvents t r s).1.uplink = s.uplink ∧
    (State.setEvents t r s).1.hold = s.hold ∧ (State.setEvents t r s).1.params = s.params ∧
    (State.setEvents t r s).1.outputs = s.outputs ∧ (State.setEvents t r s).1.freeDraws = s.freeDraws ∧
    (State.setEvents t r s).1.pending = s.pending := by
  simp only [State.setEvents, State.reply]
  (repeat' split) <;> simp

@[simp] theorem flushEvents_frame (t : Fin 4) (r : Request) (s : State) :
    (State.flushEvents t r s).1.trunkRx = s.trunkRx ∧ (State.flushEvents t r s).1.trunkTx = s.trunkTx ∧
    (State.flushEvents t r s).1.stations = s.stations ∧ (State.flushEvents t r s).1.stream = s.stream ∧
    (State.flushEvents t r s).1.pool = s.pool ∧ (State.flushEvents t r s).1.reassembly = s.reassembly ∧
    (State.flushEvents t r s).1.classifier = s.classifier ∧ (State.flushEvents t r s).1.program = s.program ∧
    (State.flushEvents t r s).1.delivery = s.delivery ∧ (State.flushEvents t r s).1.uplink = s.uplink ∧
    (State.flushEvents t r s).1.hold = s.hold ∧ (State.flushEvents t r s).1.params = s.params ∧
    (State.flushEvents t r s).1.outputs = s.outputs ∧ (State.flushEvents t r s).1.freeDraws = s.freeDraws ∧
    (State.flushEvents t r s).1.pending = s.pending := by
  simp only [State.flushEvents, State.reply]
  repeat' split
  all_goals simp

end Sys2Proof.Machine.State
end

