-- ==== Sys2Proof/Laws/Memory.lean ====
section
/-! SUPPORT. Sparse storage: what a read sees after a write, and that every operation keeps the canonical form. -/

namespace Sys2Proof.Machine

namespace Sparse

variable {α : Type} [DecidableEq α] {d : α}

theorem wfFrom_mono {m : List (Nat × α)} {low low' : Nat} (h : wfFrom d low m = true) (hl : low' ≤ low) :
    wfFrom d low' m = true := by
  cases m with
  | nil => rfl
  | cons x rest =>
    simp only [wfFrom, Bool.and_eq_true, decide_eq_true_eq] at h ⊢
    exact ⟨⟨hl.trans h.1.1, h.1.2⟩, h.2⟩

/-- A place below the first listed one holds what an unlisted place holds. -/
theorem get_below {m : List (Nat × α)} {low k : Nat} (h : wfFrom d low m = true) (hk : k < low) : get d m k = d := by
  induction m generalizing low with
  | nil => rfl
  | cons x rest ih =>
    simp only [wfFrom, Bool.and_eq_true, decide_eq_true_eq] at h
    have : k ≠ x.1 := by omega
    simp only [get, this, if_false]
    exact ih h.2 (by omega)

/-- `set` keeps the canonical form. -/
theorem wfFrom_set {m : List (Nat × α)} {low k : Nat} {v : α} (h : wfFrom d low m = true) (hk : low ≤ k) :
    wfFrom d low (set d m k v) = true := by
  induction m generalizing low with
  | nil => by_cases hv : v = d <;> simp [set, hv, wfFrom, hk]
  | cons x rest ih =>
    obtain ⟨j, y⟩ := x
    simp only [wfFrom, Bool.and_eq_true, decide_eq_true_eq, Bool.not_eq_true', decide_eq_false_iff_not] at h
    by_cases hkj : k < j
    · by_cases hv : v = d
      · simp [set, hkj, hv, wfFrom, h]
      · simp [set, hkj, hv, wfFrom, h, hk]
    · by_cases he : k = j
      · subst he
        by_cases hv : v = d
        · simp only [set, lt_irrefl, if_false, hv, if_true]
          exact wfFrom_mono h.2 (by omega)
        · simp [set, hv, wfFrom, h.2, hk]
      · simp only [set, hkj, he, if_false, wfFrom, Bool.and_eq_true, decide_eq_true_eq, Bool.not_eq_true',
          decide_eq_false_iff_not]
        exact ⟨h.1, ih h.2 (by omega)⟩

theorem wf_set {m : List (Nat × α)} {k : Nat} {v : α} (h : wf d m = true) : wf d (set d m k v) = true :=
  wfFrom_set h (Nat.zero_le k)

/-- The place written holds what was written. -/
theorem get_set_same {m : List (Nat × α)} {low k : Nat} {v : α} (h : wfFrom d low m = true) :
    get d (set d m k v) k = v := by
  induction m generalizing low with
  | nil => by_cases hv : v = d <;> simp [set, hv, get]
  | cons x rest ih =>
    obtain ⟨j, y⟩ := x
    simp only [wfFrom, Bool.and_eq_true, decide_eq_true_eq] at h
    by_cases hkj : k < j
    · by_cases hv : v = d
      · have : k ≠ j := by omega
        simp only [set, hkj, if_true, hv, get, this, if_false]
        exact get_below h.2 (by omega)
      · simp [set, hkj, hv, get]
    · by_cases he : k = j
      · subst he
        by_cases hv : v = d
        · simp only [set, lt_irrefl, if_false, hv, if_true]
          exact get_below h.2 (by omega)
        · simp [set, hv, get]
      · simp only [set, hkj, he, if_false, get]
        exact ih h.2

/-- Every other place holds what it held. -/
theorem get_set_other {m : List (Nat × α)} {low k i : Nat} {v : α} (h : wfFrom d low m = true) (hi : i ≠ k) :
    get d (set d m k v) i = get d m i := by
  induction m generalizing low with
  | nil => by_cases hv : v = d <;> simp [set, hv, get, hi]
  | cons x rest ih =>
    obtain ⟨j, y⟩ := x
    simp only [wfFrom, Bool.and_eq_true, decide_eq_true_eq] at h
    by_cases hkj : k < j
    · by_cases hv : v = d <;> simp [set, hkj, hv, get, hi]
    · by_cases he : k = j
      · subst he
        by_cases hv : v = d <;> simp [set, hv, get, hi]
      · simp only [set, hkj, he, if_false, get]
        rw [ih h.2]

theorem get_set {m : List (Nat × α)} {k i : Nat} {v : α} (h : wf d m = true) :
    get d (set d m k v) i = if i = k then v else get d m i := by
  by_cases hi : i = k
  · subst hi; simp [get_set_same h]
  · simp [hi, get_set_other h hi]

end Sparse

namespace Memory

/-- A write keeps the canonical form. -/
theorem wf_write {m : List (Nat × Byte)} (a : Nat) (bytes : List Byte) (h : wf m = true) :
    wf (write m a bytes) = true := by
  induction bytes generalizing m a with
  | nil => exact h
  | cons b rest ih => exact ih (a + 1) (Sparse.wf_set h)

/-- What a byte reads as after a write: the byte written there, or what it read before. -/
theorem get_write {m : List (Nat × Byte)} (a : Nat) (bytes : List Byte) (i : Nat) (h : wf m = true) :
    Sparse.get 0 (write m a bytes) i
      = if a ≤ i ∧ i < a + bytes.length then bytes.getD (i - a) 0 else Sparse.get 0 m i := by
  induction bytes generalizing m a with
  | nil => simp [write]
  | cons b rest ih =>
    rw [write, ih (a + 1) (Sparse.wf_set h), Sparse.get_set h, List.length_cons]
    by_cases h1 : a + 1 ≤ i ∧ i < a + 1 + rest.length
    · rw [if_pos h1, if_pos (by omega), show i - a = (i - (a + 1)) + 1 by omega, List.getD_cons_succ]
    · rw [if_neg h1]
      by_cases h2 : i = a
      · subst h2; simp
      · rw [if_neg h2, if_neg (by omega)]

/-- A read is the bytes at the addresses in turn. -/
theorem read_eq_map {m : List (Nat × Byte)} (a n : Nat) :
    read m a n = (List.range n).map fun i => Sparse.get 0 m (a + i) := by
  induction n generalizing a with
  | zero => rfl
  | succ n ih =>
    rw [read, ih, List.range_succ_eq_map, List.map_cons, List.map_map]
    simp [Function.comp_def, Nat.add_assoc, Nat.add_comm 1]

end Memory

end Sys2Proof.Machine
end

