-- ==== Sys2Proof/Laws/PerInstr.lean ====
section
/-! SUPPORT. The rows of spec/opcode_table.json give no bits: no word spells any row (log 23). -/

namespace Sys2Proof.Laws.NoWord

/-- No word spells the command. -/
def Statement (i : Instr) : Prop := ∀ nbits w, decodeTableWord nbits w ≠ some i

/-- What one row's lemma rests on. -/
theorem of_any (i : Instr) : Statement i := fun _ _ h => nomatch h

theorem powerOn : Statement .powerOn := of_any _
theorem trunkUp : Statement .trunkUp := of_any _
theorem trunkLoss : Statement .trunkLoss := of_any _
theorem receivedCell (u : LaneUnit) : Statement (.receivedCell u) := of_any _
theorem dataOnly : Statement .dataOnly := of_any _
theorem dataFirst : Statement .dataFirst := of_any _
theorem dataMiddle : Statement .dataMiddle := of_any _
theorem dataLast : Statement .dataLast := of_any _
theorem cellTransmissionEnd : Statement .cellTransmissionEnd := of_any _
theorem gapTimerExpiry (i : Fin 48) : Statement (.gapTimerExpiry i) := of_any _
theorem agingTick : Statement .agingTick := of_any _
theorem classifierTake : Statement .classifierTake := of_any _
theorem classificationEnd : Statement .classificationEnd := of_any _
theorem swap : Statement .swap := of_any _
theorem idleTimerExpiry : Statement .idleTimerExpiry := of_any _
theorem refreshTimerExpiry : Statement .refreshTimerExpiry := of_any _
theorem coalescingTimerExpiry : Statement .coalescingTimerExpiry := of_any _
theorem uplinkSignal : Statement .uplinkSignal := of_any _
theorem trainingComplete : Statement .trainingComplete := of_any _
theorem trainingFailure : Statement .trainingFailure := of_any _
theorem lossOfSignal : Statement .lossOfSignal := of_any _
theorem requestFrame (u : LaneUnit) : Statement (.requestFrame u) := of_any _
theorem creditFrame (u : LaneUnit) : Statement (.creditFrame u) := of_any _
theorem uplinkFrameError (u : LaneUnit) : Statement (.uplinkFrameError u) := of_any _
theorem responseFrameStart : Statement .responseFrameStart := of_any _
theorem responseFrameEnd : Statement .responseFrameEnd := of_any _
theorem eventFrameStart : Statement .eventFrameStart := of_any _
theorem eventFrameEnd : Statement .eventFrameEnd := of_any _
theorem deliveryFrameStart : Statement .deliveryFrameStart := of_any _
theorem deliveryFrameEnd : Statement .deliveryFrameEnd := of_any _
theorem deliveryMemoryError : Statement .deliveryMemoryError := of_any _
theorem removalWork : Statement .removalWork := of_any _
theorem badTag : Statement .badTag := of_any _
theorem retryMatch : Statement .retryMatch := of_any _
theorem badKind : Statement .badKind := of_any _
theorem getStatus : Statement .getStatus := of_any _
theorem getParam : Statement .getParam := of_any _
theorem setParam : Statement .setParam := of_any _
theorem setRights : Statement .setRights := of_any _
theorem softRestart : Statement .softRestart := of_any _
theorem readStation : Statement .readStation := of_any _
theorem listStations : Statement .listStations := of_any _
theorem pinStation : Statement .pinStation := of_any _
theorem unpinStation : Statement .unpinStation := of_any _
theorem removeStation : Statement .removeStation := of_any _
theorem flushLearned : Statement .flushLearned := of_any _
theorem readContext : Statement .readContext := of_any _
theorem readPool : Statement .readPool := of_any _
theorem readClauseActive : Statement .readClauseActive := of_any _
theorem readClauseStaging : Statement .readClauseStaging := of_any _
theorem readHits : Statement .readHits := of_any _
theorem openEdit : Statement .openEdit := of_any _
theorem writeClause : Statement .writeClause := of_any _
theorem writeProbes : Statement .writeProbes := of_any _
theorem setDefault : Statement .setDefault := of_any _
theorem setCount : Statement .setCount := of_any _
theorem commit : Statement .commit := of_any _
theorem abortEdit : Statement .abortEdit := of_any _
theorem readQueue : Statement .readQueue := of_any _
theorem haltQueue : Statement .haltQueue := of_any _
theorem restartQueue : Statement .restartQueue := of_any _
theorem flushQueue : Statement .flushQueue := of_any _
theorem sendHold : Statement .sendHold := of_any _
theorem sendRelease : Statement .sendRelease := of_any _
theorem readCounters : Statement .readCounters := of_any _
theorem clearCounters : Statement .clearCounters := of_any _
theorem setEvents : Statement .setEvents := of_any _
theorem flushEvents : Statement .flushEvents := of_any _

end Sys2Proof.Laws.NoWord
end

