-- ==== Sys2Proof/Laws/Pool.lean ====
section
/-! SUPPORT. The Block Pool: what each operation changes, that each keeps the canonical form, and that a chain's blocks
are those that its links lead through. -/

namespace Sys2Proof.Machine.BlockPool

variable {p q : BlockPool}

/-! ### Writing a block -/

@[simp] theorem fillBlock_free (b : Nat) (bytes : List Byte) (link : Option Nat) :
    (p.fillBlock b bytes link).free = p.free := rfl

@[simp] theorem fillBlock_chains (b : Nat) (bytes : List Byte) (link : Option Nat) :
    (p.fillBlock b bytes link).chains = p.chains := rfl

@[simp] theorem freshBlock_free (b : Nat) (bytes : List Byte) : (p.freshBlock b bytes).free = p.free := rfl

@[simp] theorem freshBlock_chains (b : Nat) (bytes : List Byte) : (p.freshBlock b bytes).chains = p.chains := rfl

/-- R38: the bytes follow the block's content, and its check code continues over them. -/
theorem fields_fillBlock (h : p.Canonical) (b : Nat) (bytes : List Byte) (link : Option Nat) (j : Nat) :
    (p.fillBlock b bytes link).fields j =
      if j = b then { fill := (p.fields b).fill + bytes.length, link := link,
                      check := crc16From (p.fields b).check bytes } else p.fields j :=
  Sparse.get_set h.2.1

/-- R38: a block taken from the free list has all its fields afresh. -/
theorem fields_freshBlock (h : p.Canonical) (b : Nat) (bytes : List Byte) (j : Nat) :
    (p.freshBlock b bytes).fields j =
      if j = b then { fill := bytes.length, link := none, check := crc16 bytes } else p.fields j :=
  Sparse.get_set h.2.1

/-- Every byte but those after the block's content is what it was. -/
theorem content_fillBlock (h : p.Canonical) (b : Nat) (bytes : List Byte) (link : Option Nat) (i : Nat) :
    Sparse.get 0 (p.fillBlock b bytes link).content i =
      if 64 * b + (p.fields b).fill ≤ i ∧ i < 64 * b + (p.fields b).fill + bytes.length then
        bytes.getD (i - (64 * b + (p.fields b).fill)) 0 else Sparse.get 0 p.content i :=
  Memory.get_write _ _ _ h.1

/-- Every byte but the first ones of the block is what it was. -/
theorem content_freshBlock (h : p.Canonical) (b : Nat) (bytes : List Byte) (i : Nat) :
    Sparse.get 0 (p.freshBlock b bytes).content i =
      if 64 * b ≤ i ∧ i < 64 * b + bytes.length then bytes.getD (i - 64 * b) 0 else Sparse.get 0 p.content i :=
  Memory.get_write _ _ _ h.1

/-- R34: the content of a block is read from its own bytes and its fill count alone. -/
theorem blockContent_congr {j : Nat} (hf : (q.fields j).fill = (p.fields j).fill)
    (hb : ∀ o < (p.fields j).fill, Sparse.get 0 q.content (64 * j + o) = Sparse.get 0 p.content (64 * j + o)) :
    q.blockContent j = p.blockContent j := by
  rw [blockContent, blockContent, hf, Memory.read_eq_map, Memory.read_eq_map]
  exact List.map_congr_left fun o ho => hb o (List.mem_range.mp ho)

/-- R45: so does whether it verifies, with its check code. -/
theorem verifies_congr {j : Nat} (hf : q.fields j = p.fields j)
    (hb : ∀ o < (p.fields j).fill, Sparse.get 0 q.content (64 * j + o) = Sparse.get 0 p.content (64 * j + o)) :
    q.verifies j = p.verifies j := by
  rw [verifies, verifies, blockContent_congr (by rw [hf]) hb, hf]

/-! ### The canonical form -/

theorem Canonical.fillBlock (h : p.Canonical) (b : Nat) (bytes : List Byte) (link : Option Nat) :
    (p.fillBlock b bytes link).Canonical :=
  ⟨Memory.wf_write _ _ h.1, Sparse.wf_set h.2.1, h.2.2⟩

theorem Canonical.freshBlock (h : p.Canonical) (b : Nat) (bytes : List Byte) : (p.freshBlock b bytes).Canonical :=
  ⟨Memory.wf_write _ _ h.1, Sparse.wf_set h.2.1, h.2.2⟩

theorem Canonical.withFree (h : p.Canonical) (free : List Nat) : ({ p with free := free } : BlockPool).Canonical := h

theorem Canonical.release (h : p.Canonical) (c : Chain) : (p.release c).Canonical := h

theorem Canonical.setChainEntry (h : p.Canonical) (i : Nat) (e : ChainEntry) : (p.setChainEntry i e).Canonical :=
  ⟨h.1, h.2.1, Sparse.wf_set h.2.2⟩

/-- R38: what storing a payload does: it is refused, or it goes into a new block, or behind the tail's content, or
there and on into a new block. -/
theorem store_cases (payload : List Byte) (chain : Option Chain) :
    p.store payload chain = none ∨
    (∃ b rest, chain = none ∧ p.free = b :: rest ∧ p.store payload chain
      = some ({ head := b, tail := b, count := 1 }, { p with free := rest }.freshBlock b payload)) ∨
    (∃ c, chain = some c ∧ payload.length ≤ 64 - (p.fields c.tail).fill ∧ p.store payload chain
      = some (c, p.fillBlock c.tail payload (p.fields c.tail).link)) ∨
    ∃ c b rest, chain = some c ∧ 64 - (p.fields c.tail).fill < payload.length ∧ p.free = b :: rest ∧
      p.store payload chain = some ({ c with tail := b, count := c.count + 1 },
        ({ p with free := rest }.fillBlock c.tail (payload.take (64 - (p.fields c.tail).fill)) (some b)).freshBlock b
          (payload.drop (64 - (p.fields c.tail).fill))) := by
  unfold store
  cases chain with
  | none =>
    cases hf : p.free with
    | nil => exact .inl rfl
    | cons b rest => exact .inr (.inl ⟨b, rest, rfl, rfl, rfl⟩)
  | some c =>
    by_cases h : payload.length ≤ 64 - (p.fields c.tail).fill
    · exact .inr (.inr (.inl ⟨c, rfl, h, if_pos h⟩))
    · simp only [h, if_false]
      cases hf : p.free with
      | nil => exact .inl rfl
      | cons b rest => exact .inr (.inr (.inr ⟨c, b, rest, rfl, by omega, rfl, rfl⟩))

theorem Canonical.store {r : Chain × BlockPool} {payload : List Byte} {chain : Option Chain} (h : p.Canonical)
    (hr : p.store payload chain = some r) : r.2.Canonical := by
  rcases p.store_cases payload chain with e | ⟨b, rest, -, -, e⟩ | ⟨c, -, -, e⟩ | ⟨c, b, rest, -, -, -, e⟩ <;>
    rw [hr] at e
  · exact nomatch e
  · exact Option.some.inj e ▸ (h.withFree rest).freshBlock b payload
  · exact Option.some.inj e ▸ h.fillBlock c.tail payload _
  · exact Option.some.inj e ▸ ((h.withFree rest).fillBlock c.tail _ _).freshBlock b _

/-- R43: the chain entry that is set is the one that changes. -/
theorem chainEntry_setChainEntry (h : p.Canonical) (i : Nat) (e : ChainEntry) (j : Nat) :
    (p.setChainEntry i e).chainEntry j = if j = i then e else p.chainEntry j :=
  Sparse.get_set h.2.2

/-! ### Chains -/

/-- R40: a walk sees the links of the blocks that it comes through, and nothing else. -/
theorem walk_congr (n b : Nat) (h : ∀ j ∈ p.walk n b, (q.fields j).link = (p.fields j).link) :
    q.walk n b = p.walk n b := by
  induction n generalizing b with
  | zero => rfl
  | succ n ih =>
    have hb : (q.fields b).link = (p.fields b).link := h b (by simp [walk])
    simp only [walk, hb]
    cases hl : (p.fields b).link with
    | none => rfl
    | some next =>
      refine congrArg (b :: ·) (ih next fun j hj => h j ?_)
      simp [walk, hl, hj]

/-- R40: a walk along linked blocks is those blocks. -/
theorem walk_of_links (l : List Nat) (b : Nat) (h : l.head? = some b)
    (links : ∀ i, (hi : i < l.length) → (p.fields l[i]).link = l[i + 1]?) : p.walk l.length b = l := by
  induction l generalizing b with
  | nil => exact nomatch h
  | cons a rest ih =>
    obtain rfl : a = b := Option.some.inj h
    have h0 : (p.fields a).link = rest[0]? := links 0 (by simp)
    rw [List.length_cons, walk, h0]
    cases hr : rest with
    | nil => rfl
    | cons x tail =>
      subst hr
      exact congrArg (a :: ·) (ih x rfl fun i hi => links (i + 1) (by simpa using hi))

/-- R40: the blocks of a linked chain are those that the links lead through. -/
theorem Forms.chainBlocks {c : Chain} {l : List Nat} (h : p.Forms c l) : p.chainBlocks c = l := by
  rw [BlockPool.chainBlocks, ← h.count]
  exact walk_of_links l c.head h.head h.links

/-- R40: a chain stays linked while the fields of its blocks stay as they are. -/
theorem Forms.congr {c : Chain} {l : List Nat} (h : p.Forms c l) (hq : ∀ b ∈ l, q.fields b = p.fields b) :
    q.Forms c l where
  count := h.count
  head := h.head
  tail := h.tail
  links i hi := by rw [hq _ (List.getElem_mem hi), h.links i hi]
  full i hi b hb := by rw [hq b (List.mem_of_getElem? hb), h.full i hi b hb]
  room := by rw [hq _ (List.mem_of_getLast? h.tail)]; exact h.room
  distinct := h.distinct

/-- R126: a linked chain's payload stays while its blocks stay as they are. -/
theorem Forms.payload_congr {c : Chain} {l : List Nat} (h : p.Forms c l) (hq : ∀ b ∈ l, q.fields b = p.fields b)
    (hb : ∀ b ∈ l, ∀ o < (p.fields b).fill,
      Sparse.get 0 q.content (64 * b + o) = Sparse.get 0 p.content (64 * b + o)) :
    q.payload c = p.payload c := by
  rw [payload, payload, (h.congr hq).chainBlocks, h.chainBlocks]
  exact List.flatMap_congr fun b hm => blockContent_congr (by rw [hq b hm]) (hb b hm)

end Sys2Proof.Machine.BlockPool
end

