-- ==== Sys2Proof/Laws/Requests.lean ====
section
/-! SUPPORT. Taking and answering a request: what a due request leads to, once for all request kinds. -/

namespace Sys2Proof.Machine

theorem natByte_tag {b : Byte} {t : Fin 4} (h : b.toNat = t.val) : natByte t.val = b := by
  rw [← h, natByte, BitVec.ofNat_toNat, BitVec.setWidth_eq]

theorem sessionTag_of_tag {b : Byte} {t : Fin 4} (h : b.toNat = t.val) : sessionTag b = some t := by
  have hb : b.toNat < 4 := h ▸ t.isLt
  simp only [sessionTag, hb, dif_pos, Option.some.injEq]
  exact Fin.ext h

/-- The code of a kind names the kind. -/
theorem requestKind_code (k : RequestKind) : requestKind k.code = some k := by
  cases k <;> rfl

namespace State

theorem responseLimit_eq (s : State) : s.responseLimit = if s.commitPending then 7 else 8 := rfl

/-- A request due is the one the Management Unit takes. -/
theorem Due.nextTake {s : State} {t : Fin 4} {k : RequestKind} {r : Request} (h : s.Due t k r) :
    s.nextTake = .request t k r := by
  obtain ⟨⟨hu, hr⟩, hh, ht, hf, hk⟩ := h
  cases hfifo : s.management.fifo with
  | nil => simp [hfifo] at hh
  | cons r' rest =>
    obtain rfl : r' = r := by simpa [hfifo] using hh
    simp only [State.nextTake, hu, hfifo, responseLimit_eq, hr, if_true, State.classify, sessionTag_of_tag ht,
      State.session, hf, if_false, hk, requestKind_code]

/-- R155, R159: the acceptance, as one update. -/
theorem acceptRequest_eq (t : Fin 4) (r : Request) (s : State) :
    s.acceptRequest t r = s.withManagement (s.management.accepted t r) := rfl

@[simp] theorem acceptRequest_management (t : Fin 4) (r : Request) (s : State) :
    (s.acceptRequest t r).management = s.management.accepted t r := rfl

theorem accepted_session (m : Management) (t : Fin 4) (r : Request) :
    (m.accepted t r).sessions[t].lastSequence = some r.sequence := by
  simp [Management.accepted]

/-- R154, R159: the response of a request that was accepted in the same step. -/
theorem respond_accepted {s u : State} {t : Fin 4} {r : Request} (ht : r.tag.toNat = t.val)
    (hu : u.management = s.management.accepted t r) (st : Status) (data : List Byte) :
    u.respond t r.sequence r.kind st data = u.withManagement (s.management.answered t r st data) := by
  have hl : u.management.sessions[t].lastSequence = some r.sequence := by rw [hu]; exact accepted_session _ _ _
  simp only [State.respond, State.cacheResponse, State.session, State.queueResponse, withManagement_management, hl,
    if_true, State.setSession, withManagement_withManagement, cacheEntry]
  congr 1
  simp [hu, Management.accepted, Management.answered, natByte_tag ht, cachedForm]

/-- R114, R116, R159: a deferred answer is recorded if its tag still waits for it and its number is the tag's last. -/
theorem cacheDeferred_eq (t : Fin 4) (q : U16) (c : CachedResponse) (s : State) :
    s.cacheDeferred t q c =
      if s.management.sessions[t].awaitsSwap = true ∧ s.management.sessions[t].lastSequence = some q then
        s.setSession t { s.management.sessions[t] with inProgress := false, cached := some c, awaitsSwap := false }
      else s := by
  rw [ite_and]
  rfl

/-- R114, R159: the deferred answer of a COMMIT is queued, and recorded under the same condition. -/
theorem respondDeferred_eq (t : Fin 4) (q : U16) (data : List Byte) (s : State) :
    s.respondDeferred t q data =
      let m := { s.management with responses := s.management.responses
        ++ [{ tag := natByte t.val, sequence := q, kind := 0x27, status := .ok, data := data }] }
      s.withManagement
        (if s.management.sessions[t].awaitsSwap = true ∧ s.management.sessions[t].lastSequence = some q then
          { m with sessions := m.sessions.set t { m.sessions[t] with
              inProgress := false, cached := some (cacheEntry 0x27 .ok data), awaitsSwap := false } }
        else m) := by
  refine (cacheDeferred_eq t q _ _).trans ?_
  by_cases h : s.management.sessions[t].awaitsSwap = true ∧ s.management.sessions[t].lastSequence = some q
  · exact (if_pos h).trans (congrArg s.withManagement (if_pos h).symm)
  · exact (if_neg h).trans (congrArg s.withManagement (if_neg h).symm)

/-- R155: a request that waits is what the next take is of. -/
theorem Waits.nextTake {s : State} {r : Request} (h : s.Waits r) : s.nextTake = s.classify r := by
  obtain ⟨⟨h1, h2⟩, h3⟩ := h
  cases hf : s.management.fifo with
  | nil => rw [hf] at h3; exact nomatch h3
  | cons a l =>
    rw [hf] at h3
    obtain rfl := Option.some.inj h3
    simp only [State.nextTake, h1, hf, State.responseLimit_eq, h2, if_true]

/-- R156: a request that passes steps 1 to 5 is carried out by its block. -/
theorem takeRequest_of_passes {s : State} {t : Fin 4} {k : RequestKind} {r : Request} (h : s.Passes t k r)
    {applies : Request → Bool} (ha : applies r = true) (body : Execution) :
    s.takeRequest k applies body
      = match body t r (s.acceptRequest t r) with
        | (u, .now st data) => u.respond t r.sequence r.kind st data
        | (u, .later) => u := by
  have hr : k.allowedBy r.args ((s.acceptRequest t r).session t).rights = true := by
    simpa [State.session, Management.accepted] using h.right
  simp only [State.takeRequest, h.due.nextTake, ha, and_self, if_true, State.perform, hr, h.length]
  all_goals rfl

/-- A request that its block answers in the same step without touching the Management Unit. -/
theorem takeRequest_now {s u : State} {t : Fin 4} {k : RequestKind} {r : Request} {body : Execution} {st : Status}
    {data : List Byte} {applies : Request → Bool} (h : s.Passes t k r) (ha : applies r = true)
    (hb : body t r (s.withManagement (s.management.accepted t r)) = (u, .now st data))
    (hu : u.management = s.management.accepted t r) :
    s.takeRequest k applies body = u.withManagement (s.management.answered t r st data) := by
  rw [takeRequest_of_passes h ha, acceptRequest_eq, hb]
  exact respond_accepted h.due.tag hu st data

/-- `takeRequest_now` for a kind that is one row. -/
theorem take_now {s u : State} {t : Fin 4} {k : RequestKind} {r : Request} {body : Execution} {st : Status}
    {data : List Byte} (h : s.Passes t k r)
    (hb : body t r (s.withManagement (s.management.accepted t r)) = (u, .now st data))
    (hu : u.management = s.management.accepted t r) :
    s.take k body = u.withManagement (s.management.answered t r st data) :=
  takeRequest_now h rfl hb hu

/-- A request whose block leaves the answer to later work. -/
theorem take_later {s u : State} {t : Fin 4} {k : RequestKind} {r : Request} {body : Execution} (h : s.Passes t k r)
    (hb : body t r (s.withManagement (s.management.accepted t r)) = (u, .later)) : s.take k body = u := by
  rw [State.take, takeRequest_of_passes h rfl, acceptRequest_eq, hb]

/-- R156 step 4: without the right the request is answered NO_RIGHT. -/
theorem takeRequest_noRight {s : State} {t : Fin 4} {k : RequestKind} {r : Request} (h : s.Due t k r)
    (hr : k.allowedBy r.args s.management.sessions[t].rights = false) {applies : Request → Bool}
    (ha : applies r = true) (body : Execution) :
    s.takeRequest k applies body = s.answered t r .noRight [] := by
  have hr' : k.allowedBy r.args ((s.acceptRequest t r).session t).rights = false := by
    simpa [State.session, Management.accepted] using hr
  simp only [State.takeRequest, h.nextTake, ha, and_self, if_true, State.perform, hr', Bool.false_eq_true, if_false]
  rw [respond_accepted h.tag (acceptRequest_management t r s)]
  simp [State.answered, acceptRequest_eq]

/-- R156 step 5: with another argument length the request is answered BAD_ARG. -/
theorem takeRequest_badArg {s : State} {t : Fin 4} {k : RequestKind} {r : Request} (h : s.Due t k r)
    (hr : k.allowedBy r.args s.management.sessions[t].rights = true) (hl : r.args.length ≠ k.argLength)
    {applies : Request → Bool} (ha : applies r = true) (body : Execution) :
    s.takeRequest k applies body = s.answered t r .badArg [] := by
  have hr' : k.allowedBy r.args ((s.acceptRequest t r).session t).rights = true := by
    simpa [State.session, Management.accepted] using hr
  simp only [State.takeRequest, h.nextTake, ha, and_self, if_true, State.perform, hr', hl, if_false]
  rw [respond_accepted h.tag (acceptRequest_management t r s)]
  simp [State.answered, acceptRequest_eq]

/-- A take that is not of this kind does nothing (log 3). -/
theorem takeRequest_other {s : State} {k : RequestKind} {applies : Request → Bool} {body : Execution}
    (h : ∀ t r, s.nextTake = .request t k r → applies r = false) : s.takeRequest k applies body = s := by
  unfold State.takeRequest
  split
  · rename_i t k' r heq
    split
    · rename_i hk
      obtain ⟨rfl, ha⟩ := hk
      simp [h t r heq] at ha
    · rfl
  all_goals rfl

/-- What a taken request can do, for any block: the state of its block's answer, with the Management Unit's own part. -/
theorem takeRequest_cases (k : RequestKind) (applies : Request → Bool) (body : Execution) (s : State) :
    s.takeRequest k applies body = s ∨
    ∃ t r, s.nextTake = .request t k r ∧
      ((∃ st, s.takeRequest k applies body = (s.acceptRequest t r).respond t r.sequence r.kind st []) ∨
       (∃ u st data, body t r (s.acceptRequest t r) = (u, .now st data) ∧
          s.takeRequest k applies body = u.respond t r.sequence r.kind st data) ∨
       (∃ u, body t r (s.acceptRequest t r) = (u, .later) ∧ s.takeRequest k applies body = u)) := by
  unfold State.takeRequest
  split
  · rename_i t k' r heq
    split
    · rename_i hk
      obtain ⟨rfl, -⟩ := hk
      refine Or.inr ⟨t, r, heq, ?_⟩
      unfold State.perform
      split
      · split
        · generalize hb : body t r (s.acceptRequest t r) = res
          obtain ⟨u, rep⟩ := res
          cases rep with
          | now st data => exact .inr (.inl ⟨u, st, data, rfl, rfl⟩)
          | later => exact .inr (.inr ⟨u, rfl, rfl⟩)
        · exact .inl ⟨_, rfl⟩
      · exact .inl ⟨_, rfl⟩
    · exact .inl rfl
  all_goals exact .inl rfl

end State

end Sys2Proof.Machine
end

