-- ==== Sys2Proof/Laws/Stations.lean ====
section
/-! SUPPORT. The Station Table: finding an entry, an empty position, and what a report does. -/

namespace Sys2Proof.Machine

/-- An argument word that names a station is read as that station. -/
theorem Request.station_of_names {r : Request} {i : Nat} {a : Addr} (h : r.Names i a) : r.station i = some a := by
  obtain ⟨h1, h2, h3⟩ := h
  have h1' : (r.word i).toNat = a.toNat := h1
  unfold Request.station
  simp only [h1', h2, h3, and_self, if_true, BitVec.ofNat_toNat, BitVec.setWidth_eq]

/-- An argument word outside 1 to 4,094 is no station. -/
theorem Request.station_of_namesNone {r : Request} {i : Nat} (h : r.NamesNone i) : r.station i = none := by
  have h' : (r.word i).toNat = 0 ∨ 4094 < (r.word i).toNat := h
  unfold Request.station
  exact if_neg (by omega)

namespace State

theorem findStation_of_has {s : State} {a : Addr} {i : Fin 64} {e : StationEntry} (h : s.stations.Has a i e) :
    s.findStation a = some i := by
  obtain ⟨h1, h2, h3⟩ := h
  apply firstPlace_unique
  · simp only [h1]; simp [h2]
  · intro j hj
    cases hx : s.stations.entries[j] with
    | none => simp only [hx] at hj; simp at hj
    | some e' => simp only [hx] at hj; simp at hj; exact h3 j e' hx hj

theorem findStation_of_lacks {s : State} {a : Addr} (h : s.stations.Lacks a) : s.findStation a = none := by
  apply firstPlace_eq_none.2
  intro j
  cases hx : s.stations.entries[j] with
  | none => simp
  | some e' => simp; exact h j e' hx

theorem emptyPosition_of_room {s : State} {i : Fin 64} (h : s.stations.Room i) : s.emptyPosition = some i := by
  rw [State.emptyPosition, firstPlace_eq_some]
  refine ⟨by rw [h.1]; rfl, fun j hj => ?_⟩
  have := h.2 j hj
  cases hx : s.stations.entries[j] <;> simp_all

theorem emptyPosition_of_full {s : State} (h : ∀ i : Fin 64, s.stations.entries[i] ≠ none) :
    s.emptyPosition = none := by
  rw [State.emptyPosition, firstPlace_eq_none]
  intro j
  have := h j
  cases hx : s.stations.entries[j] <;> simp_all

/-- R53: with unique addresses a report changes the entry for its address and nothing else. -/
theorem reportStation_eq {s : State} (hu : s.stations.Unique) (a : Addr) (f : StationEntry → StationEntry) :
    s.reportStation a f = s.withStations (s.stations.report a f) := by
  have same : ∀ x : StationTable, x = s.stations → s = s.withStations x := fun x hx => by rw [hx]; rfl
  unfold State.reportStation
  split
  · rename_i h
    rw [State.findStation, firstPlace_eq_none] at h
    apply same
    unfold StationTable.report
    congr 1
    apply Vector.ext
    intro i hi
    have hi' := h ⟨i, hi⟩
    simp only [getElem_mapTable, Fin.getElem_fin] at hi' ⊢
    cases hx : s.stations.entries[i] with
    | none => rfl
    | some e => rw [hx] at hi'; simp at hi'; simp [hi']
  · rename_i i h
    have hi := firstPlace_some h
    refine congrArg s.withStations ?_
    show StationTable.mk _ _ _ _ = StationTable.mk _ _ _ _
    refine (StationTable.mk.injEq ..).mpr ⟨?_, rfl, rfl, rfl⟩
    apply Vector.ext
    intro j hj
    have hs := getElem_set_fin s.stations.entries i ⟨j, hj⟩ (s.stations.entries[i].map f)
    simp only [Fin.getElem_fin, getElem_mapTable] at hs hi ⊢
    rw [hs]
    split
    · rename_i hji
      subst hji
      cases hx : s.stations.entries[j] with
      | none => rfl
      | some e => simp only [hx] at hi; simp at hi; simp [hi]
    · rename_i hji
      cases hx : s.stations.entries[j] with
      | none => rfl
      | some e =>
        by_cases hea : e.address = a
        · exfalso
          apply hji
          cases hy : s.stations.entries[i.val] with
          | none => rw [hy] at hi; simp at hi
          | some e' =>
            rw [hy] at hi
            simp at hi
            exact hu ⟨j, hj⟩ i e e' hx hy (hea.trans hi.symm)
        · simp [hea]

end State

namespace StationTable

/-- Two reports to one address are one report. -/
theorem report_report (x : StationTable) (a : Addr) (f g : StationEntry → StationEntry)
    (hf : ∀ e, (f e).address = e.address) : (x.report a f).report a g = x.report a fun e => g (f e) := by
  simp only [StationTable.report]
  congr 1
  apply Vector.ext
  intro i hi
  simp only [getElem_mapTable, Option.map_map]
  cases x.entries[i] with
  | none => rfl
  | some e => simp only [Option.map_some, Function.comp]; by_cases h : e.address = a <;> simp [h, hf]

/-- A report keeps the addresses unique. -/
theorem Unique.report {x : StationTable} (h : x.Unique) (a : Addr) {f : StationEntry → StationEntry}
    (hf : ∀ e, (f e).address = e.address) : (x.report a f).Unique := by
  intro i j e e' hi hj he
  simp only [StationTable.report, Fin.getElem_fin, getElem_mapTable] at hi hj
  cases h1 : x.entries[i.val] with
  | none => simp [h1] at hi
  | some e1 =>
    cases h2 : x.entries[j.val] with
    | none => simp [h2] at hj
    | some e2 =>
      simp [h1] at hi
      simp [h2] at hj
      refine h i j e1 e2 h1 h2 ?_
      have a1 : e.address = e1.address := by rw [← hi]; split <;> simp [hf]
      have a2 : e'.address = e2.address := by rw [← hj]; split <;> simp [hf]
      rw [← a1, ← a2, he]

end StationTable

end Sys2Proof.Machine
end

