-- ==== Sys2Proof/Tests/Slice0.lean ====
section
/-! SUPPORT. The model's own tests: the checks of WellFormed refuse, each family's commands do what the spec's examples
do, and for every statement with hypotheses a state and operands that meet them. -/

open Sys2Proof Sys2Proof.Machine

namespace Sys2Proof.Tests

set_option Elab.async false

/-! ### Helpers -/

/-- What `f` sees after the command; none if it stops. -/
def look {α : Type} (c : Instr) (s : State) (f : State → α) : Option α :=
  match exec c s with
  | .next t => some (f t)
  | .fault _ => none
  | .refused _ => none

/-- The state after the commands. -/
def after (cs : List Instr) (s : State) : State :=
  cs.foldl (fun u c => match exec c u with
    | .next t => t
    | .fault _ => u
    | .refused _ => u) s

/-- A unit without a coding error whose reception began in UP. -/
def lane (bytes : List Byte) : LaneUnit := { bytes := bytes, codingError := false, begunInUp := true }

/-- The same unit, begun before the link became UP. -/
def early (u : LaneUnit) : LaneUnit := { u with begunInUp := false }

/-- A data cell on channel 3 with class 9 to every station. -/
def cell (code : BitVec 4) (source : Addr) (sequence : Seq) (payload : List Byte) : LaneUnit :=
  let front := [code ++ (3 : Chan), 0xFF, (0xF : BitVec 4) ++ source.extractLsb' 8 4, source.extractLsb' 0 8,
    sequence ++ (0 : BitVec 2), natByte payload.length, 9] ++ payload
  lane (front ++ be16 (crc16 front))

def ask (k : RequestKind) (args : List Byte) : Request := { tag := 0, sequence := 7, kind := k.code, args := args }

/-- `s` with `r` as the one request that waits. -/
def asked (s : State) (r : Request) : State :=
  s.withManagement { State.reset.management with fifo := [r] }

/-- The status and the data of the response to a request that has its block's answer. -/
def answer (s : State) (k : RequestKind) (args : List Byte) : Option (Option (Status × List Byte)) :=
  look (k.command (ask k args)) (asked s (ask k args)) fun t => t.management.responses.head?.map fun x => (x.status, x.data)

/-- The part with both links UP. -/
def up : State :=
  (State.reset.withTrunkRx { State.reset.trunkRx with link := .up }).withUplink { State.reset.uplink with link := .up }

def learning : State := up.withParams { up.params with learning := true }

/-- A state with the body `b` in context `i`. -/
def withContext (i : Fin 48) (b : ContextState) (s : State) : State :=
  s.contextPut i { body := b, lastAbort := .none } ReassemblyCounters.zero

def station (a : Addr) : StationEntry :=
  { address := a, origin := .learned, admission := .admits, tag := 7, age := 3, openCount := 1, accepted := 0,
    completed := 0, errors := 0 }

/-- A table with the one entry `e`. -/
def table (i : Fin 64) (e : StationEntry) : StationTable := State.reset.stations.put i (some e)

/-- A table without an empty position. -/
def fullTable : StationTable :=
  { State.reset.stations with entries := Vector.ofFn fun i => some (station (BitVec.ofNat 12 (i.val + 1))) }

def message (n : Nat) (c : Chain) : Message :=
  { station := 5, channel := 3, tag := 7, cls := 9, arrival := 0, byteCount := n, chain := c }

def oneBlock : Chain := { head := 0, tail := 0, count := 1 }

/-- A pool whose block 0 holds `bytes`. -/
def poolOf (bytes : List Byte) : BlockPool :=
  { State.reset.pool with free := (List.range 2048).tail }.freshBlock 0 bytes

def queueCell (k : DataKind) (sequence : Seq) (payload : List Byte) : AdmittedCell :=
  { kind := k, source := 5, channel := 3, sequence := sequence, cls := 9, payload := payload, arrival := 0, tag := 7 }

/-- Up, with station 5 in position 0, block 0 in use and context 0 OPEN for it, and a cell in the stream. -/
def openWith (c : AdmittedCell) : State :=
  withContext 0 (.opened (message 3 oneBlock) 1 50000) (((up.withStations (table 0 (station 5))).withPool
    (poolOf [1, 2, 3])).withStream [.cell c])

def discardingWith (c : AdmittedCell) : State :=
  withContext 0 (.discarding 5 3 50000) ((up.withStations (table 0 (station 5))).withStream [.cell c])

/-- Up, with a message in context 0 at the Classifier's hands. -/
def classifying (g : Gathered) : State :=
  (withContext 0 (.complete (message 3 oneBlock)) (up.withPool (poolOf [1, 2, 3]))).withClassifier
    { up.classifier with state := .classifying 0 g }

def noProperties : Properties :=
  { station := 5, channel := 3, cls := 9, length := 3, tag := 7, probe0 := 0, probe1 := 0, probe2 := 0, probe3 := 0,
    shorts := 0 }

def recordOf (n : Nat) (h : Nat) : Record :=
  { messageId := 0, generation := 0, station := 5, channel := 3, cls := 9, length := n, timestamp := 0, mark := false,
    mirrored := false, replay := false, chain := h }

/-- Up, with one record of one block in queue `q`, and credit 1. -/
def queued (q : Fin 8) : State :=
  let x : Queue := { Queue.fresh with records := [recordOf 3 0], credit := 1, charge := 1 }
  (up.withPool ((poolOf [1, 2, 3]).setChainEntry 0 { tail := 0, count := 1, refs := 1 })).withDelivery
    { up.delivery with queues := up.delivery.queues.set q x }

/-- The lane carries the record of queue 0. -/
def delivering : State :=
  let x : Queue := { Queue.fresh with records := [recordOf 3 0], charge := 1, inFlight := true }
  let f : DeliveryFrame := { queue := 0, header := recordOf 3 0, payload := .streaming }
  ((queued 0).withDelivery { up.delivery with queues := up.delivery.queues.set (0 : Fin 8) x }).withUplink
    { up.uplink with lane := .delivery f }

/-- Block 0 no longer verifies. -/
def damaged (s : State) : State :=
  let broken : BlockFields := { s.pool.fields 0 with check := 0 }
  s.withPool { s.pool with blocks := Sparse.set BlockFields.unwritten s.pool.blocks 0 broken }

/-- Up, with an event counted in slot 0 and the flag set. -/
def eventDue : State :=
  let counted : EventSlot := { EventSlot.fresh with count := 2 }
  up.withEvents { up.events with due := true, slots := up.events.slots.set (0 : Fin 22) counted }

def sending (l : Lane) (s : State) : State := s.withUplink { s.uplink with link := .up, lane := l }

def editing : State := up.withProgram { up.program with edit := .editing 0 up.program.active 10 }

def committing : State := up.withProgram { up.program with edit := .committing 0 up.program.active 5 }

def holding : State := up.withHold { up.hold with mode := .holding 10 }

def later (n : U32) (s : State) : State := s.withEvents { s.events with timebase := n }

/-- R155, R156: tag 0 may ask anything: a request with the argument bytes of its kind reaches its block. -/
theorem asked_passes (s : State) (k : RequestKind) (args : List Byte) (h : args.length = k.argLength) :
    (asked s (ask k args)).Passes 0 k (ask k args) where
  due := { canTake := ⟨rfl, by
            show (0 : Nat) < _
            split <;> decide⟩
           head := rfl, tag := rfl, fresh := nofun, kind := rfl }
  right := by
    cases k
    case readCounters =>
      show (if _ then true else true) = true
      split <;> rfl
    all_goals rfl
  length := h

theorem asked_waits (s : State) (r : Request) : (asked s r).Waits r :=
  ⟨⟨rfl, by
    show (0 : Nat) < _
    split <;> decide⟩, rfl⟩

/-! ### WellFormed -/

def badType : LaneUnit := lane (frameBytes 0x22 [1, 2])

theorem test_ill_formed_request_frame : (Instr.requestFrame badType).wellFormed = false := by decide +kernel
theorem test_ill_formed_credit_frame : (Instr.creditFrame badType).wellFormed = false := by decide +kernel
theorem test_ill_formed_frame_error :
    (Instr.uplinkFrameError (lane (frameBytes 0x21 [1, 2]))).wellFormed = false := by decide +kernel
theorem test_well_formed_credit_frame :
    (Instr.creditFrame (lane (frameBytes 0x21 [1, 2]))).wellFormed = true := by decide +kernel

/-! ### Witnesses: the step and the taking of requests -/

theorem witness_StepRunsTheFrontCommand :
    ∃ (c : Instr) (rest : List Instr) (s : State), s.pending = c :: rest :=
  ⟨.agingTick, [.trunkUp], up.withPending [.agingTick, .trunkUp], rfl⟩

theorem witness_CommandsChangeOnlyTheirBlocks :
    ∃ (c : Instr) (s t : State) (b : Block), c.wellFormed = true ∧ exec c s = .next t ∧ b ∉ c.reach :=
  ⟨.badTag, up, _, .trunkReceiver, rfl, rfl, by decide⟩

theorem witness_CatalogueOfRequests :
    (∃ x ∈ catalogue, x.kind ≠ .readCounters) ∧ ∃ b : Byte, ∀ x ∈ catalogue, x.code ≠ b :=
  ⟨⟨⟨.getStatus, 0x01, 0, Rights.read⟩, by simp [catalogue], by decide⟩, 0x44, by decide⟩

/-- Tag 1, which holds READ alone. -/
def otherTag (k : RequestKind) (args : List Byte) : Request := { ask k args with tag := 1 }

theorem otherTag_due (s : State) (k : RequestKind) (args : List Byte) :
    (asked s (otherTag k args)).Due 1 k (otherTag k args) where
  canTake := (asked_waits s _).1
  head := rfl
  tag := rfl
  fresh := nofun
  kind := rfl

theorem witness_RequestsRefusedBeforeTheirBlock :
    (∃ (s : State) (t : Fin 4) (k : RequestKind) (r : Request), s.Due t k r ∧
      k.allowedBy r.args s.management.sessions[t].rights = false) ∧
    (∃ (s : State) (t : Fin 4) (k : RequestKind) (r : Request), s.Due t k r ∧
      k.allowedBy r.args s.management.sessions[t].rights = true ∧ r.args.length ≠ k.argLength) ∧
    (∃ s : State, ¬ s.CanTake) ∧ up.management.fifo = [] ∧
    (∃ (s : State) (r : Request), s.management.fifo.head? = some r ∧ 4 ≤ r.tag.toNat) ∧
    (∃ (s : State) (r : Request), s.management.fifo.head? = some r ∧
      ∃ t : Fin 4, r.tag.toNat = t.val ∧ s.management.sessions[t].lastSequence = some r.sequence) ∧
    ∃ (s : State) (r : Request) (k k' : RequestKind),
      s.management.fifo.head? = some r ∧ r.kind = k'.code ∧ k' ≠ k := by
  refine ⟨⟨_, 1, .commit, _, otherTag_due up .commit [], rfl⟩,
    ⟨_, 1, .getStatus, _, otherTag_due up .getStatus [0], rfl, by decide⟩, ⟨up.withManagement { up.management with
      unit := .executing 0 7 .flushLearned }, fun h => nomatch h.1⟩, rfl,
    ⟨asked up { tag := 4, sequence := 7, kind := 1, args := [] }, _, rfl, by decide⟩,
    ⟨(asked up (ask .getStatus [])).withManagement { (asked up (ask .getStatus [])).management with
      sessions := up.management.sessions.set (0 : Fin 4) { up.management.sessions[(0 : Fin 4)] with
        lastSequence := some 7 } }, _, rfl, 0, rfl, by decide⟩,
    ⟨asked up (ask .getStatus []), _, .getParam, .getStatus, rfl, rfl, by decide⟩⟩

theorem bad_tag_waits (b : Byte) (hb : b = 4 ∨ b = 255) :
    ∃ (s : State) (r : Request), s.Waits r ∧ r.tag = b ∧ 4 ≤ r.tag.toNat := by
  revert b
  rintro b (rfl | rfl)
  · exact ⟨_, { tag := 4, sequence := 7, kind := 1, args := [] }, asked_waits up _, rfl, by decide⟩
  · exact ⟨_, { tag := 255, sequence := 7, kind := 1, args := [] }, asked_waits up _, rfl, by decide⟩

/-- `s` with the session entry of tag 0 replaced. -/
def withSession (x : Session) (s : State) : State :=
  s.withManagement { s.management with sessions := s.management.sessions.set (0 : Fin 4) x }

def session (inProgress : Bool) (cached : Option CachedResponse) : Session :=
  { rights := .all, lastSequence := some 7, inProgress := inProgress, cached := cached, awaitsSwap := false }

/-- Tag 0 waits for the swap of its COMMIT, number 5. -/
def awaiting : Session :=
  { rights := .all, lastSequence := some 5, inProgress := true, cached := none, awaitsSwap := true }

theorem witness_BadTagsRetriesAndUnknownKindsAreAnswered :
    (∀ b : Byte, b = 4 ∨ b = 255 → ∃ (s : State) (r : Request), s.Waits r ∧ r.tag = b ∧ 4 ≤ r.tag.toNat) ∧
    ∀ x : Session, x = session true none ∨ x = session false (some (.whole 1 .ok [])) ∨
        x = session false (some (.resendRefused 1 .ok)) →
      (withSession x (asked up (ask .getStatus []))).Waits (ask .getStatus []) ∧
      (withSession x (asked up (ask .getStatus []))).management.sessions[(0 : Fin 4)].lastSequence
        = some (ask .getStatus []).sequence ∧
      (asked up { ask .getStatus [] with kind := 0x44 }).management.sessions[(0 : Fin 4)].lastSequence ≠ some 7 ∧
      ∀ x ∈ catalogue, x.code ≠ 0x44 := by
  refine ⟨bad_tag_waits, ?_⟩
  rintro x (rfl | rfl | rfl) <;> exact ⟨asked_waits up _, by decide, by decide, by decide⟩

theorem witness_StatusParametersAndPoolAreReported :
    (∃ (s : State) (t : Fin 4) (r : Request), s.Passes t .getStatus r) ∧
    (∃ (s : State) (t : Fin 4) (r : Request) (v : Nat), s.Passes t .getParam r ∧
      ((byteAt r.args 0).toNat, v) ∈ s.params.listed) ∧
    (∃ (s : State) (t : Fin 4) (r : Request), s.Passes t .getParam r ∧
      ∀ v, ((byteAt r.args 0).toNat, v) ∉ s.params.listed) ∧
    ∃ (s : State) (t : Fin 4) (r : Request), s.Passes t .readPool r :=
  ⟨⟨_, _, _, asked_passes up .getStatus [] rfl⟩, ⟨_, _, _, 512, asked_passes up .getParam [31] rfl, by decide⟩,
    ⟨_, _, _, asked_passes up .getParam [0] rfl, fun v h => by
      have : ∀ x ∈ up.params.listed, x.1 ≠ 0 := by decide
      exact this _ h rfl⟩, ⟨_, _, _, asked_passes up .readPool [] rfl⟩⟩

theorem witness_SetParamReplacesOneValue :
    (∃ (s : State) (t : Fin 4) (r : Request), s.Passes t .setParam r ∧ r.args = [8, 1, 255] ∧ s.params.Admits 8 511) ∧
    ∃ (s : State) (t : Fin 4) (r : Request), s.Passes t .setParam r ∧ r.args = [8, 2, 0] ∧ ¬ s.params.Admits 8 512 :=
  ⟨⟨_, _, _, asked_passes up .setParam [8, 1, 255] rfl, rfl, ⟨0, 2047, by decide, by decide, by decide⟩,
      fun _ => by decide, fun h => by simp at h⟩,
    ⟨_, _, _, asked_passes up .setParam [8, 2, 0] rfl, rfl, fun h => absurd (h.2.1 rfl) (by decide)⟩⟩

theorem witness_SetRightsReplacesTheRights :
    (∃ (s : State) (t : Fin 4) (r : Request) (u : Fin 4), s.Passes t .setRights r ∧ u ≠ 0 ∧
      (byteAt r.args 0).toNat = u.val ∧ (byteAt r.args 1).toNat = 7) ∧
    (∃ (s : State) (t : Fin 4) (r : Request), s.Passes t .setRights r ∧ (byteAt r.args 0).toNat = 0) ∧
    (∃ (s : State) (t : Fin 4) (r : Request), s.Passes t .setRights r ∧ (byteAt r.args 0).toNat = 4) ∧
    ∃ (s : State) (t : Fin 4) (r : Request), s.Passes t .setRights r ∧ (byteAt r.args 1).toNat = 8 :=
  ⟨⟨_, _, _, 3, asked_passes up .setRights [3, 7] rfl, by decide, by decide, by decide⟩,
    ⟨_, _, _, asked_passes up .setRights [0, 7] rfl, by decide⟩,
    ⟨_, _, _, asked_passes up .setRights [4, 7] rfl, by decide⟩,
    ⟨_, _, _, asked_passes up .setRights [3, 8] rfl, by decide⟩⟩

theorem witness_SoftRestartClearsTheTraffic :
    ∃ (s : State) (t : Fin 4) (r : Request), s.Passes t .softRestart r ∧ s.params.hOn ≤ 2048 :=
  ⟨_, _, _, asked_passes up .softRestart [] rfl, by decide⟩

/-- A COMMIT of tag 1 is pending, and tag 0 asks for the restart. -/
def restartDuringCommit : State :=
  (up.withProgram { up.program with edit := .committing 1 up.program.active 5 }).withManagement { up.management with
    fifo := [ask .softRestart []], sessions := up.management.sessions.set (1 : Fin 4) awaiting }

theorem witness_SoftRestart_pending_commit :
    (∃ r : Request, restartDuringCommit.Passes 0 .softRestart r) ∧
    restartDuringCommit.program.edit = .committing 1 up.program.active 5 ∧ (1 : Fin 4) ≠ 0 ∧
    restartDuringCommit.management.sessions[(1 : Fin 4)].awaitsSwap = true ∧
    restartDuringCommit.management.sessions[(1 : Fin 4)].lastSequence = some 5 :=
  ⟨⟨ask .softRestart [], ⟨⟨rfl, by decide⟩, rfl, rfl, by decide, rfl⟩, rfl, rfl⟩, rfl, by decide, by decide, by decide⟩

/-! ### Witnesses: stations, contexts and programs -/

theorem table_entries (i j : Fin 64) (e : StationEntry) :
    (table i e).entries[j] = if j = i then some e else none := by
  have h : State.reset.stations.entries[j] = none := by
    show (Vector.replicate 64 (none : Option StationEntry))[j.val] = none
    simp
  show (State.reset.stations.entries.set i (some e))[j] = _
  rw [getElem_set_fin, h]

theorem table_has (i : Fin 64) (e : StationEntry) : (table i e).Has e.address i e := by
  refine ⟨(table_entries i i e).trans (if_pos rfl), rfl, fun j e' h _ => ?_⟩
  rw [table_entries] at h
  split at h
  · assumption
  · exact nomatch h

theorem table_lacks (i : Fin 64) (e : StationEntry) (a : Addr) (h : e.address ≠ a) : (table i e).Lacks a := by
  intro j e' hj
  rw [table_entries] at hj
  split at hj
  · obtain rfl := Option.some.inj hj
    exact h
  · exact nomatch hj

theorem table_unique (i : Fin 64) (e : StationEntry) : (table i e).Unique := by
  intro j k e1 e2 h1 h2 _
  rw [table_entries] at h1 h2
  split at h1 <;> split at h2 <;> simp_all

theorem empty_entries (i : Fin 64) : up.stations.entries[i] = none := by
  show (Vector.replicate 64 (none : Option StationEntry))[i.val] = none
  simp

theorem empty_lacks (a : Addr) : up.stations.Lacks a := by
  intro j e h
  rw [empty_entries] at h
  exact nomatch h

theorem empty_room : up.stations.Room 0 := ⟨empty_entries 0, fun j h => absurd h (by simp)⟩

theorem full_entries (i : Fin 64) :
    fullTable.entries[i] = some (station (BitVec.ofNat 12 (i.val + 1))) := by
  show (Vector.ofFn fun i : Fin 64 => some (station (BitVec.ofNat 12 (i.val + 1))))[i.val] = _
  simp

theorem full_lacks : fullTable.Lacks 65 := by
  intro j e h
  rw [full_entries] at h
  obtain rfl := Option.some.inj h
  intro h'
  have h2 : (BitVec.ofNat 12 (j.val + 1)).toNat = 65 := congrArg BitVec.toNat h'
  simp at h2
  omega

def withTable (x : StationTable) : State := up.withStations x

theorem witness_StationsAreReported :
    (∃ (s : State) (t : Fin 4) (r : Request) (a : Addr) (i : Fin 64) (e : StationEntry),
      s.Passes t .readStation r ∧ r.Names 0 a ∧ a.toNat = 1 ∧ s.stations.Has a i e) ∧
    (∃ (s : State) (t : Fin 4) (r : Request) (a : Addr),
      s.Passes t .readStation r ∧ r.Names 0 a ∧ a.toNat = 4094 ∧ s.stations.Lacks a) ∧
    (∀ w : Byte × Byte, w = (0, 0) ∨ w = (15, 255) →
      ∃ (s : State) (t : Fin 4) (r : Request), s.Passes t .readStation r ∧ r.NamesNone 0 ∧ r.args = [w.1, w.2]) ∧
    ∀ b : Byte, b = 63 ∨ b = 64 →
      ∃ (s : State) (t : Fin 4) (r : Request), s.Passes t .listStations r ∧ byteAt r.args 0 = b := by
  refine ⟨⟨_, _, _, 1, 63, station 1, asked_passes (withTable (table 63 (station 1))) .readStation [0, 1] rfl,
      ⟨by decide, by decide, by decide⟩, rfl, table_has 63 (station 1)⟩,
    ⟨_, _, _, 4094, asked_passes up .readStation [15, 254] rfl, ⟨by decide, by decide, by decide⟩, rfl,
      empty_lacks _⟩, ?_, ?_⟩
  · rintro w (rfl | rfl)
    · exact ⟨_, _, _, asked_passes up .readStation [0, 0] rfl, Or.inl (by decide), rfl⟩
    · exact ⟨_, _, _, asked_passes up .readStation [15, 255] rfl, Or.inr (by decide), rfl⟩
  · rintro b (rfl | rfl)
    · exact ⟨_, _, _, asked_passes up .listStations [63] rfl, rfl⟩
    · exact ⟨_, _, _, asked_passes up .listStations [64] rfl, rfl⟩

theorem witness_StationsArePinnedAndUnpinned :
    (∃ (s : State) (t : Fin 4) (r : Request) (a : Addr) (i : Fin 64) (e : StationEntry),
      s.Passes t .pinStation r ∧ r.Names 0 a ∧ byteAt r.args 2 = 1 ∧ s.stations.Has a i e) ∧
    (∃ (s : State) (t : Fin 4) (r : Request) (a : Addr) (i : Fin 64),
      s.Passes t .pinStation r ∧ r.Names 0 a ∧ byteAt r.args 2 = 0 ∧ s.stations.Lacks a ∧ s.stations.Room i) ∧
    (∃ (s : State) (t : Fin 4) (r : Request) (a : Addr), s.Passes t .pinStation r ∧ r.Names 0 a ∧
      byteAt r.args 2 = 0 ∧ s.stations.Lacks a ∧ ∀ i : Fin 64, s.stations.entries[i] ≠ none) ∧
    (∃ (s : State) (t : Fin 4) (r : Request), s.Passes t .pinStation r ∧ r.NamesNone 0) ∧
    (∃ (s : State) (t : Fin 4) (r : Request), s.Passes t .pinStation r ∧ (byteAt r.args 2).toNat = 2) ∧
    (∃ (s : State) (t : Fin 4) (r : Request) (a : Addr) (i : Fin 64) (e : StationEntry),
      s.Passes t .unpinStation r ∧ r.Names 0 a ∧ s.stations.Has a i e) ∧
    (∃ (s : State) (t : Fin 4) (r : Request) (a : Addr),
      s.Passes t .unpinStation r ∧ r.Names 0 a ∧ s.stations.Lacks a) ∧
    ∃ (s : State) (t : Fin 4) (r : Request), s.Passes t .unpinStation r ∧ r.NamesNone 0 :=
  ⟨⟨_, _, _, 1, 0, station 1, asked_passes (withTable (table 0 (station 1))) .pinStation [0, 1, 1, 9] rfl,
      ⟨by decide, by decide, by decide⟩, rfl, table_has 0 (station 1)⟩,
    ⟨_, _, _, 4094, 0, asked_passes up .pinStation [15, 254, 0, 9] rfl, ⟨by decide, by decide, by decide⟩, rfl,
      empty_lacks _, empty_room⟩,
    ⟨_, _, _, 65, asked_passes (withTable fullTable) .pinStation [0, 65, 0, 9] rfl,
      ⟨by decide, by decide, by decide⟩, rfl, full_lacks, fun i => by
        show fullTable.entries[i] ≠ none
        rw [full_entries]
        exact nofun⟩,
    ⟨_, _, _, asked_passes up .pinStation [15, 255, 0, 9] rfl, Or.inr (by decide)⟩,
    ⟨_, _, _, asked_passes up .pinStation [0, 1, 2, 9] rfl, by decide⟩,
    ⟨_, _, _, 1, 0, station 1, asked_passes (withTable (table 0 (station 1))) .unpinStation [0, 1] rfl,
      ⟨by decide, by decide, by decide⟩, table_has 0 (station 1)⟩,
    ⟨_, _, _, 1, asked_passes up .unpinStation [0, 1] rfl, ⟨by decide, by decide, by decide⟩, empty_lacks _⟩,
    ⟨_, _, _, asked_passes up .unpinStation [0, 0] rfl, Or.inl (by decide)⟩⟩

theorem witness_StationsAreRemoved :
    (∃ (s : State) (t : Fin 4) (r : Request) (a : Addr) (i : Fin 64) (e : StationEntry),
      s.Passes t .removeStation r ∧ r.Names 0 a ∧ s.stations.Has a i e) ∧
    (∃ (s : State) (t : Fin 4) (r : Request) (a : Addr),
      s.Passes t .removeStation r ∧ r.Names 0 a ∧ s.stations.Lacks a) ∧
    (∃ (s : State) (t : Fin 4) (r : Request), s.Passes t .removeStation r ∧ r.NamesNone 0) ∧
    ∃ (s : State) (t : Fin 4) (r : Request), s.Passes t .flushLearned r :=
  ⟨⟨_, _, _, 1, 0, station 1, asked_passes (withTable (table 0 (station 1))) .removeStation [0, 1] rfl,
      ⟨by decide, by decide, by decide⟩, table_has 0 (station 1)⟩,
    ⟨_, _, _, 1, asked_passes up .removeStation [0, 1] rfl, ⟨by decide, by decide, by decide⟩, empty_lacks _⟩,
    ⟨_, _, _, asked_passes up .removeStation [0, 0] rfl, Or.inl (by decide)⟩,
    ⟨_, _, _, asked_passes up .flushLearned [] rfl⟩⟩

theorem witness_ReadContextReportsTheContext :
    (∃ (s : State) (t : Fin 4) (r : Request), s.Passes t .readContext r ∧ (byteAt r.args 0).toNat = 48) ∧
    (∀ b : ContextState, ∃ (s : State) (t : Fin 4) (r : Request), s.Passes t .readContext r ∧
      (byteAt r.args 0).toNat = (47 : Fin 48).val ∧ s.reassembly.contexts[(47 : Fin 48)].body = b) ∧
    (∃ (s : State) (t : Fin 4) (r : Request) (m : Message) (g : Gathered), s.Passes t .readContext r ∧
      (byteAt r.args 0).toNat = (0 : Fin 48).val ∧ s.reassembly.contexts[(0 : Fin 48)].body = .complete m ∧
      s.classifier.state = .classifying 0 g) ∧
    ∃ (s : State) (t : Fin 4) (r : Request) (m : Message), s.Passes t .readContext r ∧
      (byteAt r.args 0).toNat = (0 : Fin 48).val ∧ s.reassembly.contexts[(0 : Fin 48)].body = .complete m ∧
      (∀ g, s.classifier.state ≠ .classifying 0 g) ∧ s.reassembly.pendingList[0]? = some 0 := by
  refine ⟨⟨_, _, _, asked_passes up .readContext [48] rfl, rfl⟩,
    fun b => ⟨_, _, _, asked_passes (withContext 47 b up) .readContext [47] rfl, rfl, ?_⟩,
    ⟨_, _, _, _, .memoryError, asked_passes (classifying .memoryError) .readContext [0] rfl, rfl, rfl, rfl⟩,
    ⟨_, _, _, message 3 oneBlock, asked_passes ((withContext 0 (.complete (message 3 oneBlock)) up).withReassembly
      { (withContext 0 (.complete (message 3 oneBlock)) up).reassembly with pendingList := [0] }) .readContext [0] rfl,
      rfl, rfl, nofun, rfl⟩⟩
  show (up.reassembly.contexts.set (47 : Fin 48) { body := b, lastAbort := .none })[(47 : Fin 48)].body = b
  rw [getElem_set_fin]
  rfl

theorem witness_ProgramsAndHitsAreReported :
    (∀ b : Byte, b = 0 ∨ b = 1 ∨ b = 2 → ∀ e : EditState, ∃ (s : State) (t : Fin 4) (r : Request),
      s.Passes t .readClause r ∧ byteAt r.args 0 = b ∧ s.program.edit = e) ∧
    ∀ b : Byte, b = 241 ∨ b = 255 → ∃ (s : State) (t : Fin 4) (r : Request), s.Passes t .readHits r ∧ r.args = [b] :=
  ⟨fun b _ e => ⟨_, _, _, asked_passes (up.withProgram { up.program with edit := e }) .readClause [b, 255] rfl, rfl,
    rfl⟩, fun b _ => ⟨_, _, _, asked_passes up .readHits [b] rfl, rfl⟩⟩

/-- WRITE_CLAUSE of a TEST with link END and action `action`. -/
def clauseArgs (kind link action : Byte) : List Byte := [255, kind, 9, 3, 0, 1, link, action, 0, 0, 1, 1, 0]

theorem editing_requests_are_checked :
    (∀ k ∈ [RequestKind.writeProbes, .abortEdit, .commit], ∀ args : List Byte, args.length = k.argLength →
      ∃ (s : State) (t : Fin 4) (r : Request), s.Passes t k r ∧ r.ValuesGood k ∧ s.program.edit.holder ≠ some t) ∧
    (∃ (s : State) (t : Fin 4) (r : Request), s.Passes t .writeClause r ∧ ¬ r.ValuesGood .writeClause) ∧
    (∃ (s : State) (t : Fin 4) (r : Request), s.Passes t .writeClause r ∧ r.ValuesGood .writeClause ∧
      s.program.edit.holder ≠ some t) ∧
    (∃ (s : State) (t : Fin 4) (r : Request), s.Passes t .setDefault r ∧ ¬ r.ValuesGood .setDefault) ∧
    (∃ (s : State) (t : Fin 4) (r : Request), s.Passes t .setCount r ∧ ¬ r.ValuesGood .setCount) ∧
    ∃ (s : State) (t : Fin 4) (r : Request) (g : Program) (q : U16), s.Passes t .setCount r ∧
      r.ValuesGood .setCount ∧ s.program.edit = .committing t g q := by
  refine ⟨?_, ⟨_, _, _, asked_passes up .writeClause (clauseArgs 3 1 0) rfl, fun h => absurd h.1 (by decide)⟩,
    ⟨_, _, _, asked_passes up .writeClause (clauseArgs 2 1 3) rfl, ⟨by decide, by decide, by decide, by decide⟩,
      nofun⟩,
    ⟨_, _, _, asked_passes up .setDefault [1, 8, 1] rfl, fun h => absurd h.2.1 (by decide)⟩,
    ⟨_, _, _, asked_passes up .setCount [1, 1] rfl, fun h => absurd (show _ ≤ 256 from h) (by decide)⟩,
    ⟨_, _, _, _, 5, asked_passes committing .setCount [1, 0] rfl, show _ ≤ 256 by decide, rfl⟩⟩
  intro k hk args h
  refine ⟨_, _, _, asked_passes up k args h, ?_, nofun⟩
  simp only [List.mem_cons, List.not_mem_nil, or_false] at hk
  rcases hk with rfl | rfl | rfl <;> trivial

theorem witness_EditingIsCheckedAndSessionsOpenAndClose :
    ((∀ k ∈ [RequestKind.writeProbes, .abortEdit, .commit], ∀ args : List Byte, args.length = k.argLength →
      ∃ (s : State) (t : Fin 4) (r : Request), s.Passes t k r ∧ r.ValuesGood k ∧ s.program.edit.holder ≠ some t) ∧
    (∃ (s : State) (t : Fin 4) (r : Request), s.Passes t .writeClause r ∧ ¬ r.ValuesGood .writeClause) ∧
    (∃ (s : State) (t : Fin 4) (r : Request), s.Passes t .writeClause r ∧ r.ValuesGood .writeClause ∧
      s.program.edit.holder ≠ some t) ∧
    (∃ (s : State) (t : Fin 4) (r : Request), s.Passes t .setDefault r ∧ ¬ r.ValuesGood .setDefault) ∧
    (∃ (s : State) (t : Fin 4) (r : Request), s.Passes t .setCount r ∧ ¬ r.ValuesGood .setCount) ∧
    ∃ (s : State) (t : Fin 4) (r : Request) (g : Program) (q : U16), s.Passes t .setCount r ∧
      r.ValuesGood .setCount ∧ s.program.edit = .committing t g q) ∧
    (∃ (s : State) (t : Fin 4) (r : Request), s.Passes t .openEdit r ∧ s.program.edit = .none) ∧
    (∃ (s : State) (t : Fin 4) (r : Request), s.Passes t .openEdit r ∧ s.program.edit ≠ .none) ∧
    ∃ (s : State) (t : Fin 4) (r : Request) (g : Program) (z : U32),
      s.Passes t .abortEdit r ∧ s.program.edit = .editing t g z :=
  ⟨editing_requests_are_checked, ⟨_, _, _, asked_passes up .openEdit [] rfl, rfl⟩, ⟨_, _, _, asked_passes editing .openEdit [] rfl, nofun⟩,
    ⟨_, _, _, _, 10, asked_passes editing .abortEdit [] rfl, rfl⟩⟩

theorem witness_StagingProgramIsWritten :
    (∀ x : Byte × Byte × Byte, x ∈ [(0, 0, 0), (0, 1, 0), (0, 1, 1), (0, 1, 2), (0, 1, 3), (1, 0, 0), (2, 0, 0)] →
      ∃ (s : State) (t : Fin 4) (r : Request) (g : Program) (z : U32), s.Passes t .writeClause r ∧
        r.ValuesGood .writeClause ∧ s.program.edit = .editing t g z ∧ byteAt r.args 1 = x.1 ∧
        byteAt r.args 6 = x.2.1 ∧ byteAt r.args 7 = x.2.2) ∧
    (∃ (s : State) (t : Fin 4) (r : Request) (g : Program) (z : U32), s.program.edit = .editing t g z ∧
      s.Passes t .writeProbes r) ∧
    (∀ b : Byte, b = 1 ∨ b = 3 → ∃ (s : State) (t : Fin 4) (r : Request) (g : Program) (z : U32) (q : Fin 8),
      s.program.edit = .editing t g z ∧ s.Passes t .setDefault r ∧ r.ValuesGood .setDefault ∧ byteAt r.args 0 = b ∧
      (byteAt r.args 1).toNat = q.val) ∧
    ∃ (s : State) (t : Fin 4) (r : Request) (g : Program) (z : U32), s.program.edit = .editing t g z ∧
      s.Passes t .setCount r ∧ r.ValuesGood .setCount ∧ (word16At r.args 0).toNat = 256 := by
  refine ⟨?_, ⟨_, _, _, _, 10, rfl, asked_passes editing .writeProbes [0, 0, 255, 255, 255, 255, 255, 255] rfl⟩, ?_,
    ⟨_, _, _, _, 10, rfl, asked_passes editing .setCount [1, 0] rfl, show _ ≤ 256 by decide, by decide⟩⟩
  · intro x hx
    refine ⟨_, _, _, _, 10, asked_passes editing .writeClause (clauseArgs x.1 x.2.1 x.2.2) rfl, ?_, rfl, rfl, rfl, rfl⟩
    simp only [List.mem_cons, List.not_mem_nil, or_false] at hx
    rcases hx with rfl | rfl | rfl | rfl | rfl | rfl | rfl <;> exact ⟨by decide, by decide, by decide, by decide⟩
  · rintro b (rfl | rfl)
    · exact ⟨_, _, _, _, 10, 7, rfl, asked_passes editing .setDefault [1, 7, 1] rfl,
        ⟨Or.inl rfl, by decide, by decide⟩, rfl, rfl⟩
    · exact ⟨_, _, _, _, 10, 7, rfl, asked_passes editing .setDefault [3, 7, 0] rfl,
        ⟨Or.inr rfl, by decide, by decide⟩, rfl, rfl⟩

/-- A program of no clauses. -/
theorem empty_fails (g : Program) (h : g.count = 0) : ∀ pos reason, pos < g.count → ¬ g.Fails pos reason :=
  fun pos _ hp => by omega

theorem powerOn_valid : Program.powerOn.Valid := by
  refine ⟨empty_fails _ rfl, fun i ⟨o, ho, _⟩ => ?_⟩
  have h : Program.powerOn.probes[i] = none := by
    show (Vector.replicate 4 (none : Option U16))[i.val] = none
    simp
  rw [h] at ho
  exact nomatch ho

/-- A program with a property code above 9 in position 0, and one with a probe offset above 4,094. -/
def badClause : Program :=
  { Program.powerOn with count := 1, clauses := Program.powerOn.clauses.set 0 (.testEnd 10 0 0 .none) }
def badProbe : Program := { Program.powerOn with probes := Program.powerOn.probes.set 3 (some 4095) }

theorem badClause_refused : badClause.Refused 0 1 := by
  refine Or.inl ⟨by decide, Or.inr (Or.inl ⟨10, 0, 0, .none, ⟨by decide, rfl⟩, by decide⟩), fun n hn => ?_,
    fun pos hp => absurd hp (by omega)⟩
  obtain rfl : n = 0 := by omega
  exact id

theorem badProbe_refused : badProbe.Refused 259 8 := by
  have h : ∀ j : Fin 4, j < 3 → badProbe.probes[j] = none := by decide
  refine Or.inr ⟨empty_fails _ rfl, rfl, 3, rfl, ⟨4095, rfl, by decide⟩, fun j hj ⟨o, ho, _⟩ => ?_⟩
  rw [h j hj] at ho
  exact nomatch ho

def editingOf (g : Program) : State := up.withProgram { up.program with edit := .editing 0 g 10 }

theorem witness_CommitValidatesTheProgram :
    (∀ x : Program × Nat × Nat, x = (badClause, 0, 1) ∨ x = (badProbe, 259, 8) →
      ∃ (s : State) (t : Fin 4) (r : Request) (z : U32), s.Passes t .commit r ∧
        s.program.edit = .editing t x.1 z ∧ x.1.count ≤ 256 ∧ x.1.Refused x.2.1 x.2.2) ∧
    (∃ (s : State) (t : Fin 4) (r : Request) (g : Program) (z : U32), s.Passes t .commit r ∧
      s.program.edit = .editing t g z ∧ g.count ≤ 256 ∧ g.Valid ∧ s.classifier.state = .idle) ∧
    ∃ (s : State) (t : Fin 4) (r : Request) (g : Program) (z : U32), s.Passes t .commit r ∧
      s.program.edit = .editing t g z ∧ g.count ≤ 256 ∧ g.Valid ∧ s.classifier.state ≠ .idle := by
  refine ⟨?_, ⟨_, _, _, _, 10, asked_passes editing .commit [] rfl, rfl, by decide, powerOn_valid, rfl⟩,
    ⟨_, _, _, _, 10, asked_passes (editing.withClassifier { up.classifier with state := .classifying 0 .memoryError })
      .commit [] rfl, rfl, by decide, powerOn_valid, nofun⟩⟩
  rintro x (rfl | rfl)
  · exact ⟨_, _, _, 10, asked_passes (editingOf badClause) .commit [] rfl, rfl, by decide, badClause_refused⟩
  · exact ⟨_, _, _, 10, asked_passes (editingOf badProbe) .commit [] rfl, rfl, by decide, badProbe_refused⟩

theorem witness_SessionsEndBySwapOrTimeout :
    (committing.program.edit = .committing 0 up.program.active 5 ∧ committing.classifier.state = .idle) ∧
    ((withSession awaiting committing).program.edit = .committing 0 up.program.active 5 ∧
      (withSession awaiting committing).management.sessions[(0 : Fin 4)].awaitsSwap = true ∧
      (withSession awaiting committing).management.sessions[(0 : Fin 4)].lastSequence = some 5) ∧
    (withSession (session false none) committing).management.sessions[(0 : Fin 4)].awaitsSwap = false ∧
    editing.program.edit = .editing 0 up.program.active 10 ∧
    reached (later 10 editing).events.timebase 10 = true ∧ reached (later 9 editing).events.timebase 10 = false := by
  refine ⟨⟨rfl, rfl⟩, ⟨rfl, by decide, by decide⟩, by decide, rfl, by decide, by decide⟩

/-! ### Witnesses: queues, hold, counters and events -/

theorem queued_records : (queued 7).delivery.queues[(7 : Fin 8)].records ≠ [] := by decide +kernel

theorem witness_QueuesAreReadHaltedRestartedAndFlushed :
    ∀ k ∈ [RequestKind.readQueue, .haltQueue, .restartQueue, .flushQueue],
      (∃ (s : State) (t : Fin 4) (r : Request) (q : Fin 8), s.Passes t k r ∧ (byteAt r.args 0).toNat = q.val ∧
        q = 7 ∧ s.delivery.queues[q].records ≠ []) ∧
      ∃ (s : State) (t : Fin 4) (r : Request), s.Passes t k r ∧ (byteAt r.args 0).toNat = 8 := by
  intro k hk
  have hl : k.argLength = 1 := by
    simp only [List.mem_cons, List.not_mem_nil, or_false] at hk
    rcases hk with rfl | rfl | rfl | rfl <;> rfl
  exact ⟨⟨_, _, _, 7, asked_passes (queued 7) k [7] hl.symm, rfl, rfl, queued_records⟩,
    ⟨_, _, _, asked_passes up k [8] hl.symm, rfl⟩⟩

theorem witness_TrunkTransmitterSendsItsCells :
    State.reset.trunkRx.link = .down ∧ up.trunkRx.link = .up ∧ up.trunkTx.inFlight = none ∧
    ∀ l : TrunkLink, ∃ s : State, s.trunkRx.link = l ∧ s.trunkTx.inFlight = some (.hold 1 2000) :=
  ⟨rfl, rfl, rfl, fun l => ⟨(up.withTrunkRx { up.trunkRx with link := l }).withTrunkTx { up.trunkTx with
    inFlight := some (.hold 1 2000) }, rfl, rfl⟩⟩

theorem witness_HoldIsEvaluatedAndRefreshed :
    (∀ l : TrunkLink, ∀ m : HoldMode, ∀ n : Nat, n = 511 ∨ n = 512 ∨ n = 255 ∨ n = 256 →
      ∃ s : State, s.trunkRx.link = l ∧ s.hold = { mode := m, lastFree := n } ∧ s.params.hOn = 256 ∧
        s.params.hOff = 512) ∧
    reached (later 10 holding).events.timebase 10 = true ∧ reached (later 9 holding).events.timebase 10 = false ∧
    holding.hold.mode = .holding 10 ∧ up.hold.mode = .quiet :=
  ⟨fun l m n _ => ⟨(up.withTrunkRx { up.trunkRx with link := l }).withHold { mode := m, lastFree := n }, rfl, rfl, rfl,
    rfl⟩, by decide, by decide, rfl, rfl⟩

theorem witness_HoldAndReleaseAreSent :
    (∀ b : Byte, b = 1 ∨ b = 2 → ∀ l : TrunkLink, ∀ m : HoldMode, ∃ (s : State) (t : Fin 4) (r : Request),
      s.Passes t .sendHold r ∧ word16At r.args 0 = (0 : Byte) ++ b ∧ s.trunkRx.link = l ∧ s.hold.mode = m) ∧
    ∀ l : TrunkLink, ∀ m : HoldMode, ∃ (s : State) (t : Fin 4) (r : Request), s.Passes t .sendRelease r ∧
      s.trunkRx.link = l ∧ s.hold.mode = m :=
  ⟨fun b _ l m => ⟨_, _, _, asked_passes ((up.withTrunkRx { up.trunkRx with link := l }).withHold
      { up.hold with mode := m }) .sendHold [0, b] rfl, rfl, rfl, rfl⟩,
    fun l m => ⟨_, _, _, asked_passes ((up.withTrunkRx { up.trunkRx with link := l }).withHold
      { up.hold with mode := m }) .sendRelease [] rfl, rfl, rfl⟩⟩

theorem witness_CounterGroupsAreReadAndCleared :
    (∀ g : Byte, g = 0 ∨ g = 1 ∨ g = 2 ∨ g = 3 ∨ g = 4 ∨ g = 5 ∨ g = 6 ∨ g = 7 ∨ g = 8 →
      (∃ (s : State) (t : Fin 4) (r : Request), s.Passes t .clearCounters r ∧ byteAt r.args 0 = g) ∧
      ∀ c : Byte, c = 0 ∨ c = 1 ∨ c = 2 → ∃ (s : State) (t : Fin 4) (r : Request), s.Passes t .readCounters r ∧
        byteAt r.args 0 = g ∧ byteAt r.args 1 = c) :=
  fun g _ => ⟨⟨_, _, _, asked_passes up .clearCounters [g] rfl, rfl⟩,
    fun c _ => ⟨_, _, _, asked_passes up .readCounters [g, c] rfl, rfl, rfl⟩⟩

/-- Up, with the slot of CELL_ERROR as given. -/
def withSlot (x : EventSlot) (s : State) : State :=
  s.withEvents { s.events with slots := s.events.slots.set (0 : Fin 22) x }

theorem witness_PostingsAreCoalesced :
    (∀ x : EventSlot, (withSlot x up).events.slots[EventKind.cellError.slot] = x) ∧
    (∀ x : EventSlot, (sending (.event []) (withSlot x up)).events.slots[EventKind.cellError.slot] = x) ∧
    (sending (.event []) up).uplink.lane.isEvent = true ∧ up.uplink.lane.isEvent = false ∧
    ∃ s : State, s.events.timer = some 10 ∧ reached (later 10 s).events.timebase 10 = true ∧
      reached (later 9 s).events.timebase 10 = false :=
  ⟨fun _ => rfl, fun _ => rfl, rfl, rfl, up.withEvents { up.events with timer := some 10 }, rfl, by decide, by decide⟩

theorem witness_EventSlotsAreSetAndFlushed :
    (∀ w : Byte × Byte, w ∈ [(0, 0), (23, 1), (1, 2)] → ∃ (s : State) (t : Fin 4) (r : Request),
      s.Passes t .setEvents r ∧ r.args = [w.1, w.2]) ∧
    (∀ b : Byte, b = 0 ∨ b = 1 → ∃ (s : State) (t : Fin 4) (r : Request) (i : Fin 22), s.Passes t .setEvents r ∧
      (byteAt r.args 0).toNat = i.val + 1 ∧ i = 21 ∧ byteAt r.args 1 = b ∧ s.events.slots[i].enabled = true) ∧
    (∃ (s : State) (t : Fin 4) (r : Request) (i : Fin 22), s.Passes t .setEvents r ∧
      (byteAt r.args 0).toNat = i.val + 1 ∧ byteAt r.args 1 = 0 ∧ s.events.slots[i].enabled = false) ∧
    (∃ (s : State) (t : Fin 4) (r : Request), s.Passes t .flushEvents r ∧ s.uplink.lane.isEvent = false ∧
      0 < s.events.sum) ∧
    (∃ (s : State) (t : Fin 4) (r : Request), s.Passes t .flushEvents r ∧ s.uplink.lane.isEvent = false ∧
      s.events.sum = 0) ∧
    ∃ (s : State) (t : Fin 4) (r : Request), s.Passes t .flushEvents r ∧ s.uplink.lane.isEvent = true :=
  ⟨fun w _ => ⟨_, _, _, asked_passes up .setEvents [w.1, w.2] rfl, rfl⟩,
    fun b _ => ⟨_, _, _, 21, asked_passes up .setEvents [22, b] rfl, rfl, rfl, rfl, rfl⟩,
    ⟨_, _, _, 0, asked_passes (withSlot { EventSlot.fresh with enabled := false } up) .setEvents [1, 0] rfl, rfl, rfl,
      rfl⟩,
    ⟨_, _, _, asked_passes eventDue .flushEvents [] rfl, rfl, by decide⟩,
    ⟨_, _, _, asked_passes up .flushEvents [] rfl, rfl, by decide⟩,
    ⟨_, _, _, asked_passes (sending (.event []) up) .flushEvents [] rfl, rfl⟩⟩

/-! ### Witnesses: the pool and reassembly -/

/-- A pool whose block 0 holds `n` bytes of 5, with the free list `free`. -/
def poolWith (n : Nat) (free : List Nat) : BlockPool := { poolOf (List.replicate n 5) with free := free }

theorem forms_one (p : BlockPool) (h : (p.fields 0).link = none) (hf : (p.fields 0).fill ≤ 64) :
    p.Forms oneBlock [0] where
  count := rfl
  head := rfl
  tail := rfl
  links i hi := by
    obtain rfl : i = 0 := by simpa using hi
    simpa using h
  full i hi := absurd hi (by simp)
  room := hf
  distinct := by simp

theorem witness_StoredPayloadFollowsTheMessage :
    (((poolOf [1, 2, 3]).fields 0).fill ≤ 64 ∧ (poolOf [1, 2, 3]).verifies 0 = true) ∧
    (∀ n : Nat, n = 1 ∨ n = 56 → ∃ payload : List Byte, payload.length = n) ∧
    (State.reset.pool.Canonical ∧ ∃ b rest, State.reset.pool.free = b :: rest) ∧
    (∃ p : BlockPool, p.Canonical ∧ p.free = []) ∧
    ∀ n : Nat, n = 8 ∨ n = 9 → ∀ free : List Nat, free = [] ∨ free = [4] →
      ∃ p : BlockPool, p.Canonical ∧ p.free = free ∧ p.Forms oneBlock [0] ∧ (∀ b ∈ [0], b ∉ p.free) ∧
        (p.fields oneBlock.tail).fill = n ∧ (n = 8 → n + 56 ≤ 64) ∧ (n = 9 → 64 < n + 56) := by
  refine ⟨⟨by decide +kernel, by decide +kernel⟩, fun n _ => ⟨List.replicate n 0, by simp⟩, ⟨⟨rfl, rfl, rfl⟩, 0, (List.range 2048).tail, by decide +kernel⟩,
    ⟨{ State.reset.pool with free := [] }, ⟨rfl, rfl, rfl⟩, rfl⟩, ?_⟩
  have canonical : ∀ n ∈ [8, 9], ∀ free ∈ [[], [4]], Memory.wf (poolWith n free).content = true ∧
      Sparse.wf BlockFields.unwritten (poolWith n free).blocks = true ∧
      Sparse.wf ChainEntry.absent (poolWith n free).chains = true ∧ ((poolWith n free).fields 0).link = none ∧
      ((poolWith n free).fields 0).fill = n ∧ 0 ∉ free := by decide +kernel
  intro n hn free hf
  obtain ⟨h1, h2, h3, h4, h5, h6⟩ := canonical n (by simpa using hn) free (by simpa using hf)
  exact ⟨poolWith n free, ⟨h1, h2, h3⟩, rfl, forms_one _ h4 (by omega), fun b hb => by
    obtain rfl : b = 0 := by simpa using hb
    exact h6, h5, fun h => by omega, fun h => by omega⟩

/-- Up, with block 0 in a chain of `refs` references. -/
def shared (refs : Nat) : State :=
  up.withPool ((poolOf [1, 2, 3]).setChainEntry 0 { tail := 0, count := 1, refs := refs })

theorem witness_ChainsAreReleased :
    ∀ refs : Nat, refs = 1 ∨ refs = 2 → (shared refs).pool.Canonical ∧
      (shared refs).pool.chainEntry 0 = { tail := 0, count := 1, refs := refs } ∧
      (shared refs).pool.Forms { head := 0, tail := 0, count := 1 } [0] := by
  rintro refs (rfl | rfl) <;>
    exact ⟨⟨by decide +kernel, by decide +kernel, by decide +kernel⟩, by decide +kernel,
      forms_one _ (by decide +kernel) (by decide +kernel)⟩

/-- Up, with station 5 in position 0, a cell in the stream and the given free list. -/
def starting (k : DataKind) (free : List Nat) : State :=
  ((up.withStations (table 0 (station 5))).withPool { State.reset.pool with free := free }).withStream
    [.cell (queueCell k 0 [1, 2, 3])]

def noFreeContext (s : State) : State :=
  let c : Context := { body := .complete (message 3 oneBlock), lastAbort := .none }
  s.withReassembly { s.reassembly with contexts := Vector.replicate 48 c }

theorem free_body (i : Fin 48) : up.reassembly.contexts[i].body = .free := by
  show (Vector.replicate 48 Context.fresh)[i.val].body = _
  simp [Context.fresh]

theorem witness_MessagesStart :
    ∀ k : DataKind, k = .only ∨ k = .first → ∀ free : List Nat, free = [] ∨ free = [4] →
      (starting k free).stream = .cell (queueCell k 0 [1, 2, 3]) :: [] ∧ (queueCell k 0 [1, 2, 3]).kind = k ∧
      (starting k free).KeyFree 5 3 ∧ (starting k free).stations.Unique ∧
      (starting k free).stations.OpenCount 5 1 ∧ 1 < (starting k free).params.contextsPerStation ∧
      (starting k free).LowestFree 0 ∧ (noFreeContext (starting k free)).KeyFree 5 3 ∧
      (∀ i : Fin 48, (noFreeContext (starting k free)).reassembly.contexts[i].body ≠ .free) ∧
      (∃ s : State, s.stations.OpenCount 5 0 ∧ s.params.contextsPerStation ≤ 0 + 1) ∧
      ∃ p, (starting k [4]).pool.store [1, 2, 3] none = some ({ head := 4, tail := 4, count := 1 }, p) := by
  intro k _ free _
  refine ⟨rfl, rfl, fun j => ?_, table_unique 0 _, Or.inl ⟨0, station 5, table_has 0 (station 5), rfl⟩,
    (by show 1 < 8; decide), ⟨free_body 0, fun j hj => absurd hj (by simp)⟩, fun j => ?_, fun j => ?_,
    ⟨up.withParams { up.params with contextsPerStation := 1 }, Or.inr ⟨empty_lacks _, rfl⟩, by decide⟩, _, rfl⟩
  · show ContextState.hasKey 5 3 up.reassembly.contexts[j].body = false
    rw [free_body]
    rfl
  · show ContextState.hasKey 5 3 (Vector.replicate 48 ({ body := .complete (message 3 oneBlock), lastAbort := .none } : Context))[j.val].body = false
    simp [ContextState.hasKey]
  · show (Vector.replicate 48 ({ body := .complete (message 3 oneBlock), lastAbort := .none } : Context))[j.val].body ≠ _
    simp

theorem withContext_body (b : ContextState) (s : State) (j : Fin 48) (h : ∀ j : Fin 48, s.reassembly.contexts[j].body = .free) :
    (withContext 0 b s).reassembly.contexts[j].body = if j = 0 then b else .free := by
  show (s.reassembly.contexts.set (0 : Fin 48) { body := b, lastAbort := .none })[j].body = _
  rw [getElem_set_fin]
  split
  · rfl
  · exact h j

theorem withContext_held (b : ContextState) (s : State) (hk : b.hasKey 5 3 = true)
    (h : ∀ j : Fin 48, s.reassembly.contexts[j].body = .free) : (withContext 0 b s).KeyHeld 5 3 0 := by
  intro j
  rw [withContext_body b s j h]
  split
  · rename_i hj
    exact ⟨fun _ => hj, fun _ => hk⟩
  · rename_i hj
    exact ⟨fun h => absurd h (by decide), fun h => absurd h hj⟩

theorem witness_ContextsEndByReasonOrTimer :
    (∀ r : AbortReason, r ∈ [.restart, .flushed, .trunkLoss] → ∀ b : ContextState,
      ∃ s : State, s.stations.Unique ∧ s.reassembly.contexts[(0 : Fin 48)].body = b) ∧
    (∀ k : DataKind, (openWith (queueCell k 0 [9])).stream = [.cell (queueCell k 0 [9])] ∧
      (queueCell k 0 [9]).kind = k ∧ (openWith (queueCell k 0 [9])).KeyHeld 5 3 0 ∧
      (discardingWith (queueCell k 0 [9])).KeyHeld 5 3 0) ∧
    ∀ s : State, reached (later 50000 s).events.timebase 50000 = true ∧
      reached (later 49999 s).events.timebase 50000 = false :=
  ⟨fun _ _ b => ⟨withContext 0 b (up.withStations (table 0 (station 5))), table_unique 0 _,
      (withContext_body b (up.withStations (table 0 (station 5))) 0 free_body).trans (if_pos rfl)⟩,
    fun _ => ⟨rfl, rfl, withContext_held _ _ (by decide) free_body, withContext_held _ _ (by decide) free_body⟩,
    fun _ => ⟨by show reached 50000 50000 = true; decide, by show reached 49999 50000 = false; decide⟩⟩

theorem witness_InOrderCellsExtendTheMessage :
    ∀ k : DataKind, k = .middle ∨ k = .last →
      let c := queueCell k 1 [9]
      (openWith c).stream = [.cell c] ∧ c.kind = k ∧ (openWith c).KeyHeld 5 3 0 ∧ (openWith c).stations.Unique ∧
      (∃ m z, (openWith c).reassembly.contexts[(0 : Fin 48)].body = .opened m 1 z ∧ c.sequence = 1 ∧
        m.byteCount + c.payload.length ≤ (openWith c).params.maxLength ∧
        ∃ ch p, (openWith c).pool.store c.payload (some m.chain) = some (ch, p)) := by
  intro k _
  exact ⟨rfl, rfl, withContext_held _ _ (by decide) free_body, table_unique 0 _, message 3 oneBlock, 50000, rfl, rfl,
    (by show 3 + 1 ≤ 4096; decide), ⟨_, _, rfl⟩⟩

/-- A message of 4,095 bytes in a pool without a free block, whose tail is full. -/
def longOpen (c : AdmittedCell) : State :=
  withContext 0 (.opened (message 4095 oneBlock) 1 50000) (((up.withStations (table 0 (station 5))).withPool
    (poolWith 64 [])).withStream [.cell c])

theorem witness_OtherCellsAreDropped :
    ∀ k : DataKind, k = .middle ∨ k = .last →
      (∀ q : Seq, q = 0 ∨ q = 1 ∨ q = 2 → (openWith (queueCell k q [9])).KeyHeld 5 3 0 ∧
        (queueCell k q [9]).sequence = q ∧ (openWith (queueCell k q [9])).stations.Unique) ∧
      (discardingWith (queueCell k 0 [9])).KeyHeld 5 3 0 ∧ (discardingWith (queueCell k 0 [9])).stations.Unique ∧
      (up.withStream [.cell (queueCell k 0 [9])]).KeyFree 5 3 ∧ (longOpen (queueCell k 1 [9, 9])).KeyHeld 5 3 0 ∧
      (longOpen (queueCell k 1 [9, 9])).params.maxLength < 4095 + [9, 9].length ∧
      4095 + [9].length ≤ (longOpen (queueCell k 1 [9])).params.maxLength ∧
      (longOpen (queueCell k 1 [9])).pool.store [9] (some oneBlock) = none := by
  intro k _
  refine ⟨fun q _ => ⟨withContext_held _ _ (by decide) free_body, rfl, table_unique 0 _⟩,
    withContext_held _ _ (by decide) free_body, table_unique 0 _, fun j => ?_,
    withContext_held _ _ (by decide) free_body, (by show 4096 < 4095 + 2; decide), (by show 4095 + 1 ≤ 4096; decide), ?_⟩
  · show ContextState.hasKey 5 3 up.reassembly.contexts[j].body = false
    rw [free_body]
    rfl
  · show (poolWith 64 []).store [9] (some oneBlock) = none
    decide +kernel

theorem witness_TrunkLossAndRemovalsEndContexts :
    State.reset.trunkRx.link = .down ∧ up.trunkRx.link = .up ∧
    (∃ (s : State) (stations : List Addr) (rest : List StreamItem), s.stream = .removal stations :: rest ∧
      s.management.unit = .idle) ∧
    ∀ k : RequestKind, k = .removeStation ∨ k = .flushLearned →
      ∃ (s : State) (stations : List Addr) (rest : List StreamItem) (t : Fin 4) (q : U16),
        s.stream = .removal stations :: rest ∧ s.management.unit = .executing t q k :=
  ⟨rfl, rfl, ⟨up.withStream [.removal [5]], [5], [], rfl, rfl⟩, fun k _ => ⟨(up.withStream
    [.removal [5]]).withManagement { up.management with unit := .executing 0 7 k }, [5], [], 0, 7, rfl, rfl⟩⟩

/-! ### Witnesses: cells and the Classifier -/

/-- Units that pass the check, by kind code, source and payload length, to station 77. -/
def unitOf (code : BitVec 4) (source : Addr) (n : Nat) : LaneUnit :=
  let front := [code ++ (3 : Chan), 4, (13 : BitVec 4) ++ source.extractLsb' 8 4, source.extractLsb' 0 8, 0, natByte n, 9]
    ++ List.replicate n 1
  lane (front ++ be16 (crc16 front))

/-- The first two conditions of the statement about admission. -/
def passesCheck (u : LaneUnit) : Prop :=
  9 ≤ u.bytes.length ∧ u.codingError = false ∧
    crc16 (u.bytes.take (u.bytes.length - 2)) = word16At u.bytes (u.bytes.length - 2)

theorem composed_passes (front : List Byte) (h : 7 ≤ front.length) :
    passesCheck (lane (front ++ be16 (crc16 front))) := by
  have hn : (front ++ be16 (crc16 front)).length = front.length + 2 := by simp [be16]
  refine ⟨by show 9 ≤ (front ++ be16 (crc16 front)).length; omega, rfl, ?_⟩
  show crc16 ((front ++ _).take ((front ++ _).length - 2)) = word16At (front ++ _) ((front ++ _).length - 2)
  rw [hn, Nat.add_sub_cancel, List.take_left, word16At_end]

/-- What a unit is when it passes the check: its length, its kind code, its source and its payload length. -/
def Passing (u : LaneUnit) (n : Nat) (code : BitVec 4) (source : Addr) (payload : Nat) : Prop :=
  passesCheck u ∧ u.bytes.length = n ∧ cellCode u.bytes = code ∧ cellSource u.bytes = source ∧
    cellPayloadLength u.bytes = payload ∧ cellDestination u.bytes = 77

theorem unitOf_passes (code : BitVec 4) (source : Addr) (n : Nat) : passesCheck (unitOf code source n) :=
  composed_passes _ (by simp)

theorem witness_CellsAreRefusedAtAdmission :
    (State.reset.trunkRx.link = .down ∧ (early (unitOf 1 5 1)).begunInUp = false ∧ (unitOf 1 5 1).begunInUp = true) ∧
    (∃ u : LaneUnit, u.bytes.length = 8 ∧ ¬ passesCheck u) ∧
    (∃ u, Passing u 10 0 5 1) ∧ (∃ u, Passing u 10 5 5 1) ∧ (∃ u, Passing u 9 1 5 0) ∧ (∃ u, Passing u 66 4 5 57) ∧
    (∃ u, Passing u 10 8 5 1) ∧ (∃ u, Passing u 9 8 5 0) ∧ (∃ u, Passing u 9 9 5 0) ∧ (∃ u, Passing u 65 1 5 56) ∧
    (∃ u, Passing u 10 4 0 1) ∧ (∃ u, Passing u 65 1 4095 56) ∧
    ∀ a : Addr, ∃ s : State, s.trunkRx.link = .up ∧ s.params.trunkAddress = a :=
  ⟨⟨rfl, rfl, rfl⟩, ⟨lane (List.replicate 8 0), rfl, fun h => absurd h.1 (by decide)⟩,
    ⟨unitOf 0 5 1, unitOf_passes .., rfl, rfl, rfl, rfl, rfl⟩, ⟨unitOf 5 5 1, unitOf_passes .., rfl, rfl, rfl, rfl, rfl⟩,
    ⟨unitOf 1 5 0, unitOf_passes .., rfl, rfl, rfl, rfl, rfl⟩, ⟨unitOf 4 5 57, unitOf_passes .., rfl, rfl, rfl, rfl, rfl⟩,
    ⟨unitOf 8 5 1, unitOf_passes .., rfl, rfl, rfl, rfl, rfl⟩, ⟨unitOf 8 5 0, unitOf_passes .., rfl, rfl, rfl, rfl, rfl⟩,
    ⟨unitOf 9 5 0, unitOf_passes .., rfl, rfl, rfl, rfl, rfl⟩, ⟨unitOf 1 5 56, unitOf_passes .., rfl, rfl, rfl, rfl, rfl⟩,
    ⟨unitOf 4 0 1, unitOf_passes .., rfl, rfl, rfl, rfl, rfl⟩,
    ⟨unitOf 1 4095 56, unitOf_passes .., rfl, rfl, rfl, rfl, rfl⟩,
    fun a => ⟨up.withParams { up.params with trunkAddress := a }, rfl, rfl⟩⟩

theorem witness_AdmittedCellsAreLookedUp :
    (∀ code ∈ [(1 : BitVec 4), 2, 3, 4], ∀ a : Addr, a = 1 ∨ a = 4094 → ∀ n, n = 1 ∨ n = 56 →
      Passing (unitOf code a n) (9 + n) code a n ∧ (unitOf code a n).begunInUp = true) ∧
    up.trunkRx.link = .up ∧ up.params.trunkAddress = 0 ∧
    (∀ a : Addr, a = 77 ∨ a = 78 → ∃ s : State, s.trunkRx.link = .up ∧ s.params.trunkAddress = a) ∧
    (∀ m : Admission, ∃ (s : State) (i : Fin 64) (e : StationEntry), s.trunkRx.link = .up ∧
      s.params.trunkAddress = up.params.trunkAddress ∧ s.stations.Has 5 i e ∧ e.admission = m) ∧
    (up.stations.Lacks 5 ∧ up.stations.Room 0 ∧ learning.params.learning = true ∧
      (up.withParams { up.params with learning := false }).params.learning = false) ∧
    fullTable.Lacks 65 ∧ ∀ i : Fin 64, fullTable.entries[i] ≠ none :=
  ⟨fun code hc a ha n hn => by
      simp only [List.mem_cons, List.not_mem_nil, or_false] at hc
      refine ⟨⟨unitOf_passes .., ?_⟩, rfl⟩
      rcases hc with rfl | rfl | rfl | rfl <;> rcases ha with rfl | rfl <;> rcases hn with rfl | rfl <;>
        exact ⟨rfl, rfl, rfl, rfl, rfl⟩,
    rfl, rfl, fun a _ => ⟨up.withParams { up.params with trunkAddress := a }, rfl, rfl⟩, fun m => ⟨withTable (table 0 { station 5 with admission := m }), 0, _, rfl, rfl,
      table_has 0 { station 5 with admission := m }, rfl⟩, ⟨empty_lacks _, empty_room, rfl, rfl⟩, full_lacks, fun i => by
    rw [full_entries]
    exact nofun⟩

/-- Up, with a COMPLETE message in the pending list. -/
def complete : State :=
  let u := withContext 0 (.complete (message 3 oneBlock)) (up.withPool (poolOf [1, 2, 3]))
  u.withReassembly { u.reassembly with pendingList := [0] }

/-- The power-on program with probe 0 at offset `o`. -/
def probing (o : U16) : Program := { Program.powerOn with probes := Program.powerOn.probes.set (0 : Fin 4) (some o) }

theorem witness_ClassifierTakesTheHeadAndItsProperties :
    ((complete.classifier.state = .idle ∧ complete.reassembly.pendingList = [0] ∧
      (∀ h g q, complete.program.edit ≠ .committing h g q) ∧
      complete.reassembly.contexts[(0 : Fin 48)].body = .complete (message 3 oneBlock)) ∧
    (classifying .memoryError).classifier.state ≠ .idle ∧ (∃ h g q, committing.program.edit = .committing h g q) ∧
    up.reassembly.pendingList = []) ∧
    (poolOf [1, 2, 3]).Forms (message 3 oneBlock).chain [0] ∧
    ((poolOf [1, 2, 3]).payload (message 3 oneBlock).chain).length = (message 3 oneBlock).byteCount ∧
    ((damaged (up.withPool (poolOf [1, 2, 3]))).pool.Forms (message 3 oneBlock).chain [0] ∧
      ((damaged (up.withPool (poolOf [1, 2, 3]))).pool.payload (message 3 oneBlock).chain).length = 3 ∧
      (probing 1).probes[(0 : Fin 4)] = some 1 ∧ (1 : U16).toNat + 2 ≤ 3 ∧
      (damaged (up.withPool (poolOf [1, 2, 3]))).pool.verifies 0 = false) ∧
    3 < (2 : U16).toNat + 2 ∧ (probing 2).probes[(1 : Fin 4)] = none :=
  ⟨⟨⟨rfl, rfl, nofun, rfl⟩, nofun, ⟨0, _, 5, rfl⟩, rfl⟩,
    forms_one _ (by decide +kernel) (by decide +kernel), by decide +kernel,
    ⟨forms_one _ (by decide +kernel) (by decide +kernel), by decide +kernel, rfl, by decide, by decide +kernel⟩,
    by decide, rfl⟩

/-- Programs of one TEST with link END and action `a`, and queue numbers 0 to 7. -/
def oneTest (a : ClauseAction) : Program :=
  { Program.powerOn with count := 1, clauses := Program.powerOn.clauses.set (0 : Fin 256) (.testEnd 0 0 5 a) }

theorem oneTest_valid (a : ClauseAction) (h : ∀ q m, a = .deliver q m → q.toNat ≤ 7)
    (h2 : ∀ q r m, a = .mirror q r m → q.toNat ≤ 7 ∧ r.toNat ≤ 7 ∧ q ≠ r) : (oneTest a).Valid := by
  refine ⟨fun pos reason hp hf => ?_, powerOn_valid.2⟩
  have hc : (oneTest a).count = 1 := rfl
  obtain rfl : pos = 0 := by omega
  have hold : ∀ c, (oneTest a).Holds 0 c → c = .testEnd 0 0 5 a := by
    rintro c ⟨_, hc⟩
    have : (oneTest a).clauses[0]? = some (.testEnd 0 0 5 a) := rfl
    rw [this] at hc
    exact (Option.some.inj hc).symm
  unfold Program.Fails at hf
  split at hf
  · rcases hf with ⟨p, c, o, hh, hn⟩ | ⟨p, c, o, b, hh, hn⟩ | ⟨p, c, o, i, hh, hn⟩
    · exact nomatch hold _ hh
    · cases hold _ hh
      exact absurd hn (by decide)
    · exact nomatch hold _ hh
  · rcases hf with ⟨p, c, o, hh, hn⟩ | ⟨p, c, o, b, hh, hn⟩ | ⟨p, c, o, i, hh, hn⟩
    · exact nomatch hold _ hh
    · cases hold _ hh
      exact absurd hn (by decide)
    · exact nomatch hold _ hh
  · rcases hf with ⟨p, c, o, q, m, hh, hn⟩ | ⟨p, c, o, q, q2, m, hh, hn⟩
    · cases hold _ hh
      exact absurd (h q m rfl) (by omega)
    · cases hold _ hh
      have := h2 q q2 m rfl
      omega
  · obtain ⟨p, c, o, q, m, hh⟩ := hf
    cases hold _ hh
    exact (h2 q q m rfl).2.2 rfl
  · obtain ⟨p, c, o, i, hh, _⟩ := hf
    exact nomatch hold _ hh
  · obtain ⟨⟨m, hh⟩, _⟩ := hf
    exact nomatch hold _ hh
  · rcases hf.2 with ⟨m, hh⟩ | ⟨p, c, o, hh⟩
    · exact nomatch hold _ hh
    · exact nomatch hold _ hh
  · exact hf

theorem oneTest_deliver_valid : (oneTest (.deliver 7 true)).Valid :=
  oneTest_valid _ (fun _ _ h => by cases h; decide) (fun _ _ _ h => nomatch h)

theorem oneTest_mirror_valid : (oneTest (.mirror 7 0 false)).Valid :=
  oneTest_valid _ (fun _ _ h => nomatch h) (fun _ _ _ h => by cases h; decide)

theorem oneTest_discard_valid : (oneTest (.discard false)).Valid :=
  oneTest_valid _ (fun _ _ h => nomatch h) (fun _ _ _ h => nomatch h)

theorem witness_EvaluationFollowsTheTerms :
    (Program.powerOn.count ≤ 256 ∧ Program.powerOn.Valid) ∧
    (oneTest (.deliver 7 true)).count ≤ 256 ∧ (oneTest (.deliver 7 true)).Valid :=
  ⟨⟨by decide, powerOn_valid⟩, by decide, oneTest_deliver_valid⟩

/-- The end step's state with program `g` active. -/
def ending (g : Program) : State :=
  (classifying (.properties noProperties)).withProgram { up.program with active := g }

theorem witness_EndStepCarriesOutTheAction :
    (∀ g : Program, (ending g).classifier.state = .classifying 0 (.properties noProperties) ∧
      (ending g).reassembly.contexts[(0 : Fin 48)].body = .complete (message 3 oneBlock)) ∧
    (∀ x : Program × List Nat × Option ClauseAction,
      x = (oneTest (.deliver 7 true), [0], some (.deliver 7 true)) ∨
      x = (oneTest (.mirror 7 0 false), [0], some (.mirror 7 0 false)) ∨
      x = (oneTest (.discard false), [0], some (.discard false)) ∨ x = (Program.powerOn, [], none) ∨
      x = ({ Program.powerOn with default := .discard }, [], none) →
      x.1.count ≤ 256 ∧ x.1.Valid ∧ x.1.evaluate noProperties = { hits := x.2.1, action := x.2.2 }) ∧
    (classifying .memoryError).classifier.state = .classifying 0 .memoryError := by
  refine ⟨fun g => ⟨rfl, rfl⟩, ?_, rfl⟩
  rintro x (rfl | rfl | rfl | rfl | rfl)
  · exact ⟨by decide, oneTest_deliver_valid, by decide +kernel⟩
  · exact ⟨by decide, oneTest_mirror_valid, by decide +kernel⟩
  · exact ⟨by decide, oneTest_discard_valid, by decide +kernel⟩
  · exact ⟨by decide, powerOn_valid, by decide +kernel⟩
  · exact ⟨by decide, powerOn_valid, by decide +kernel⟩

/-! ### Witnesses: the uplink, the encodings and the invariants -/

theorem witness_UplinkReportsMoveTheLink :
    ∀ l : UplinkLink, ∃ s : State, s.uplink.link = l := fun l => ⟨up.withUplink { up.uplink with link := l }, rfl⟩

/-- Up, with `n` requests in the FIFO. -/
def filled (n : Nat) : State :=
  up.withManagement { up.management with fifo := List.replicate n (ask .getStatus []) }

/-- Up, with credit `c` for queue 7. -/
def credited (c : Byte) : State :=
  up.withDelivery { up.delivery with queues := up.delivery.queues.set (7 : Fin 8) { Queue.fresh with credit := c } }

theorem request_taken : checkInbound (lane (frameBytes 0x20 [0, 0, 7, 1, 0, 0]))
    = .request { tag := 0, sequence := 7, kind := 1, args := [] } := by decide +kernel

theorem witness_InboundFramesAreTaken :
    State.reset.uplink.link ≠ .up ∧ up.uplink.link = .up ∧
    ((early badType).begunInUp = false ∧ badType.begunInUp = true) ∧
    (∃ (u : LaneUnit) (r : Request), u.begunInUp = true ∧ checkInbound u = .request r) ∧
    (filled 7).management.fifo.length < 8 ∧ 8 ≤ (filled 8).management.fifo.length ∧
    (∀ x ∈ [((7 : Byte), (1 : Byte)), (8, 1), (0, 0)], checkInbound (lane (frameBytes 0x21 [x.1, x.2]))
      = .credit x.1 x.2) ∧
    (credited 254).delivery.queues[(7 : Fin 8)].credit.toNat + (1 : Byte).toNat ≤ 255 ∧
    255 < (credited 255).delivery.queues[(7 : Fin 8)].credit.toNat + (1 : Byte).toNat ∧
    ∃ d, checkInbound badType = .error d :=
  ⟨nofun, rfl, ⟨rfl, rfl⟩, ⟨_, _, rfl, request_taken⟩, by decide, by decide, fun x hx => by
    simp only [List.mem_cons, List.not_mem_nil, or_false] at hx
    rcases hx with rfl | rfl | rfl <;> decide +kernel, by decide, by decide, 0x22, by decide +kernel⟩

def someResponse : Response := { tag := 0, sequence := 7, kind := 1, status := .ok, data := [] }

theorem witness_ResponsesAndEventsAreSent :
    (∃ s : State, s.uplink.link = .up ∧ s.uplink.lane = .idle ∧ s.management.responses = [someResponse]) ∧
    (sending (.response someResponse) up).uplink.lane = .response someResponse ∧
    (eventDue.uplink.link = .up ∧ eventDue.uplink.lane = .idle ∧ eventDue.management.responses = [] ∧
      eventDue.events.due = true) ∧ (sending (.event []) up).uplink.lane = .event [] ∧
    State.reset.uplink.link ≠ .up ∧ (sending (.event []) up).uplink.lane ≠ .idle ∧ up.management.responses = [] ∧
    up.events.due = false :=
  ⟨⟨up.withManagement { up.management with responses := [someResponse] }, rfl, rfl, rfl⟩, rfl, ⟨rfl, rfl, rfl, rfl⟩, rfl,
    nofun, nofun, rfl, rfl⟩

/-- Up, with a response that waits. -/
def responding : State := up.withManagement { up.management with responses := [someResponse] }

/-- Up, with one record in queue 7, which is the current queue with `turns` turns left. -/
def turning (turns : Nat) : State :=
  (queued 7).withDelivery { (queued 7).delivery with current := 7, turns := turns }

theorem turning_chooses : (turning 2).Chooses 7 1 ∧ (turning 0).Chooses 7 0 ∧ (queued 0).Chooses 0 0 := by
  unfold State.Chooses
  decide +kernel

/-- No queue of the part at rest is eligible. -/
theorem up_not_eligible (q : Fin 8) : ¬ (up.delivery.queues[q].state = .running ∧ up.delivery.queues[q].records ≠ [] ∧
    1 ≤ up.delivery.queues[q].credit.toNat) := by
  intro h
  have : up.delivery.queues[q].records = [] := by
    revert q
    decide
  exact h.2.1 this

theorem witness_SchedulerStartsADelivery :
    (State.reset.uplink.link ≠ .up ∧ (sending (.event []) up).uplink.lane ≠ .idle ∧
      responding.management.responses ≠ [] ∧ eventDue.events.due = true ∧
      ∀ q : Fin 8, ¬ (up.delivery.queues[q].state = .running ∧ up.delivery.queues[q].records ≠ [] ∧
        1 ≤ up.delivery.queues[q].credit.toNat)) ∧
    ∀ s : State, s = turning 2 ∨ s = turning 0 ∨ s = queued 0 → s.uplink.link = .up ∧ s.uplink.lane = .idle ∧
      s.management.responses = [] ∧ s.events.due = false ∧
      ∃ (q : Fin 8) (turns : Nat), s.Chooses q turns ∧ s.delivery.queues[q].records = [recordOf 3 0] := by
  refine ⟨⟨nofun, nofun, nofun, rfl, up_not_eligible⟩, ?_⟩
  rintro s (rfl | rfl | rfl)
  · exact ⟨rfl, rfl, rfl, rfl, 7, 1, turning_chooses.1, by decide +kernel⟩
  · exact ⟨rfl, rfl, rfl, rfl, 7, 0, turning_chooses.2.1, by decide +kernel⟩
  · exact ⟨rfl, rfl, rfl, rfl, 0, 0, turning_chooses.2.2, by decide +kernel⟩

theorem witness_EmptyQueueMakesReadyWorkOrTimePasses :
    (∀ s : State, s = committing ∨ s = complete ∨ s = up.withStream [.removal [5]] ∨ s = responding →
      s.pending = [] ∧ ∃ c, s.readyWork = some c) ∧
    (committing.classifier.state = .idle ∧ ∃ h g q, committing.program.edit = .committing h g q) ∧
    (complete.classifier.state = .idle ∧ (¬ ∃ h g q, complete.program.edit = .committing h g q) ∧
      complete.reassembly.pendingList ≠ []) ∧
    (classifying .memoryError).classifier.state ≠ .idle ∧
    (∀ x : List StreamItem, (up.withStream x).stream = x ∧ (¬ ∃ h g q, (up.withStream x).program.edit
      = .committing h g q) ∧ (up.withStream x).reassembly.pendingList = []) ∧
    (∀ r : Request, (asked up r).stream = [] ∧ (asked up r).Waits r) ∧
    ((4 : Byte).toNat = 4 ∧ (3 : Byte).toNat = (3 : Fin 4).val) ∧
    (withSession (session false none) (asked up (ask .getStatus []))).management.sessions[(0 : Fin 4)].lastSequence
      = some (ask .getStatus []).sequence ∧
    ((asked up (ask .getStatus [])).management.sessions[(0 : Fin 4)].lastSequence ≠ some 7 ∧
      ∀ x ∈ catalogue, x.code ≠ 0x44) ∧
    (∀ s : State, s = responding ∨ s = eventDue ∨ s = queued 7 ∨ s = up → s.stream = [] ∧ (∀ r, ¬ s.Waits r) ∧
      s.uplink.link = .up ∧ s.uplink.lane = .idle) ∧
    (responding.management.responses ≠ [] ∧ eventDue.management.responses = [] ∧ eventDue.events.due = true ∧
      up.events.due = false) ∧
    ((queued 7).delivery.queues[(7 : Fin 8)].state = .running ∧ (queued 7).delivery.queues[(7 : Fin 8)].records ≠ [] ∧
      1 ≤ (queued 7).delivery.queues[(7 : Fin 8)].credit.toNat) ∧
    (∀ q : Fin 8, ¬ (up.delivery.queues[q].state = .running ∧ up.delivery.queues[q].records ≠ [] ∧
      1 ≤ up.delivery.queues[q].credit.toNat)) ∧
    (State.reset.uplink.link ≠ .up ∧ (sending (.event []) up).uplink.lane ≠ .idle) ∧
    up.pending = [] ∧ up.readyWork = none ∧
    (∀ n : Nat, n = 0 ∨ n = 999999 →
      (up.withStations { up.stations with microsSinceTick := n }).stations.microsSinceTick < 1000000) ∧
    ∀ d : Nat, d = 1 ∨ d = 2 ^ 31 - 1 → d < 2 ^ 31 ∧ d - 1 < d ∧ d ≤ d + 2 ^ 31 - 1 ∧ d + 2 ^ 31 - 1 < d + 2 ^ 31 := by
  refine ⟨?_, ⟨rfl, 0, _, 5, rfl⟩, ⟨rfl, nofun, nofun⟩, nofun, fun x => ⟨rfl, nofun, rfl⟩,
    fun r => ⟨rfl, asked_waits up r⟩, by decide, by decide, ⟨by decide, by decide⟩, ?_, ⟨nofun, rfl, rfl, rfl⟩,
    ⟨rfl, queued_records, by decide +kernel⟩, up_not_eligible, ⟨nofun, nofun⟩, rfl, by decide +kernel, ?_, fun d _ => by omega⟩
  · rintro s (rfl | rfl | rfl | rfl)
    · exact ⟨rfl, .swap, by decide +kernel⟩
    · exact ⟨rfl, .classifierTake, by decide +kernel⟩
    · exact ⟨rfl, .removalWork, by decide +kernel⟩
    · exact ⟨rfl, .responseFrameStart, by decide +kernel⟩
  · rintro s (rfl | rfl | rfl | rfl) <;> refine ⟨rfl, fun r h => ?_, rfl, rfl⟩ <;> cases h.2
  · rintro n (rfl | rfl) <;> decide

theorem witness_DeliveriesEnd :
    (delivering.uplink.lane = .delivery { queue := 0, header := recordOf 3 0, payload := .streaming } ∧
      delivering.pool.chainBlocks (delivering.pool.chainOf 0) = [0] ∧
      ∀ b ∈ delivering.pool.chainBlocks (delivering.pool.chainOf 0), delivering.pool.verifies b = true) ∧
    ((damaged delivering).pool.chainBlocks ((damaged delivering).pool.chainOf 0) = [] ++ 0 :: [] ∧
      (∀ b' ∈ ([] : List Nat), (damaged delivering).pool.verifies b' = true) ∧
      (damaged delivering).pool.verifies 0 = false) ∧
    ∀ (sent : List Byte) (t : Trailer), ∃ (s : State) (f : DeliveryFrame), s.uplink.lane = .delivery f ∧
      f.payload = .cut sent t :=
  ⟨⟨rfl, by decide +kernel, by decide +kernel⟩, ⟨by decide +kernel, by decide, by decide +kernel⟩, fun sent t =>
    ⟨sending (.delivery { queue := 0, header := recordOf 3 0, payload := .cut sent t }) up, _, rfl, rfl⟩⟩

theorem witness_ComposedCellsAreReadBack :
    ∀ n : Nat, n = 1 ∨ n = 56 → ∃ payload : List Byte, payload.length = n :=
  fun n _ => ⟨List.replicate n 0, by simp⟩

/-- The bytes `start`, `n` zeros and a good CRC-32. -/
def sealed (start : List Byte) (n : Nat) : LaneUnit :=
  lane (start ++ List.replicate n 0 ++ be32 (crc32 (start ++ List.replicate n 0)))

/-- The first check of an inbound unit. -/
def sizeAndCrcGood (u : LaneUnit) : Prop :=
  7 ≤ u.bytes.length ∧ u.bytes.length ≤ 80 ∧ u.codingError = false ∧
    crc32 (u.bytes.take (u.bytes.length - 4)) = word32At u.bytes (u.bytes.length - 4)

theorem sealed_good (start : List Byte) (n : Nat) (h : 3 ≤ start.length + n) (h2 : start.length + n ≤ 76) :
    sizeAndCrcGood (sealed start n) := by
  have hf : (start ++ List.replicate n (0 : Byte)).length = start.length + n := by simp
  have hn : (sealed start n).bytes.length = start.length + n + 4 := by
    show (start ++ List.replicate n (0 : Byte) ++ be32 _).length = _
    rw [List.length_append, hf]
    rfl
  refine ⟨by omega, by omega, rfl, ?_⟩
  rw [hn, Nat.add_sub_cancel, ← hf]
  show crc32 (List.take _ (_ ++ _)) = word32At (_ ++ _) _
  rw [List.take_left, word32At_end]

/-- A unit that passes the first check has a length, a body length field, a type and an argument length field. -/
def Framed (u : LaneUnit) (n field : Nat) (type : Byte) (args : Nat) : Prop :=
  sizeAndCrcGood u ∧ u.bytes.length = n ∧ (word16At u.bytes 1).toNat = field ∧ byteAt u.bytes 0 = type ∧
    (6 ≤ n - 7 → (word16At u.bytes 7).toNat = args)

/-- The failing units of each check at the bounds of its range, and the units that pass all four. -/
theorem witness_InboundUnitsAreCheckedAndReadBack :
    (¬ sizeAndCrcGood (lane (List.replicate 6 0)) ∧ ¬ sizeAndCrcGood (lane (List.replicate 81 0)) ∧
      ¬ sizeAndCrcGood { lane [] with codingError := true } ∧ ¬ sizeAndCrcGood (lane (List.replicate 7 0))) ∧
    (∃ u, Framed u 7 1 0x21 0) ∧ (∃ u, Framed u 7 0 0x10 0) ∧ (∃ u, Framed u 80 73 0x22 0) ∧
    (∃ u, Framed u 8 1 0x21 0) ∧ (∃ u, Framed u 10 3 0x21 0) ∧ (∃ u, Framed u 9 2 0x21 0) ∧
    (∃ u, Framed u 12 5 0x20 0) ∧ (∃ u, Framed u 13 6 0x20 0) ∧ (∃ u, Framed u 13 6 0x20 1) ∧
    (∃ u, Framed u 80 73 0x20 67) ∧ (∃ u, Framed u 80 73 0x20 66) ∧
    ∀ n, n = 0 ∨ n = 67 → ∃ (u : LaneUnit) (r : Request), r.args.length = n ∧ u.codingError = false ∧
      u.bytes = frameBytes 0x20 ([r.tag] ++ be16 r.sequence ++ [r.kind] ++ natBe16 r.args.length ++ r.args) :=
  ⟨⟨fun h => absurd h.1 (by decide), fun h => absurd h.2.1 (by decide), fun h => absurd h.1 (by decide),
      fun h => absurd h.2.2.2 (by decide +kernel)⟩,
    ⟨sealed [0x21, 0, 1] 0, sealed_good _ _ (by decide) (by decide), rfl, rfl, rfl, nofun⟩,
    ⟨sealed [0x10, 0, 0] 0, sealed_good _ _ (by decide) (by decide), rfl, rfl, rfl, nofun⟩,
    ⟨sealed [0x22, 0, 73] 73, sealed_good _ _ (by decide) (by decide), rfl, rfl, rfl, fun _ => rfl⟩,
    ⟨sealed [0x21, 0, 1, 9] 0, sealed_good _ _ (by decide) (by decide), rfl, rfl, rfl, nofun⟩,
    ⟨sealed [0x21, 0, 3, 9, 9, 9] 0, sealed_good _ _ (by decide) (by decide), rfl, rfl, rfl, nofun⟩,
    ⟨sealed [0x21, 0, 2, 7, 1] 0, sealed_good _ _ (by decide) (by decide), rfl, rfl, rfl, nofun⟩,
    ⟨sealed [0x20, 0, 5] 5, sealed_good _ _ (by decide) (by decide), rfl, rfl, rfl, nofun⟩,
    ⟨sealed [0x20, 0, 6] 6, sealed_good _ _ (by decide) (by decide), rfl, rfl, rfl, fun _ => rfl⟩,
    ⟨sealed [0x20, 0, 6, 0, 0, 0, 0, 0, 1] 0, sealed_good _ _ (by decide) (by decide), rfl, rfl, rfl, fun _ => rfl⟩,
    ⟨sealed [0x20, 0, 73, 0, 0, 0, 0, 0, 67] 67, sealed_good _ _ (by decide) (by decide), rfl, rfl, rfl, fun _ => rfl⟩,
    ⟨sealed [0x20, 0, 73, 0, 0, 0, 0, 0, 66] 67, sealed_good _ _ (by decide) (by decide), rfl, rfl, rfl, fun _ => rfl⟩,
    fun n _ => ⟨lane _, { tag := 0, sequence := 0, kind := 0, args := List.replicate n 0 }, by simp, rfl, rfl⟩⟩

theorem witness_OutboundFramesAreLaidOut :
    ∀ n, n = 0 ∨ n = 3 → ∃ (r : Record) (sent : List Byte), r.length = 3 ∧ sent.length = n ∧ sent.length ≤ r.length :=
  fun n h => ⟨recordOf 3 0, List.replicate n 0, rfl, by simp, by show _ ≤ 3; simp; omega⟩

theorem up_slots (i : Fin 22) : up.events.slots[i] = EventSlot.fresh := by
  show (Vector.replicate 22 EventSlot.fresh)[i.val] = _
  simp

theorem up_queues (q : Fin 8) : up.delivery.queues[q] = Queue.fresh := by
  show (Vector.replicate 8 Queue.fresh)[q.val] = _
  simp

/-- A sound pool with a chain of one block that one record names. -/
def oneQueued : State := (queued 7).withHold { up.hold with lastFree := 2047 }

theorem oneQueued_poolSound : oneQueued.PoolSound where
  canonical := ⟨by decide +kernel, by decide +kernel, by decide +kernel⟩
  formed c hc := by
    have h : oneQueued.chainsHeld = [oneBlock] := by decide +kernel
    obtain rfl : c = oneBlock := by simpa [h] using hc
    exact ⟨[0], forms_one _ (by decide +kernel) (by decide +kernel)⟩
  places := by
    have h : oneQueued.chainsHeld.flatMap oneQueued.pool.chainBlocks = [0] := by decide +kernel
    have hf : oneQueued.pool.free = (List.range 2048).tail := by decide +kernel
    have hr : List.range 2048 = 0 :: (List.range 2048).tail := by decide +kernel
    rw [h, hf]
    exact (List.perm_append_singleton 0 _).trans (.of_eq hr.symm)
  named h := by
    by_cases hh : h = 0
    · subst hh
      decide +kernel
    · have h1 : oneQueued.pool.chains = [(0, { tail := 0, count := 1, refs := 1 })] := by decide +kernel
      have h2 : oneQueued.delivery.queues.toList.flatMap Queue.records = [recordOf 3 0] := by decide +kernel
      rw [Delivery.naming, h2, BlockPool.chainEntry, h1]
      simp [Sparse.get, recordOf, ChainEntry.absent, Ne.symm hh, hh]
  counts := by decide +kernel
  charges := by decide +kernel
  handed := by decide +kernel
  payloads c (hc : _ ∈ []) := nomatch hc

/-- Station 5 has an entry with one open context, and a cell that waits; an aging tick is next. -/
def oneOpen : State := (openWith (queueCell .middle 1 [9])).withPending [.agingTick]

theorem oneOpen_entry (i : Fin 64) (e : StationEntry) (h : oneOpen.stations.entries[i] = some e) : e = station 5 := by
  replace h : (table 0 (station 5)).entries[i] = some e := h
  rw [table_entries] at h
  split at h
  · exact (Option.some.inj h).symm
  · exact nomatch h

theorem oneOpen_sound : oneOpen.OpenCountsSound where
  counted i e h _ := by
    rw [oneOpen_entry i e h]
    decide +kernel
  bounded i e h := by
    rw [oneOpen_entry i e h]
    decide +kernel
  absent a ha _ := by
    have h : ∀ c ∈ oneOpen.reassembly.contexts.toList, c.body.openStation = none ∨ c.body.openStation = some 5 := by
      decide +kernel
    rw [State.openContexts, List.length_eq_zero_iff, List.filter_eq_nil_iff]
    intro c hc hd
    replace hd := of_decide_eq_true hd
    rcases h c hc with h | h
    · exact nomatch hd.symm.trans h
    · obtain rfl : a = 5 := Option.some.inj (hd.symm.trans h)
      exact ha 0 (station 5) (table_has 0 (station 5)).1 rfl
  known before c after h hl := by
    have hc : .cell c ∈ [StreamItem.cell (queueCell .middle 1 [9])] := by
      show _ ∈ oneOpen.stream
      rw [h]
      simp
    obtain rfl : c = queueCell .middle 1 [9] := by simpa using hc
    exact absurd rfl (hl 0 (station 5) (table_has 0 (station 5)).1)

theorem witness_StepKeepsTheOpenCountsSound :
    oneOpen.stations.Sound ∧ oneOpen.OpenCountsSound ∧ oneOpen.pending.head? = some .agingTick ∧ oneOpen.NoStaleCell ∧
      ∃ t, step oneOpen = .next t := by
  refine ⟨⟨fun i e h => ?_, table_unique 0 (station 5), by decide⟩, oneOpen_sound, rfl, fun c _ i e h _ => ?_, _, rfl⟩
  · rw [oneOpen_entry i e h]
    decide
  · rw [oneOpen_entry i e h]
    decide

theorem witness_StepKeepsThePoolSound : oneQueued.PoolSound ∧ ∃ t, step oneQueued = .next t :=
  ⟨oneQueued_poolSound, _, rfl⟩

/-- A state that meets the other invariants and takes a step: the part with both links UP. -/
theorem witness_invariants :
    up.ManagementSound ∧ up.params.InRange ∧ up.TrunkSound ∧ up.pool.Canonical ∧ up.ProgramSound ∧ up.stations.Sound ∧
      up.ContextsSound ∧ up.UplinkSound ∧ up.EventsSound ∧ ∃ t, step up = .next t := by
  refine ⟨⟨⟨by decide, by decide⟩, ⟨rfl, by decide⟩, fun t => ?_⟩, ⟨by decide, by decide, by decide, by decide, by decide,
      by decide, by decide, by decide, by decide, by decide, by decide, by decide⟩, ⟨nofun, fun _ => rfl⟩, ⟨rfl, rfl, rfl⟩,
    ⟨by decide, powerOn_valid, nofun, nofun⟩, ⟨fun i e h => ?_, fun i j e e' h => ?_, by decide⟩,
    ⟨fun i j a ch h => ?_, List.nodup_nil, nofun, nofun, fun i m h => ?_⟩,
    ⟨fun q => by rw [up_queues]; decide, fun q => by rw [up_queues]; exact ⟨nofun, nofun⟩, nofun, fun h => absurd rfl h,
      fun h => absurd rfl h, fun h => absurd rfl h⟩,
    ⟨fun i h => ?_, fun _ i => by rw [up_slots]; rfl, fun h => ?_, fun _ h => absurd h (by decide), nofun, fun _ => rfl⟩,
    _, rfl⟩
  · unfold Session.Sound
    have h : up.management.sessions[t].lastSequence = none ∧ up.management.sessions[t].inProgress = false ∧
        up.management.sessions[t].cached = none ∧ up.management.sessions[t].awaitsSwap = false := by
      revert t
      decide
    rw [h.1]
    exact h.2
  · rw [empty_entries] at h
    exact nomatch h
  · rw [empty_entries] at h
    exact nomatch h
  · rw [free_body] at h
    exact nomatch h
  · rw [free_body] at h
    exact nomatch h
  · rw [up_slots] at h
    exact nomatch h
  · rcases h with h | h
    · exact nomatch h
    · exact absurd rfl h

/-! ### The commands at work -/

theorem test_crc16_check_value : crc16 [0x31, 0x32, 0x33, 0x34, 0x35, 0x36, 0x37, 0x38, 0x39] = 0x29B1 := by
  decide +kernel
theorem test_crc32_check_value : crc32 [0x31, 0x32, 0x33, 0x34, 0x35, 0x36, 0x37, 0x38, 0x39] = 0xFC891918 := by
  decide +kernel
theorem test_trunkUp : look .trunkUp State.reset (fun t => (t.trunkRx.link, t.events.slots[(18 : Fin 22)].count))
    = some (.up, 1) := by decide +kernel
theorem test_trunkLoss : look .trunkLoss holding (fun t => (t.trunkRx.link, t.hold.mode)) = some (.down, .quiet) := by
  decide +kernel
theorem test_receivedCell_learned : look (.receivedCell (cell 1 5 0 [1, 2, 3])) learning (fun t =>
    (t.trunkRx.received, t.stream.length, t.stations.entries[(0 : Fin 64)].map StationEntry.address))
    = some (1, 1, some 5) := by decide +kernel
theorem test_receivedCell_begun_before_lock : look (.receivedCell (early (cell 1 5 0 [1, 2, 3]))) learning (fun t =>
    (t.trunkRx.received, t.stream)) = some (0, []) := by decide +kernel
theorem test_receivedCell_short : look (.receivedCell (lane [1, 2, 3, 4, 5, 6])) up (fun t =>
    (t.trunkRx.badCheck, t.events.slots[(0 : Fin 22)].count)) = some (1, 1) := by decide +kernel
theorem test_dataOnly : look .dataOnly (starting .only [4, 5]) (fun t =>
    (t.reassembly.pendingList, t.pool.free, t.pool.payload { head := 4, tail := 4, count := 1 }, t.hold.lastFree))
    = some ([0], [5], [1, 2, 3], 1) := by decide +kernel
theorem test_dataFirst : look .dataFirst (starting .first [4]) (fun t => t.reassembly.contexts[(0 : Fin 48)].body)
    = some (.opened (message 3 { head := 4, tail := 4, count := 1 }) 1 20000) := by decide +kernel
theorem test_dataMiddle : look .dataMiddle (openWith (queueCell .middle 1 [9])) (fun t =>
    t.pool.payload oneBlock) = some [1, 2, 3, 9] := by decide +kernel
theorem test_dataLast_out_of_order : look .dataLast (openWith (queueCell .last 2 [9])) (fun t =>
    (t.reassembly.contexts[(0 : Fin 48)], t.reassembly.counters.sequence, t.stations.entries[(0 : Fin 64)].map fun e =>
      (e.errors, e.openCount))) = some ({ body := .free, lastAbort := .sequence }, 1, some (1, 0)) := by decide +kernel
theorem test_cellTransmissionEnd : look .cellTransmissionEnd (up.withTrunkTx { up.trunkTx with
    inFlight := some (.hold 1 2000), slot := some (.release 1) }) (fun t => (t.trunkTx.inFlight, t.trunkTx.holdSent))
    = some (some (.release 1), 1) := by decide +kernel
theorem test_gapTimerExpiry : look (.gapTimerExpiry 0) (later 50000 (openWith (queueCell .last 2 [9]))) (fun t =>
    (t.reassembly.contexts[(0 : Fin 48)].lastAbort, t.events.slots[(5 : Fin 22)].detail)) = some (.timeout, 5) := by
  decide +kernel
theorem test_agingTick : look .agingTick ((withTable (table 0 (station 5))).withParams { up.params with ageLimit := 3 })
    (fun t => t.stations.entries[(0 : Fin 64)].map StationEntry.age) = some (some 4) := by decide +kernel
theorem test_agingTick_removes : look .agingTick ((withTable (table 0 { station 5 with openCount := 0 })).withParams
    { up.params with ageLimit := 3 }) (fun t => (t.stations.entries[(0 : Fin 64)], t.events.slots[(20 : Fin 22)].detail))
    = some (none, 5) := by decide +kernel
theorem test_classifierTake : look .classifierTake complete (fun t => (t.classifier.state, t.reassembly.pendingList))
    = some (.classifying 0 (.properties noProperties), []) := by decide +kernel
theorem test_classificationEnd : look .classificationEnd (ending (oneTest (.mirror 7 0 false))) (fun t =>
    (t.program.hits[(0 : Fin 256)], t.delivery.queues[(0 : Fin 8)].records.map Record.mirrored,
      (t.pool.chainEntry 0).refs, t.classifier.messageId)) = some (1, [true], 2, 1) := by decide +kernel

/-- The clauses and messages of section 5.8. -/
def exampleProgram : Program :=
  { default := .deliver 0 false, probes := Program.powerOn.probes.set (0 : Fin 4) (some 0), count := 6,
    clauses := (((((Program.powerOn.clauses.set 0 (.gate 2 2 16 5)).set 1 (.testAnd 0 0 40)).set 2 (.care 0xFF00)).set 3
      (.testEnd 5 0 0x1200 (.deliver 2 true))).set 4 (.testEnd 3 2 1024 (.mirror 3 7 false))).set 5
      (.testEnd 4 0 9 (.discard false)) }
def exampleMessage (station channel cls length tag probe0 shorts : U16) : Properties :=
  { station := station, channel := channel, cls := cls, length := length, tag := tag, probe0 := probe0, probe1 := 0,
    probe2 := 0, probe3 := 0, shorts := shorts }

theorem test_example_M1 : exampleProgram.evaluate (exampleMessage 40 1 20 300 0 0x1234 0)
    = { hits := [3], action := some (.deliver 2 true) } := by decide +kernel
theorem test_example_M2 : exampleProgram.evaluate (exampleMessage 41 3 30 2048 9 0x1200 0)
    = { hits := [4], action := some (.mirror 3 7 false) } := by decide +kernel
theorem test_example_M3 : exampleProgram.evaluate (exampleMessage 40 1 5 1 9 0 1)
    = { hits := [5], action := some (.discard false) } := by decide +kernel
theorem test_swap : look .swap committing (fun t => (t.program.generation, t.program.edit.holder,
    t.management.responses)) = some (1, none, [{ tag := 0, sequence := 5, kind := 0x27, status := .ok, data := [0, 1] }])
    := by decide +kernel
theorem test_swap_cached : look .swap (withSession awaiting committing) (fun t =>
    t.management.sessions[(0 : Fin 4)].cached) = some (some (.whole 0x27 .ok [0, 1])) := by decide +kernel

/-- R114, R159: the COMMIT with number 5 is pending; its tag sends GET_STATUS with number 6, and then a COMMIT with
number 5 again, which is a new request: the swap sends its answer and leaves the cache to the newer request. -/
def commitAgain : State :=
  let r : Request := { tag := 0, sequence := 6, kind := 0x01, args := [] }
  let q : Request := { tag := 0, sequence := 5, kind := 0x27, args := [] }
  let s := (withSession awaiting committing).withClassifier { up.classifier with state := .classifying 0 .memoryError }
  after [.getStatus, .commit] (s.withManagement { s.management with fifo := [r, q] })

theorem test_swap_not_cached : look .swap (commitAgain.withClassifier up.classifier) (fun t =>
    (t.management.sessions[(0 : Fin 4)].cached, t.management.responses.map Response.status))
    = some (some (.whole 0x27 .commitPending []), [.ok, .commitPending, .ok]) := by decide +kernel
theorem test_softRestart_restarted : look .softRestart restartDuringCommit (fun t =>
    t.management.sessions[(1 : Fin 4)].cached) = some (some (.whole 0x27 .restarted [])) := by decide +kernel
theorem test_idleTimerExpiry : look .idleTimerExpiry (later 10 editing) (fun t =>
    (t.program.edit, t.events.slots[(15 : Fin 22)].count)) = some (.none, 1) := by decide +kernel
theorem test_refreshTimerExpiry : look .refreshTimerExpiry (later 10 holding) (fun t => (t.hold.mode, t.trunkTx.inFlight))
    = some (.holding 10010, some (.hold 0 2000)) := by decide +kernel
theorem test_coalescingTimerExpiry : look .coalescingTimerExpiry (up.withEvents { up.events with timer := some 0 })
    (fun t => (t.events.due, t.events.timer)) = some (true, none) := by decide +kernel
theorem test_uplinkSignal : look .uplinkSignal State.reset (fun t => t.uplink.link) = some .training := by decide +kernel
theorem test_trainingComplete : look .trainingComplete (after [.uplinkSignal] State.reset) (fun t => t.uplink.link)
    = some .up := by decide +kernel
theorem test_trainingFailure : look .trainingFailure (after [.uplinkSignal] State.reset) (fun t => t.uplink.link)
    = some .down := by decide +kernel
theorem test_lossOfSignal : look .lossOfSignal delivering (fun t =>
    (t.uplink.link, t.uplink.lane, t.delivery.queues[(0 : Fin 8)].records.map Record.replay)) = some (.down, .idle, [true])
    := by decide +kernel
theorem test_requestFrame : look (.requestFrame (lane (frameBytes 0x20 [0, 0, 7, 1, 0, 0]))) up (fun t =>
    t.management.fifo) = some [{ tag := 0, sequence := 7, kind := 1, args := [] }] := by decide +kernel
theorem test_requestFrame_begun_in_training : look (.requestFrame (early (lane (frameBytes 0x20 [0, 0, 7, 1, 0, 0]))))
    (after [.uplinkSignal, .trainingComplete] State.reset) (fun t => (t.uplink.link, t.management.fifo))
    = some (.up, []) := by decide +kernel
theorem test_creditFrame : look (.creditFrame (lane (frameBytes 0x21 [7, 2]))) (credited 254) (fun t =>
    (t.delivery.queues[(7 : Fin 8)].credit, t.events.slots[(13 : Fin 22)].detail)) = some (255, 7) := by decide +kernel
theorem test_uplinkFrameError : look (.uplinkFrameError badType) up (fun t =>
    (t.uplink.frameErrors, t.events.slots[(21 : Fin 22)].detail)) = some (1, 0x22) := by decide +kernel
theorem test_responseFrameStart : look .responseFrameStart (up.withManagement { up.management with
    responses := [someResponse] }) (fun t => t.uplink.lane) = some (.response someResponse) := by decide +kernel
theorem test_responseFrameEnd : look .responseFrameEnd (sending (.response someResponse) (up.withManagement
    { up.management with responses := [someResponse] })) (fun t => (t.uplink.lane, t.management.responses))
    = some (.idle, []) := by decide +kernel
theorem test_eventFrameStart : look .eventFrameStart eventDue (fun t => (t.uplink.lane, t.events.due))
    = some (.event [{ code := 1, count := 2, detail := 0, firstTime := 0 }], false) := by decide +kernel
theorem test_eventFrameEnd : look .eventFrameEnd (after [.eventFrameStart] eventDue) (fun t =>
    (t.uplink.lane, t.events.slots[(0 : Fin 22)].count)) = some (.idle, 0) := by decide +kernel
theorem test_deliveryFrameStart : look .deliveryFrameStart (queued 0) (fun t => (t.uplink.lane,
    t.delivery.queues[(0 : Fin 8)].credit)) = some (.delivery ⟨0, recordOf 3 0, .streaming⟩, 0) := by decide +kernel
theorem test_deliveryFrameEnd : look .deliveryFrameEnd delivering (fun t => (t.uplink.lane,
    t.delivery.queues[(0 : Fin 8)].counters.deliveredBytes, t.pool.chainEntry 0)) = some (.idle, 3, ChainEntry.absent) := by
  decide +kernel
theorem test_deliveryMemoryError : look .deliveryMemoryError (damaged delivering) (fun t => (t.uplink.lane,
    t.delivery.queues[(0 : Fin 8)].state)) = some (.delivery ⟨0, recordOf 3 0, .cut [] .abortedMemory⟩, .halted .memory)
    := by decide +kernel
theorem test_removalWork : look .removalWork ((openWith (queueCell .last 2 [9])).withStream [.removal [5]]) (fun t =>
    t.reassembly.contexts[(0 : Fin 48)]) = some { body := .free, lastAbort := .flushed } := by decide +kernel
theorem test_badTag : look .badTag (asked up { ask .getStatus [] with tag := 7 }) (fun t =>
    t.management.responses.map fun x => (x.tag, x.status)) = some [(7, .badTag)] := by decide +kernel
theorem test_retryMatch : look .retryMatch (withSession (session false (some (.resendRefused 0x40 .ok)))
    (asked up (ask .readCounters [5, 1]))) (fun t => t.management.responses.map fun x => (x.status, x.data))
    = some [(.retryTooLong, [0])] := by decide +kernel
theorem test_badKind : look .badKind (asked up { ask .getStatus [] with kind := 0x44 }) (fun t =>
    t.management.responses.map Response.status) = some [.badKind] := by decide +kernel

/-! ### The requests at work -/

theorem test_getStatus : answer up .getStatus [] = some (some (.ok,
    [0, 0, 255, 0, 0, 8, 0] ++ List.replicate 16 0 ++ [1, 0, 0, 0, 0])) := by decide +kernel
theorem test_getParam : answer up .getParam [6] = some (some (.ok, [6, 0x10, 0])) := by decide +kernel
theorem test_setParam : look .setParam (asked up (ask .setParam [16, 0, 20])) (fun t =>
    (t.params.weights[(0 : Fin 8)], t.management.responses.map Response.status)) = some (1, [.badValue]) := by
  decide +kernel
theorem test_setRights : look .setRights (asked up (ask .setRights [2, 6])) (fun t =>
    t.management.sessions[(2 : Fin 4)].rights)
    = some { read := false, edit := true, control := true, supervisor := false } := by decide +kernel
theorem test_softRestart : look .softRestart (asked delivering (ask .softRestart [])) (fun t =>
    (t.delivery.queues[(0 : Fin 8)].records, t.uplink.lane.streamingQueue, t.freeDraws)) = some ([], none, 1) := by
  decide +kernel
theorem test_readStation : answer (withTable (table 2 (station 5))) .readStation [0, 5]
    = some (some (.ok, [2, 0, 5, 0, 0, 7, 3, 1] ++ List.replicate 12 0)) := by decide +kernel
theorem test_listStations : answer (withTable (table 2 (station 5))) .listStations [0]
    = some (some (.ok, [1, 64, 2, 0, 5, 0, 0, 7, 1])) := by decide +kernel
theorem test_pinStation : answer (withTable (table 0 (station 5))) .pinStation [0, 6, 1, 9] = some (some (.ok, [1])) := by
  decide +kernel
theorem test_unpinStation : answer up .unpinStation [0, 6] = some (some (.notFound, [])) := by decide +kernel
theorem test_removeStation : look .removeStation (asked (withTable (table 0 (station 5))) (ask .removeStation [0, 5]))
    (fun t => (t.stream, t.management.unit)) = some ([.removal [5]], .executing 0 7 .removeStation) := by decide +kernel
theorem test_flushLearned : look .flushLearned (asked (withTable (table 0 (station 5))) (ask .flushLearned []))
    (fun t => (t.stream, t.management.unit)) = some ([.removal [5]], .executing 0 7 .flushLearned) := by decide +kernel
theorem test_readContext : answer up .readContext [0] = some (some (.ok, List.replicate 17 0 ++ [255, 0])) := by
  decide +kernel
theorem test_readPool : answer (queued 0) .readPool [] = some (some (.ok, [7, 255, 0, 0, 0, 1, 0, 1]
    ++ List.replicate 14 0)) := by decide +kernel
theorem test_readClauseActive : answer up .readClause [0, 0] = some (some (.ok, [0, 0, 0, 0, 0, 1, 0, 0]
    ++ List.replicate 8 255 ++ [0, 0, 0, 0, 0, 0, 1, 0, 0, 0, 0, 0, 0])) := by decide +kernel
theorem test_readClauseStaging : answer up .readClause [1, 0] = some (some (.noEdit, [])) := by decide +kernel
theorem test_readHits : answer up .readHits [255] = some (some (.ok, [0, 0, 255, 1, 0, 0, 0, 0])) := by decide +kernel
theorem test_openEdit : answer editing .openEdit [] = some (some (.busyEdit, [])) := by decide +kernel
theorem test_writeClause : answer up .writeClause (clauseArgs 2 1 0) = some (some (.noEdit, [])) := by decide +kernel
theorem test_writeProbes : look .writeProbes (asked editing (ask .writeProbes [0, 2, 255, 255, 255, 255, 255, 255]))
    (fun t => match t.program.edit with
      | .editing _ g _ => g.probes.toList
      | .none => []
      | .committing _ _ _ => []) = some [some 2, none, none, none] := by decide +kernel
theorem test_setDefault : answer committing .setDefault [1, 7, 1] = some (some (.commitPending, [])) := by decide +kernel
theorem test_setCount : answer editing .setCount [1, 1] = some (some (.badValue, [])) := by decide +kernel
theorem test_commit : answer (editingOf badProbe) .commit [] = some (some (.invalidProgram, [1, 3, 8])) := by
  decide +kernel
theorem test_abortEdit : look .abortEdit (asked editing (ask .abortEdit [])) (fun t => t.program.edit) = some .none := by
  decide +kernel
theorem test_readQueue : answer (queued 7) .readQueue [7] = some (some (.ok,
    [7, 0, 0, 1, 1, 1, 2, 0, 0, 1, 0, 0, 0, 0, 7, 0] ++ List.replicate 24 0)) := by decide +kernel
theorem test_haltQueue : look .haltQueue (asked up (ask .haltQueue [3])) (fun t => t.delivery.queues[(3 : Fin 8)].state)
    = some (.halted .manager) := by decide +kernel
theorem test_restartQueue : answer up .restartQueue [8] = some (some (.badValue, [])) := by decide +kernel
theorem test_flushQueue : look .flushQueue (asked (queued 3) (ask .flushQueue [3])) (fun t =>
    (t.delivery.queues[(3 : Fin 8)].charge, t.pool.free.getLast?, t.management.responses.map Response.data))
    = some (0, some 0, [[1]]) := by decide +kernel
theorem test_sendHold : look .sendHold (asked holding (ask .sendHold [0, 100])) (fun t => (t.hold.mode, t.trunkTx.inFlight))
    = some (.holding 500, some (.hold 0 100)) := by decide +kernel
theorem test_sendRelease : answer holding .sendRelease [] = some (some (.holdActive, [])) := by decide +kernel
theorem test_readCounters : answer up .readCounters [2, 1] = some (some (.ok, [2, 0, 0, 0, 0, 0, 0, 0, 0])) := by
  decide +kernel
theorem test_clearCounters : answer up .clearCounters [8] = some (some (.badValue, [])) := by decide +kernel
theorem test_setEvents : look .setEvents (asked eventDue (ask .setEvents [1, 0])) (fun t =>
    (t.events.due, t.events.slots[(0 : Fin 22)].enabled)) = some (false, false) := by decide +kernel
theorem test_flushEvents : look .flushEvents (asked (withSlot { EventSlot.fresh with count := 1 } up)
    (ask .flushEvents [])) (fun t => t.events.due) = some true := by decide +kernel
theorem test_powerOn : look .powerOn (queued 3) (fun t => (t.delivery.queues[(3 : Fin 8)].records, t.trunkRx.link))
    = some ([], .down) := by decide +kernel
/-- The 1,000,000th microsecond since the last tick, in which the gap timer of context 0 and the refresh timer expire. -/
def secondEnds : State :=
  let s := withContext 0 (.opened (message 3 oneBlock) 1 10) (later 9 holding)
  s.withStations { s.stations with microsSinceTick := 999999 }

theorem test_step_brings_the_tick_and_the_expiries : (match step secondEnds with
    | .next t => some (t.stations.microsSinceTick, t.pending)
    | .fault _ => none
    | .refused _ => none) = some (0, [.agingTick, .gapTimerExpiry 0, .refreshTimerExpiry]) := by decide +kernel
theorem test_reached_across_the_wrap : reached 3 4 = false ∧ reached 4 4 = true ∧
    reached 0xFFFFFFFF (0xFFFFFFFF + 5) = false ∧ reached 4 (0xFFFFFFFF + 5) = true := by decide
theorem test_step_empty_queue : (match step (up.withPending []) with
    | .next t => some (t.events.timebase, t.pending)
    | .fault _ => none
    | .refused _ => none) = some (1, []) := by decide +kernel

end Sys2Proof.Tests
end

section
/-! The Station Table's own claims (chapter 2): the aging tick of R24 and R25, and the two requests of section 2.6
that read the table. -/

namespace Sys2Proof.Machine

/-! ### One position at the tick -/

/-- R24: one second more, staying at 255. -/
theorem satInc_byte (b : Byte) : satInc b = if b = 255 then 255 else b + 1 := by
  have hall : BitVec.allOnes 8 = 255 := rfl
  rw [satInc, hall]
  split
  · next h => exact h
  · rfl

/-- R24: the age after a tick, as a number. -/
theorem toNat_satInc_byte (b : Byte) : (satInc b).toNat = if b = 255 then 255 else b.toNat + 1 := by
  rw [satInc_byte]
  split
  · rfl
  · bv_omega

/-- R24, R25: whether an entry goes at the tick, told from the entry before it is aged. -/
theorem StationEntry.removable_older (lim : Byte) (e : StationEntry) :
    e.older.removable lim = (decide (e.origin = .learned) && decide (lim ≠ 0) &&
      decide (lim.toNat < (if e.age = 255 then 255 else e.age.toNat + 1)) && decide (e.openCount = 0)) := by
  rw [← toNat_satInc_byte]
  rfl

/-- R25: the address that the removal test at position `i` posts, if the test removes an entry there. -/
def agedAt (lim : Byte) (v : Vector (Option StationEntry) 64) (i : Fin 64) : Option Addr :=
  (v[i].filter fun e => e.removable lim).map StationEntry.address

/-- R25: the entries that the removal tests at the positions of `l` leave. -/
def sweep (lim : Byte) (l : List (Fin 64)) (v : Vector (Option StationEntry) 64) : Vector (Option StationEntry) 64 :=
  Vector.ofFn fun i => if i ∈ l then v[i].filter fun e => !e.removable lim else v[i]

section
variable (lim : Byte) (v : Vector (Option StationEntry) 64)

@[simp] theorem getElem_sweep (l : List (Fin 64)) (i : Nat) (h : i < 64) :
    (sweep lim l v)[i] = if ⟨i, h⟩ ∈ l then v[i].filter fun e => !e.removable lim else v[i] := by
  simp [sweep]

@[simp] theorem sweep_nil : sweep lim [] v = v := Vector.ext fun i hi => by simp

/-- Testing some positions and then others is testing all of them: the test is idempotent. -/
theorem sweep_sweep (l l' : List (Fin 64)) : sweep lim l' (sweep lim l v) = sweep lim (l ++ l') v := by
  refine Vector.ext fun i hi => ?_
  by_cases hl : ⟨i, hi⟩ ∈ l <;> by_cases hl' : ⟨i, hi⟩ ∈ l' <;> simp [hl, hl', Option.filter_filter]

/-- Testing position `i` alone is putting there what the test leaves. -/
theorem sweep_singleton (i : Fin 64) : sweep lim [i] v = v.set i (v[i].filter fun e => !e.removable lim) := by
  refine Vector.ext fun j hj => ?_
  by_cases h : i.val = j
  · subst h
    simp
  · simp [h, Fin.ext_iff, Ne.symm h]

/-- R25: the tests at all 64 positions are a map over the table. -/
theorem sweep_all : sweep lim (List.finRange 64) v = mapTable (Option.filter fun e => !e.removable lim) v :=
  Vector.ext fun i hi => by simp

/-- The tests at other positions do not change what the test at `i` finds. -/
theorem agedAt_sweep {l : List (Fin 64)} {i : Fin 64} (h : i ∉ l) : agedAt lim (sweep lim l v) i = agedAt lim v i := by
  simp [agedAt, h]

end

namespace State

/-! ### The tick over the table -/

/-- The state with other entries in the Station Table. -/
def withEntries (v : Vector (Option StationEntry) 64) (s : State) : State :=
  s.withStations { s.stations with entries := v }

@[simp] theorem withEntries_entries (v : Vector (Option StationEntry) 64) (s : State) :
    (s.withEntries v).stations.entries = v := rfl
@[simp] theorem withEntries_params (v : Vector (Option StationEntry) 64) (s : State) :
    (s.withEntries v).params = s.params := rfl
@[simp] theorem withEntries_self (s : State) : s.withEntries s.stations.entries = s := rfl
@[simp] theorem withEntries_withEntries (v w : Vector (Option StationEntry) 64) (s : State) :
    (s.withEntries v).withEntries w = s.withEntries w := rfl

/-- R25: STATION_AGED posted for each address of `l`, in order. -/
def postAged (l : List Addr) (s : State) : State := l.foldl (fun u a => u.postStation .stationAged a) s

theorem postAged_append (l l' : List Addr) (s : State) : s.postAged (l ++ l') = (s.postAged l).postAged l' :=
  List.foldl_append

/-- A posting neither reads nor writes the table. -/
theorem postAged_withEntries (l : List Addr) (s : State) (v : Vector (Option StationEntry) 64) :
    (s.withEntries v).postAged l = (s.postAged l).withEntries v :=
  List.foldl_hom (withEntries v) fun _ _ => rfl

@[simp] theorem postAged_params (l : List Addr) (s : State) : (s.postAged l).params = s.params := by
  induction l generalizing s with
  | nil => rfl
  | cons a l ih => exact (ih _).trans (by simp)

/-- R25: the removal test at one position empties it or leaves it, and posts for what it empties. -/
theorem ageOut_eq (i : Fin 64) (s : State) :
    s.ageOut i = (s.withEntries (sweep s.params.ageLimit [i] s.stations.entries)).postAged
      (agedAt s.params.ageLimit s.stations.entries i).toList := by
  have unchanged : s.withEntries (s.stations.entries.set i s.stations.entries[i]) = s := by
    rw [Fin.getElem_fin, Vector.set_getElem_self, withEntries_self]
  rw [sweep_singleton, agedAt, ageOut]
  cases hx : s.stations.entries[i] with
  | none => rw [hx] at unchanged; exact unchanged.symm
  | some e =>
    rw [hx] at unchanged
    by_cases hr : e.removable s.params.ageLimit = true
    · simp [Option.filter_some, hr, postAged, setEntry, withEntries]
    · simp [Option.filter_some, hr, postAged, unchanged]

/-- R25: the removal tests at distinct positions, one after the other: the table is swept, and the addresses found are
posted in the order of the positions. -/
theorem foldl_ageOut {l : List (Fin 64)} (hl : l.Nodup) (s : State) :
    l.foldl (fun u i => u.ageOut i) s = (s.withEntries (sweep s.params.ageLimit l s.stations.entries)).postAged
      (l.filterMap (agedAt s.params.ageLimit s.stations.entries)) := by
  induction l generalizing s with
  | nil => simp [postAged]
  | cons i l ih =>
    obtain ⟨hi, hl⟩ := List.nodup_cons.1 hl
    have found : l.filterMap (agedAt s.params.ageLimit (sweep s.params.ageLimit [i] s.stations.entries))
        = l.filterMap (agedAt s.params.ageLimit s.stations.entries) :=
      List.filterMap_congr fun j hj => agedAt_sweep _ _ (by simpa using fun h : j = i => hi (h ▸ hj))
    have posted : (i :: l).filterMap (agedAt s.params.ageLimit s.stations.entries)
        = (agedAt s.params.ageLimit s.stations.entries i).toList
          ++ l.filterMap (agedAt s.params.ageLimit s.stations.entries) := by
      cases h : agedAt s.params.ageLimit s.stations.entries i <;> simp [h]
    rw [List.foldl_cons, ih hl, ageOut_eq, posted, postAged_append]
    simp [postAged_withEntries, sweep_sweep, found]

/-- R24, R25: the tick is one sweep of the aged entries and the postings in ascending position order. -/
theorem agingTick_eq (s : State) :
    let aged := mapTable (Option.map StationEntry.older) s.stations.entries
    s.agingTick = (s.withEntries (sweep s.params.ageLimit (List.finRange 64) aged)).postAged
      ((List.finRange 64).filterMap (agedAt s.params.ageLimit aged)) :=
  foldl_ageOut (List.nodup_finRange 64) _

end State

/-- Settles O16: the tick is a sweep of the aged table, and the removal test of an aged entry is told from the entry
before it was aged. -/
theorem agingTickAgesAndRemoves : Obligations.AgingTickAgesAndRemoves := by
  intro s goes
  have test : (fun e : StationEntry => e.removable s.params.ageLimit) ∘ StationEntry.older = goes :=
    funext (StationEntry.removable_older s.params.ageLimit)
  have posted : (List.finRange 64).filterMap
        (agedAt s.params.ageLimit (mapTable (Option.map StationEntry.older) s.stations.entries))
      = s.stations.entries.toList.filterMap fun x => (x.filter goes).map StationEntry.address := by
    rw [toList_eq_finRange, List.filterMap_map]
    refine List.filterMap_congr fun i _ => ?_
    simp only [agedAt, getElem_fin_mapTable, Option.filter_map, test, Option.map_map]
    rfl
  have left : mapTable (Option.filter fun e => !e.removable s.params.ageLimit)
        (mapTable (Option.map StationEntry.older) s.stations.entries)
      = mapTable (fun x => (x.filter fun e => !goes e).map fun e =>
          { e with age := if e.age = 255 then 255 else e.age + 1 }) s.stations.entries := by
    refine Vector.ext fun i hi => ?_
    simp only [getElem_mapTable, Option.filter_map, ← test, ← satInc_byte]
    rfl
  refine congrArg Host.Outcome.next ((State.agingTick_eq s).trans ?_)
  rw [posted, sweep_all, left]
  rfl

/-! ### Reading the table -/

/-- R31: the code of an origin. -/
theorem Origin.code_eq (o : Origin) : o.code = if o = .pinned then 1 else 0 := by
  cases o <;> rfl

/-- R31: the code of an admission. -/
theorem Admission.code_eq (a : Admission) : a.code = if a = .blocks then 1 else 0 := by
  cases a <;> rfl

/-- R32: the scan reports, at each position from `start` on that holds an entry, that entry. -/
theorem State.mem_entriesFrom {s : State} {start : Nat} {x : Fin 64 × StationEntry} (h : x ∈ s.entriesFrom start) :
    s.stations.entries[x.1] = some x.2 := by
  obtain ⟨i, -, hi⟩ := List.mem_filterMap.1 h
  split at hi
  · obtain ⟨e, he, rfl⟩ := Option.map_eq_some_iff.1 hi
    exact he
  · cases hi

/-- R32: the positions of the entries that the scan reports. -/
theorem State.entriesFrom_positions (s : State) (start : Nat) :
    (s.entriesFrom start).map Prod.fst =
      (List.finRange 64).filter fun i => decide (start ≤ i.val) && s.stations.entries[i].isSome := by
  rw [State.entriesFrom, List.map_filterMap, ← List.filterMap_eq_filter]
  refine List.filterMap_congr fun i _ => ?_
  by_cases hs : start ≤ i.val
  · cases hx : s.stations.entries[i.val] <;> simp [Option.guard, hs, hx]
  · simp [Option.guard, hs]

/-- R32: the next start position, told from the positions alone. -/
theorem State.nextStart_eq (found : List (Fin 64 × StationEntry)) :
    State.nextStart found = if (found.map Prod.fst).length < 8 then 64
      else ((found.map Prod.fst).getLast?.map fun i => i.val + 1).getD 0 := by
  rw [State.nextStart, List.length_map]
  split
  · rfl
  · next h =>
    rw [List.getLast?_map]
    cases hl : found.getLast? with
    | some x => rfl
    | none => simp [List.getLast?_eq_none_iff.1 hl] at h

/-- R31: READ_STATION for a station with an entry. -/
theorem State.readStation_of_has {s : State} {t : Fin 4} {r : Request} {a : Addr} {i : Fin 64} {e : StationEntry}
    (hn : r.Names 0 a) (h : s.stations.Has a i e) : State.readStation t r s = s.reply .ok (e.bytes i) := by
  simp only [State.readStation, Request.station_of_names hn, State.findStation_of_has h, h.1]

/-- R31: READ_STATION for a station without an entry. -/
theorem State.readStation_of_lacks {s : State} {t : Fin 4} {r : Request} {a : Addr} (hn : r.Names 0 a)
    (h : s.stations.Lacks a) : State.readStation t r s = s.reply .notFound := by
  simp only [State.readStation, Request.station_of_names hn, State.findStation_of_lacks h]

/-- R31: READ_STATION for an address out of range. -/
theorem State.readStation_of_namesNone {s : State} {t : Fin 4} {r : Request} (hn : r.NamesNone 0) :
    State.readStation t r s = s.reply .badValue := by
  simp only [State.readStation, Request.station_of_namesNone hn]

/-- R32: what LIST_STATIONS reports of position `i`: nothing if it is empty. -/
def listItem (i : Fin 64) : Option StationEntry → List Byte
  | some e => e.listBytes i
  | none => []

/-- R32: the data of LIST_STATIONS for the positions `found`. -/
def State.listData (s : State) (found : List (Fin 64)) : List Byte :=
  [natByte found.length, if found.length < 8 then 64 else natByte ((found.getLast?.map fun i => i.val + 1).getD 0)]
    ++ found.flatMap fun i => listItem i s.stations.entries[i]

/-- R32: LIST_STATIONS from a position of the table answers the first 8 positions from there on that hold an entry. -/
theorem State.listStations_of_le {s : State} {t : Fin 4} {r : Request} (h : (byteAt r.args 0).toNat ≤ 63) :
    State.listStations t r s = s.reply .ok (s.listData (((List.finRange 64).filter fun i =>
      decide ((byteAt r.args 0).toNat ≤ i.val) && s.stations.entries[i].isSome).take 8)) := by
  have entries : ∀ x ∈ (s.entriesFrom (byteAt r.args 0).toNat).take 8, x.2.listBytes x.1 =
      listItem x.1 s.stations.entries[x.1] := fun x hx => by
    rw [State.mem_entriesFrom (List.mem_of_mem_take hx), listItem]
  rw [State.listStations, if_pos h, ← State.entriesFrom_positions, ← List.map_take, State.listData, List.flatMap_map,
    ← List.flatMap_congr entries]
  simp only [State.nextStart_eq, List.length_map, apply_ite natByte]
  rfl

/-- R32: LIST_STATIONS from a position out of range. -/
theorem State.listStations_of_gt {s : State} {t : Fin 4} {r : Request} (h : 63 < (byteAt r.args 0).toNat) :
    State.listStations t r s = s.reply .badValue :=
  if_neg (Nat.not_le.2 h)

/-- R155, R156: a request whose block only replies changes nothing but the Management Unit. -/
theorem State.take_of_reply {s : State} {t : Fin 4} {k : RequestKind} {r : Request} {body : Execution} {st : Status}
    {data : List Byte} (h : s.Passes t k r)
    (hb : body t r (s.withManagement (s.management.accepted t r)) =
      (s.withManagement (s.management.accepted t r)).reply st data) :
    s.take k body = s.answered t r st data := by
  rw [State.take_now h hb rfl]
  rfl

/-- Settles O13: each case of the two reads is one reply that leaves the state as it is. -/
theorem stationsAreReported : Obligations.StationsAreReported := by
  refine ⟨fun s t r h => ⟨fun a i e hn he => ?_, fun a hn hl => ?_, fun hn => ?_⟩,
    fun s t r h => ⟨fun hs => ?_, fun hs => ?_⟩⟩ <;> refine congrArg Host.Outcome.next ?_
  · obtain rfl : e.address = a := he.2.1
    rw [← Origin.code_eq, ← Admission.code_eq]
    exact State.take_of_reply h (State.readStation_of_has hn he)
  · exact State.take_of_reply h (State.readStation_of_lacks hn hl)
  · exact State.take_of_reply h (State.readStation_of_namesNone hn)
  · simp only [← Origin.code_eq, ← Admission.code_eq]
    exact State.take_of_reply h (State.listStations_of_le hs)
  · exact State.take_of_reply h (State.listStations_of_gt hs)

end Sys2Proof.Machine
end

section
/-! The Block Pool's own claim (chapter 3): a storage request of R38 puts the payload behind the message, and every
other block stays as it is. -/

namespace Sys2Proof.Machine

/-! ### Reading back what was written -/

namespace Memory

variable {m : List (Nat × Byte)}

theorem read_add (a n k : Nat) : read m a (n + k) = read m a n ++ read m (a + n) k := by
  simp [read_eq_map, List.range_add, Nat.add_assoc]

/-- The bytes written are read back. -/
theorem read_write_same (h : wf m = true) (a : Nat) (bytes : List Byte) :
    read (write m a bytes) a bytes.length = bytes := by
  rw [read_eq_map]
  refine List.ext_getElem (by simp) fun i _ hi => ?_
  rw [List.getElem_map, List.getElem_range, get_write _ _ _ h, if_pos (by omega), Nat.add_sub_cancel_left]
  exact List.getD_eq_getElem bytes 0 hi

/-- A read that ends where the write begins does not see it. -/
theorem read_write_below (h : wf m = true) (a n : Nat) (bytes : List Byte) :
    read (write m (a + n) bytes) a n = read m a n := by
  rw [read_eq_map, read_eq_map]
  refine List.map_congr_left fun i hi => ?_
  have below : i < n := List.mem_range.1 hi
  rw [get_write _ _ _ h, if_neg (by omega)]

end Memory

namespace BlockPool

variable {p q : BlockPool} {c : Chain} {l : List Nat} {t b j : Nat} {bytes : List Byte}

/-! ### A block that a change of the pool leaves alone -/

/-- R34: block `j` has in `q` the fields and the 64 bytes that it has in `p`. -/
def Keeps (p q : BlockPool) (j : Nat) : Prop :=
  q.fields j = p.fields j ∧ ∀ o < 64, Sparse.get 0 q.content (64 * j + o) = Sparse.get 0 p.content (64 * j + o)

/-- R45: block `j` verifies in `q` if it did in `p`. -/
def StillHolds (p q : BlockPool) (j : Nat) : Prop :=
  (p.fields j).fill ≤ 64 → p.verifies j = true → q.verifies j = true

theorem Keeps.trans {r : BlockPool} (h : Keeps p q j) (h' : Keeps q r j) : Keeps p r j :=
  ⟨h'.1.trans h.1, fun o ho => (h'.2 o ho).trans (h.2 o ho)⟩

theorem Keeps.blockContent_eq (h : Keeps p q j) (hf : (p.fields j).fill ≤ 64) : q.blockContent j = p.blockContent j :=
  blockContent_congr (by rw [h.1]) fun o ho => h.2 o (ho.trans_le hf)

theorem Keeps.stillHolds (h : Keeps p q j) : StillHolds p q j := fun hf hv =>
  (verifies_congr h.1 fun o ho => h.2 o (ho.trans_le hf)).trans hv

theorem verifies_iff : p.verifies j = true ↔ crc16 (p.blockContent j) = (p.fields j).check := decide_eq_true_iff

/-! ### Writing after a block's content -/

/-- R38: the bytes stand behind the block's content. -/
theorem blockContent_fillBlock (h : p.Canonical) (t : Nat) (bytes : List Byte) (link : Option Nat) :
    (p.fillBlock t bytes link).blockContent t = p.blockContent t ++ bytes := by
  have hm : Memory.wf p.content = true := h.1
  rw [blockContent, fields_fillBlock h, if_pos rfl, Memory.read_add]
  exact congrArg₂ (· ++ ·) (Memory.read_write_below hm _ _ _) (Memory.read_write_same hm _ _)

/-- R35: the check code continues, so that a block that verifies does so after the write. -/
theorem verifies_fillBlock (h : p.Canonical) (link : Option Nat) (hv : p.verifies t = true) :
    (p.fillBlock t bytes link).verifies t = true := by
  rw [verifies_iff] at hv ⊢
  rw [blockContent_fillBlock h, crc16_append, hv, fields_fillBlock h, if_pos rfl]

/-- R38: the bytes written stay within their block. -/
theorem keeps_fillBlock (h : p.Canonical) (room : (p.fields t).fill + bytes.length ≤ 64) (link : Option Nat)
    (hj : j ≠ t) : Keeps p (p.fillBlock t bytes link) j := by
  refine ⟨by rw [fields_fillBlock h, if_neg hj], fun o ho => ?_⟩
  rw [content_fillBlock h, if_neg (by omega)]

theorem stillHolds_fillBlock (h : p.Canonical) (room : (p.fields t).fill + bytes.length ≤ 64) (link : Option Nat)
    (j : Nat) : StillHolds p (p.fillBlock t bytes link) j := by
  by_cases hj : j = t
  · subst hj
    exact fun _ => verifies_fillBlock h link
  · exact (keeps_fillBlock h room link hj).stillHolds

/-- R34: no fill count rises above 64. -/
theorem fill_fillBlock_le (h : p.Canonical) (room : (p.fields t).fill + bytes.length ≤ 64) (link : Option Nat)
    (hj : (p.fields j).fill ≤ 64) : ((p.fillBlock t bytes link).fields j).fill ≤ 64 := by
  rw [fields_fillBlock h]
  split
  · exact room
  · exact hj

/-! ### Writing a block taken from the free list -/

/-- R38: the bytes are the block's content. -/
theorem blockContent_freshBlock (h : p.Canonical) (b : Nat) (bytes : List Byte) :
    (p.freshBlock b bytes).blockContent b = bytes := by
  rw [blockContent, fields_freshBlock h, if_pos rfl]
  exact Memory.read_write_same h.1 _ _

theorem verifies_freshBlock (h : p.Canonical) (b : Nat) (bytes : List Byte) :
    (p.freshBlock b bytes).verifies b = true := by
  rw [verifies_iff, blockContent_freshBlock h, fields_freshBlock h, if_pos rfl]

theorem keeps_freshBlock (h : p.Canonical) (room : bytes.length ≤ 64) (hj : j ≠ b) :
    Keeps p (p.freshBlock b bytes) j := by
  refine ⟨by rw [fields_freshBlock h, if_neg hj], fun o ho => ?_⟩
  rw [content_freshBlock h, if_neg (by omega)]

/-! ### The chain of the written block -/

/-- R40: the tail stands at the last place of its chain and nowhere else. -/
theorem Forms.getElem_eq_tail_iff (h : p.Forms c l) {i : Nat} (hi : i < l.length) :
    l[i] = c.tail ↔ i + 1 = l.length := by
  have last : l[l.length - 1]? = some c.tail := List.getLast?_eq_getElem?.symm.trans h.tail
  obtain ⟨hl, ht⟩ := List.getElem?_eq_some_iff.1 last
  rw [← ht, h.distinct.getElem_inj_iff]
  omega

theorem Forms.succ_lt_of_ne_tail (h : p.Forms c l) {i : Nat} (hi : i < l.length) (ht : l[i] ≠ c.tail) :
    i + 1 < l.length := by
  have notLast := mt (h.getElem_eq_tail_iff hi).2 ht
  omega

theorem Forms.tail_mem (h : p.Forms c l) : c.tail ∈ l := List.mem_of_getLast? h.tail

theorem Forms.fill_le (h : p.Forms c l) (hj : j ∈ l) : (p.fields j).fill ≤ 64 := by
  obtain ⟨i, hi, rfl⟩ := List.getElem_of_mem hj
  by_cases ht : l[i] = c.tail
  · exact ht ▸ h.room
  · exact (h.full i (h.succ_lt_of_ne_tail hi ht) _ (List.getElem?_eq_getElem hi)).le

/-- R40: a chain stays a chain while its links do and only its tail's fill count changes. -/
theorem Forms.of_tail_filled (h : p.Forms c l) (links : ∀ j ∈ l, (q.fields j).link = (p.fields j).link)
    (fills : ∀ j ∈ l, j ≠ c.tail → (q.fields j).fill = (p.fields j).fill) (room : (q.fields c.tail).fill ≤ 64) :
    q.Forms c l where
  count := h.count
  head := h.head
  tail := h.tail
  links i hi := (links _ (List.getElem_mem hi)).trans (h.links i hi)
  full i hi j hj := by
    obtain ⟨hi', rfl⟩ := List.getElem?_eq_some_iff.1 hj
    have inner : l[i] ≠ c.tail := fun e => hi.ne ((h.getElem_eq_tail_iff hi').1 e)
    exact (fills _ (List.getElem_mem hi') inner).trans (h.full i hi _ hj)
  room := room
  distinct := h.distinct

/-- R38: a chain with a full tail is extended by the block that the tail is linked to. -/
theorem Forms.extend (h : p.Forms c l) (hb : b ∉ l)
    (inner : ∀ j ∈ l, j ≠ c.tail → q.fields j = p.fields j)
    (link : (q.fields c.tail).link = some b) (fill : (q.fields c.tail).fill = 64)
    (last : (q.fields b).link = none) (room : (q.fields b).fill ≤ 64) :
    q.Forms { head := c.head, tail := b, count := c.count + 1 } (l ++ [b]) where
  count := by simp [h.count]
  head := by simp [h.head]
  tail := by simp
  links i hi := by
    rcases Nat.lt_succ_iff_lt_or_eq.1 (by simpa using hi : i < l.length + 1) with old | rfl
    · rw [List.getElem_append_left old]
      by_cases ht : l[i] = c.tail
      · rw [ht, link, (h.getElem_eq_tail_iff old).1 ht]
        simp
      · rw [inner _ (List.getElem_mem old) ht, h.links i old,
          List.getElem?_append_left (h.succ_lt_of_ne_tail old ht)]
    · simp [last]
  full i hi j hj := by
    have old : i < l.length := by simpa using hi
    rw [List.getElem?_append_left old] at hj
    by_cases ht : j = c.tail
    · rw [ht, fill]
    · rw [inner j (List.mem_of_getElem? hj) ht]
      obtain ⟨_, rfl⟩ := List.getElem?_eq_some_iff.1 hj
      exact h.full i (h.succ_lt_of_ne_tail old ht) _ hj
  room := room
  distinct := h.distinct.append (List.nodup_singleton b) (by simpa using hb)

/-- R38: a start makes a chain of one block. -/
theorem forms_single (link : (p.fields b).link = none) (room : (p.fields b).fill ≤ 64) :
    p.Forms { head := b, tail := b, count := 1 } [b] where
  count := rfl
  head := rfl
  tail := rfl
  links i hi := by
    obtain rfl : i = 0 := by simpa using hi
    simpa using link
  full i hi := absurd hi (by simp)
  room := room
  distinct := List.nodup_singleton b

theorem Forms.payload_eq (h : p.Forms c l) : p.payload c = l.flatMap p.blockContent := by
  rw [payload, h.chainBlocks]

/-- R40: bytes written after the tail's content are the chain's last bytes. -/
theorem Forms.flatMap_fillBlock (hf : p.Forms c l) (h : p.Canonical)
    (room : (p.fields c.tail).fill + bytes.length ≤ 64) (link : Option Nat) :
    l.flatMap (p.fillBlock c.tail bytes link).blockContent = p.payload c ++ bytes := by
  obtain ⟨front, hl⟩ := List.getLast?_eq_some_iff.1 hf.tail
  have notLast : ∀ j ∈ front, j ≠ c.tail := by
    have distinct := hl ▸ hf.distinct
    exact fun j hj e => List.disjoint_of_nodup_append distinct hj (e ▸ List.mem_singleton_self c.tail)
  have same : ∀ j ∈ front, (p.fillBlock c.tail bytes link).blockContent j = p.blockContent j := fun j hj =>
    (keeps_fillBlock h room link (notLast j hj)).blockContent_eq (hf.fill_le (by simp [hl, hj]))
  rw [hf.payload_eq, hl, List.flatMap_append, List.flatMap_append, List.flatMap_congr same]
  simp [blockContent_fillBlock h]

/-- R40: bytes written into a block behind the others follow what those hold. -/
theorem flatMap_freshBlock (h : p.Canonical) (hb : b ∉ l) (fills : ∀ j ∈ l, (p.fields j).fill ≤ 64)
    (room : bytes.length ≤ 64) :
    (l ++ [b]).flatMap (p.freshBlock b bytes).blockContent = l.flatMap p.blockContent ++ bytes := by
  have same : ∀ j ∈ l, (p.freshBlock b bytes).blockContent j = p.blockContent j := fun j hj =>
    (keeps_freshBlock h room (ne_of_mem_of_not_mem hj hb)).blockContent_eq (fills j hj)
  rw [List.flatMap_append, List.flatMap_congr same]
  simp [blockContent_freshBlock h]

/-! ### The storage request, case by case -/

/-- R38: the room of the chain is written first; what is left of the payload goes into the new block. -/
def spill (p : BlockPool) (t b : Nat) (rest : List Nat) (payload : List Byte) : BlockPool :=
  ({ p with free := rest }.fillBlock t (payload.take (64 - (p.fields t).fill)) (some b)).freshBlock b
    (payload.drop (64 - (p.fields t).fill))

section
variable {payload : List Byte} {rest : List Nat}

theorem store_start_of_free_nil (h : p.free = []) : p.store payload none = none := by
  rw [store, h]

theorem store_start_of_free_cons (h : p.free = b :: rest) : p.store payload none
    = some ({ head := b, tail := b, count := 1 }, { p with free := rest }.freshBlock b payload) := by
  rw [store, h]

theorem store_of_fits (h : payload.length ≤ 64 - (p.fields c.tail).fill) :
    p.store payload (some c) = some (c, p.fillBlock c.tail payload (p.fields c.tail).link) :=
  if_pos h

theorem store_of_free_nil (h : ¬ payload.length ≤ 64 - (p.fields c.tail).fill) (hf : p.free = []) :
    p.store payload (some c) = none := by
  simp only [store, h, if_false, hf]

theorem store_of_free_cons (h : ¬ payload.length ≤ 64 - (p.fields c.tail).fill) (hf : p.free = b :: rest) :
    p.store payload (some c)
      = some ({ head := c.head, tail := b, count := c.count + 1 }, p.spill c.tail b rest payload) := by
  simp only [store, h, if_false, hf]
  rfl

end

/-! ### A start -/

/-- R38: a start stores the payload in the head of the free list and touches no other block. -/
theorem start_stores {payload : List Byte} (h : p.Canonical) (b : Nat) (small : payload.length ≤ 56) :
    let q := p.freshBlock b payload
    q.payload { head := b, tail := b, count := 1 } = payload ∧ q.Forms { head := b, tail := b, count := 1 } [b] ∧
      q.verifies b = true ∧ ∀ j, j ≠ b → Keeps p q j ∧ StillHolds p q j := by
  have forms : (p.freshBlock b payload).Forms { head := b, tail := b, count := 1 } [b] := by
    apply forms_single <;> rw [fields_freshBlock h, if_pos rfl]
    exact Nat.le_trans small (by decide)
  refine ⟨?_, forms, verifies_freshBlock h b payload, fun j hj => ?_⟩
  · rw [forms.payload_eq, List.flatMap_singleton, blockContent_freshBlock h]
  · have kept : Keeps p (p.freshBlock b payload) j := keeps_freshBlock h (by omega) hj
    exact ⟨kept, kept.stillHolds⟩

/-! ### A payload that fits in the tail -/

/-- R38, R40: the chain's blocks and their links stay. -/
theorem Forms.fillBlock (hf : p.Forms c l) (h : p.Canonical) (room : (p.fields c.tail).fill + bytes.length ≤ 64) :
    (p.fillBlock c.tail bytes (p.fields c.tail).link).Forms c l := by
  refine hf.of_tail_filled (fun j _ => ?_) (fun j _ hj => ?_) (fill_fillBlock_le h room _ hf.room)
  · rw [fields_fillBlock h]
    split
    · next e => rw [e]
    · rfl
  · rw [fields_fillBlock h, if_neg hj]

/-! ### A payload that goes on into a new block -/

section
variable {payload : List Byte} {rest : List Nat}

theorem length_take_room (full : 64 < (p.fields t).fill + payload.length) (ht : (p.fields t).fill ≤ 64) :
    (p.fields t).fill + (payload.take (64 - (p.fields t).fill)).length = 64 := by
  rw [List.length_take]
  omega

theorem length_drop_le (small : payload.length ≤ 56) (n : Nat) : (payload.drop n).length ≤ 64 := by
  rw [List.length_drop]
  omega

/-- R38: what a request that takes a new block does to the other blocks. -/
theorem keeps_spill (h : p.Canonical) (full : 64 < (p.fields t).fill + payload.length)
    (ht : (p.fields t).fill ≤ 64) (small : payload.length ≤ 56) (hjt : j ≠ t) (hjb : j ≠ b) :
    Keeps p (p.spill t b rest payload) j :=
  have filled := keeps_fillBlock (h.withFree rest) (length_take_room full ht).le (some b) hjt
  filled.trans (keeps_freshBlock ((h.withFree rest).fillBlock _ _ _) (length_drop_le small _) hjb)

theorem stillHolds_spill (h : p.Canonical) (full : 64 < (p.fields t).fill + payload.length)
    (ht : (p.fields t).fill ≤ 64) (small : payload.length ≤ 56) (hjb : j ≠ b) :
    StillHolds p (p.spill t b rest payload) j := fun hf hv =>
  have room := (length_take_room full ht).le
  have kept := keeps_freshBlock ((h.withFree rest).fillBlock t (payload.take (64 - (p.fields t).fill)) (some b))
    (bytes := payload.drop (64 - (p.fields t).fill)) (length_drop_le small _) hjb
  kept.stillHolds (fill_fillBlock_le (h.withFree rest) room _ hf)
    (stillHolds_fillBlock (h.withFree rest) room _ j hf hv)

theorem verifies_spill (h : p.Canonical) : (p.spill t b rest payload).verifies b = true :=
  verifies_freshBlock ((h.withFree rest).fillBlock _ _ _) _ _

/-- R38: the fields after a request that takes a new block. -/
theorem fields_spill (h : p.Canonical) (full : 64 < (p.fields t).fill + payload.length)
    (ht : (p.fields t).fill ≤ 64) (j : Nat) :
    (p.spill t b rest payload).fields j =
      if j = b then { fill := (payload.drop (64 - (p.fields t).fill)).length, link := none,
                      check := crc16 (payload.drop (64 - (p.fields t).fill)) }
      else if j = t then { fill := 64, link := some b,
                           check := crc16From (p.fields t).check (payload.take (64 - (p.fields t).fill)) }
      else p.fields j := by
  rw [spill, fields_freshBlock ((h.withFree rest).fillBlock _ _ _), fields_fillBlock (h.withFree rest)]
  exact if_congr Iff.rfl rfl (if_congr Iff.rfl (congrArg (BlockFields.mk · _ _) (length_take_room full ht)) rfl)

/-- R38, R40: the new block is the chain's tail. -/
theorem Forms.spill (hf : p.Forms c l) (h : p.Canonical) (full : 64 < (p.fields c.tail).fill + payload.length)
    (small : payload.length ≤ 56) (hb : b ∉ l) :
    (p.spill c.tail b rest payload).Forms { head := c.head, tail := b, count := c.count + 1 } (l ++ [b]) := by
  have notNew : ∀ j ∈ l, j ≠ b := fun j hj => ne_of_mem_of_not_mem hj hb
  have fields := fields_spill (b := b) (rest := rest) h full hf.room
  refine hf.extend hb (fun j hj ht => ?_) ?_ ?_ ?_ ?_
  · rw [fields, if_neg (notNew j hj), if_neg ht]
  · rw [fields, if_neg (notNew _ hf.tail_mem), if_pos rfl]
  · rw [fields, if_neg (notNew _ hf.tail_mem), if_pos rfl]
  · rw [fields, if_pos rfl]
  · rw [fields, if_pos rfl]
    exact length_drop_le small _

/-- R38, R40: the message is followed by the payload, across the two blocks. -/
theorem Forms.payload_spill (hf : p.Forms c l) (h : p.Canonical)
    (full : 64 < (p.fields c.tail).fill + payload.length) (small : payload.length ≤ 56) (hb : b ∉ l) :
    (p.spill c.tail b rest payload).payload { head := c.head, tail := b, count := c.count + 1 }
      = p.payload c ++ payload := by
  have room := (length_take_room full hf.room).le
  have unlisted : ({ p with free := rest } : BlockPool).Forms c l := hf.congr fun _ _ => rfl
  rw [(hf.spill h full small hb).payload_eq, BlockPool.spill,
    flatMap_freshBlock ((h.withFree rest).fillBlock _ _ _) hb
      (fun j hj => fill_fillBlock_le (h.withFree rest) room _ (hf.fill_le hj)) (length_drop_le small _),
    unlisted.flatMap_fillBlock (h.withFree rest) room, List.append_assoc, List.take_append_drop,
    unlisted.payload_eq, hf.payload_eq]
  rfl

end

end BlockPool

/-- Settles O30: the request's three outcomes, each with the chain it leaves and the blocks it leaves alone. -/
theorem storedPayloadFollowsTheMessage : Obligations.StoredPayloadFollowsTheMessage := by
  intro p payload h nonempty small keeps stillHolds
  refine ⟨BlockPool.store_start_of_free_nil, fun b rest hfree =>
    ⟨_, BlockPool.store_start_of_free_cons hfree, rfl, rfl, BlockPool.start_stores (h.withFree rest) b small⟩,
    fun c l hf apart => ⟨fun room => ?fits, fun full hfree => ?refused, fun b rest full hfree => ?spills⟩⟩
  case fits =>
    have forms := hf.fillBlock h room
    refine ⟨_, BlockPool.store_of_fits (by omega), rfl, rfl, forms, ?_,
      fun j hj => BlockPool.keeps_fillBlock h room _ hj, BlockPool.stillHolds_fillBlock h room _⟩
    rw [forms.payload_eq, hf.flatMap_fillBlock h room]
  case refused => exact BlockPool.store_of_free_nil (by omega) hfree
  case spills =>
    have hb : b ∉ l := fun hm => apart b hm (by simp [hfree])
    exact ⟨_, BlockPool.store_of_free_cons (by omega) hfree, rfl, rfl, hf.spill h full small hb,
      hf.payload_spill h full small hb, BlockPool.verifies_spill h,
      fun j ht hj => BlockPool.keeps_spill h full hf.room small ht hj,
      fun j hj => BlockPool.stillHolds_spill h full hf.room small hj⟩

end Sys2Proof.Machine
end

section
/-! The reading of a context (R72): READ_CONTEXT answers the number of a context, what the context holds, its place in
the pending list and its last abort reason. -/

namespace Sys2Proof.Machine

/-- R72: the position that READ_CONTEXT counts is that of the first mention in the list. -/
theorem idxOf_of_first {i : Fin 48} {l : List (Fin 48)} {n : Nat} (h : l[n]? = some i) (first : i ∉ l.take n) :
    l.idxOf i = n := by
  obtain ⟨hn, rfl⟩ := List.getElem?_eq_some_iff.1 h
  calc l.idxOf l[n] = (l.take n ++ l[n] :: l.drop (n + 1)).idxOf l[n] := by simp
    _ = (l.take n).length := by rw [List.idxOf_append_of_notMem first, List.idxOf_cons_self, Nat.add_zero]
    _ = n := List.length_take_of_le hn.le

namespace State

variable {s : State} {i : Fin 48} {m : Message}

/-- R72: 255 for a context that is not COMPLETE. -/
theorem pendingPosition_of_not_complete (h : ∀ m, (s.context i).body ≠ .complete m) : s.pendingPosition i = 255 := by
  rw [pendingPosition]
  split
  case h_1 m hb => exact absurd hb (h m)
  all_goals rfl

/-- R72: 254 for the context under classification. -/
theorem pendingPosition_of_classifying (h : (s.context i).body = .complete m) {g : Gathered}
    (hc : s.classifier.state = .classifying i g) : s.pendingPosition i = 254 := by
  simp only [pendingPosition, h, hc, if_true]

/-- R72: a COMPLETE context that is not under classification is reported with its place in the pending list. -/
theorem pendingPosition_of_waiting (h : (s.context i).body = .complete m)
    (hc : ∀ g, s.classifier.state ≠ .classifying i g) :
    s.pendingPosition i = natByte (s.reassembly.pendingList.idxOf i) := by
  simp only [pendingPosition, h]
  split
  case h_1 j g hj => exact if_neg fun same : j = i => hc g (same ▸ hj)
  case h_2 => rfl

variable {t : Fin 4} {r : Request}

/-- R72: READ_CONTEXT of a number that names a context. -/
theorem readContext_of_eq (h : (byteAt r.args 0).toNat = i.val) :
    State.readContext t r s = s.reply .ok ([natByte i.val] ++ (s.context i).body.bytes
      ++ [s.pendingPosition i, (s.context i).lastAbort.code]) := by
  have inRange : (byteAt r.args 0).toNat < 48 := h ▸ i.isLt
  obtain rfl : ⟨_, inRange⟩ = i := Fin.ext h
  exact dif_pos inRange

/-- R72: READ_CONTEXT of a number that names none. -/
theorem readContext_of_gt (h : 47 < (byteAt r.args 0).toNat) : State.readContext t r s = s.reply .badValue :=
  dif_neg (Nat.not_lt.2 h)

/-- R72, R155: the step that answers READ_CONTEXT, for a context with content `b` and pending position `p`. -/
theorem exec_readContext_of_body (h : s.Passes t .readContext r) (hi : (byteAt r.args 0).toNat = i.val)
    {b : ContextState} {p : Byte} (hb : (s.context i).body = b) (hp : s.pendingPosition i = p) :
    exec .readContext s = .next (s.answered t r .ok ([natByte i.val] ++ b.bytes
      ++ [p, (s.context i).lastAbort.code])) := by
  subst hb hp
  exact congrArg Host.Outcome.next (take_of_reply h (readContext_of_eq hi))

end State

/-- Settles O17: the answer is the context's own bytes in each of its states; the cases differ in the pending
position. -/
theorem readContextReportsTheContext : Obligations.ReadContextReportsTheContext := by
  intro s t r h
  refine ⟨fun hgt => congrArg Host.Outcome.next (State.take_of_reply h (State.readContext_of_gt hgt)), fun i hi => ?_⟩
  have notComplete {b : ContextState} (hb : (s.context i).body = b) (hn : ∀ m, b ≠ .complete m) :=
    State.exec_readContext_of_body h hi hb (State.pendingPosition_of_not_complete (hb ▸ hn))
  refine ⟨fun free => ?_, fun m e z opened => ?_, fun a ch z discarding => ?_, fun m complete =>
    ⟨fun ⟨g, hc⟩ => ?_, fun hc n listed first => ?_⟩⟩
  · exact notComplete free nofun
  · exact notComplete opened nofun
  · exact notComplete discarding nofun
  · exact State.exec_readContext_of_body h hi complete (State.pendingPosition_of_classifying complete hc)
  · rw [← idxOf_of_first listed first]
    exact State.exec_readContext_of_body h hi complete (State.pendingPosition_of_waiting complete hc)

end Sys2Proof.Machine
end

section
/-! Evaluation (R84 to R89): the evaluator, which walks the clauses with a count of positions to look at, against the
relation that reads terms, Care Masks and GATEs off the program. Every step of the walk moves forward, so a count of at
least the clauses that are left is never used up. -/

namespace Sys2Proof.Machine

/-- R84: the comparison of the evaluator is the comparison of the rule; a code above 3 passes in neither. -/
theorem compareMasked_iff {c : Byte} {p o m : U16} : compareMasked c p o m = true ↔ comparisonPasses c p o m := by
  have code (k : Byte) : c = k ↔ c.toNat = k.toNat := BitVec.toNat_inj.symm
  simp only [comparisonPasses, code, compareMasked]
  split
  case h_5 h0 h1 h2 h3 =>
    refine iff_of_false nofun ?_
    rintro (⟨h, _⟩ | ⟨h, _⟩ | ⟨h, _⟩ | ⟨h, _⟩)
    exacts [h0 h, h1 h, h2 h, h3 h]
  all_goals next h => simp [h, BitVec.ule, BitVec.ult]

namespace Program

variable {g : Program} {x : Properties} {pos k n : Nat} {mask m o : U16} {hits : List Nat} {c : Clause} {p q : Byte}

/-! ### What a position holds -/

theorem Holds.lt (h : g.Holds pos c) : pos < g.count := h.1

theorem Holds.clause_eq (h : g.Holds pos c) : g.clause pos = c := by
  simp [clause, List.getD, h.2]

theorem holds_clause (small : g.count ≤ 256) (h : pos < g.count) : g.Holds pos (g.clause pos) := by
  have inTable : pos < 256 := by omega
  exact ⟨h, by simp [clause, List.getD, inTable]⟩

/-- The clause at `pos` is a TEST with link END. -/
def EndAt (g : Program) (pos : Nat) : Prop := ∃ p q o a, g.Holds pos (.testEnd p q o a)

/-- The clause at `pos` is a GATE. -/
def GateAt (g : Program) (pos : Nat) : Prop := ∃ p q o i, g.Holds pos (.gate p q o i)

theorem Holds.not_gateAt (h : g.Holds pos c) (hc : c.isGate = false) : ¬ g.GateAt pos := by
  rintro ⟨p, q, o, i, hg⟩
  obtain rfl : Clause.gate p q o i = c := hg.clause_eq.symm.trans h.clause_eq
  cases hc

theorem isGate_of_gateAt (h : g.GateAt pos) : (g.clause pos).isGate = true := by
  obtain ⟨p, q, o, i, hg⟩ := h
  rw [hg.clause_eq, Clause.isGate]

/-! ### Where a term ends -/

/-- R85: position `pos` is the last of its term: a TEST with link END, or followed by a GATE. -/
def LastAt (g : Program) (pos : Nat) : Prop := g.EndAt pos ∨ g.GateAt (pos + 1)

/-- R85: the term from `pos` on ends with the first position that is a last one. -/
theorem termEnds_succ : g.TermEnds pos (k + 1) ↔ pos ≤ k ∧ g.LastAt k ∧ ∀ j, pos ≤ j → j < k → ¬ g.LastAt j := by
  simp only [TermEnds, LastAt, EndAt, GateAt, Nat.add_sub_cancel, Nat.lt_succ_iff, Nat.succ_le_iff, not_or]

theorem TermEnds.le_count (h : g.TermEnds pos k) : k ≤ g.count := by
  obtain ⟨before, ⟨_, _, _, _, hend⟩ | ⟨_, _, _, _, hgate⟩, _⟩ := h
  · have := hend.lt
    omega
  · exact hgate.lt.le

/-- A last position ends its own term. -/
theorem TermEnds.eq_succ (h : g.TermEnds pos k) (last : g.LastAt pos) : k = pos + 1 := by
  obtain ⟨e, rfl⟩ := Nat.exists_eq_add_of_lt h.1
  obtain ⟨_, _, first⟩ := termEnds_succ.1 h
  by_contra later
  exact first pos le_rfl (by omega) last

/-- The term goes on at the next clause after a position that is not a last one. -/
theorem TermEnds.tail (h : g.TermEnds pos k) (notLast : ¬ g.LastAt pos) : g.TermEnds (pos + 1) k := by
  obtain ⟨e, rfl⟩ := Nat.exists_eq_add_of_lt h.1
  obtain ⟨_, last, first⟩ := termEnds_succ.1 h
  have later : pos ≠ pos + e := fun same => notLast (same ▸ last)
  exact termEnds_succ.2 ⟨by omega, last, fun j hj => first j (by omega)⟩

theorem exists_termEnds_of_lastAt (h : pos ≤ n) (last : g.LastAt n) : ∃ k, g.TermEnds pos k := by
  classical
  have candidate : ∃ j, pos ≤ j ∧ g.LastAt j := ⟨n, h, last⟩
  obtain ⟨after, found⟩ := Nat.find_spec candidate
  exact ⟨_, termEnds_succ.2 ⟨after, found, fun j hj before hl => Nat.find_min candidate before ⟨hj, hl⟩⟩⟩

theorem afterTerm_of_lastAt (last : g.LastAt pos) : g.afterTerm (n + 1) pos = pos + 1 := by
  obtain ⟨_, _, _, _, hend⟩ | hgate := last
  · rw [afterTerm, hend.clause_eq]
  · have next := isGate_of_gateAt hgate
    cases h : g.clause pos <;> simp [afterTerm, h, next]

theorem afterTerm_of_not_lastAt (small : g.count ≤ 256) (inside : pos + 1 < g.count) (notLast : ¬ g.LastAt pos)
    (notGate : ¬ g.GateAt pos) : g.afterTerm (n + 1) pos = g.afterTerm n (pos + 1) := by
  obtain ⟨notEnd, noGateNext⟩ := not_or.1 notLast
  have here := holds_clause small (pos := pos) (by omega)
  have next : (g.clause (pos + 1)).isGate = false := by
    have there := holds_clause small inside
    cases h : g.clause (pos + 1) with
    | gate p q o i => exact absurd ⟨p, q, o, i, h ▸ there⟩ noGateNext
    | testAnd | testEnd | care => rfl
  cases h : g.clause pos with
  | testAnd | care => simp [afterTerm, h, next]
  | testEnd p q o a => exact absurd ⟨p, q, o, a, h ▸ here⟩ notEnd
  | gate p q o i => exact absurd ⟨p, q, o, i, h ▸ here⟩ notGate

/-- R85, R87: the evaluator finds the end of the term in which a clause lies that is not a GATE. -/
theorem afterTerm_eq_of_termEnds (small : g.count ≤ 256) (h : g.TermEnds pos k) (notGate : ¬ g.GateAt pos)
    (room : k ≤ pos + n) : g.afterTerm n pos = k := by
  induction n generalizing pos with
  | zero => exact absurd h.1 (by omega)
  | succ n ih =>
    by_cases last : g.LastAt pos
    · rw [afterTerm_of_lastAt last, h.eq_succ last]
    · have rest := h.tail last
      have inside : pos + 1 < g.count := rest.1.trans_le rest.le_count
      rw [afterTerm_of_not_lastAt small inside last notGate]
      exact ih rest (not_or.1 last).2 (by omega)

/-! ### What validity gives the walk -/

/-- R111 check 5: the resume index of a GATE lies ahead. -/
theorem Valid.lt_resume (valid : g.Valid) (h : g.Holds pos (.gate p q o m)) : pos < m.toNat :=
  Nat.lt_of_not_le fun back => valid.1 pos 5 h.lt ⟨p, q, o, m, h, .inl back⟩

/-- R111 check 7: the last clause is a TEST with link END or a GATE. -/
theorem Valid.endAt_or_gateAt (valid : g.Valid) (small : g.count ≤ 256) (h : pos + 1 = g.count) :
    g.EndAt pos ∨ g.GateAt pos := by
  have before : pos < g.count := by omega
  have here := holds_clause small before
  cases hc : g.clause pos with
  | testEnd p q o a => exact .inl ⟨p, q, o, a, hc ▸ here⟩
  | gate p q o i => exact .inr ⟨p, q, o, i, hc ▸ here⟩
  | testAnd p q o => exact absurd ⟨h, .inr ⟨p, q, o, hc ▸ here⟩⟩ (valid.1 pos 7 before)
  | care m => exact absurd ⟨h, .inl ⟨m, hc ▸ here⟩⟩ (valid.1 pos 7 before)

/-- R85: in a valid program the term in which a TEST with link AND lies has an end. -/
theorem Valid.exists_termEnds (valid : g.Valid) (small : g.count ≤ 256) (h : g.Holds pos (.testAnd p q o)) :
    ∃ k, g.TermEnds pos k := by
  obtain ⟨last, hlast⟩ : ∃ last, last + 1 = g.count := ⟨g.count - 1, by have := h.lt; omega⟩
  have upTo : pos ≤ last := by have := h.lt; omega
  rcases valid.endAt_or_gateAt small hlast with hend | hgate
  · exact exists_termEnds_of_lastAt upTo (.inl hend)
  · have apart : pos ≠ last := fun same => h.not_gateAt rfl (same ▸ hgate)
    obtain ⟨e, rfl⟩ : ∃ e, last = e + 1 := ⟨last - 1, by omega⟩
    exact exists_termEnds_of_lastAt (by omega) (.inr hgate)

/-! ### One clause of the walk -/

theorem evalFrom_of_count_le (h : g.count ≤ pos) : g.evalFrom x n pos mask hits = { hits := hits, action := none } := by
  cases n with
  | zero => rfl
  | succ n => rw [evalFrom, if_pos h]

theorem Holds.exists_fuel (h : g.Holds pos c) (room : g.count ≤ pos + n) : ∃ j, n = j + 1 :=
  Nat.exists_eq_succ_of_ne_zero (by have := h.lt; omega)

theorem evalFrom_care (h : g.Holds pos (.care m)) (room : g.count ≤ pos + n) :
    g.evalFrom x n pos mask hits = g.evalFrom x (n - 1) (pos + 1) m hits := by
  obtain ⟨n, rfl⟩ := h.exists_fuel room
  simp [evalFrom, h.clause_eq, h.lt.not_ge]

theorem evalFrom_testAnd (h : g.Holds pos (.testAnd p q o)) (room : g.count ≤ pos + n) :
    g.evalFrom x n pos mask hits = if compareMasked q (x.value p) o mask then g.evalFrom x (n - 1) (pos + 1) mask hits
      else g.evalFrom x (n - 1) (g.afterTerm (g.count - pos) pos) 0xFFFF hits := by
  obtain ⟨n, rfl⟩ := h.exists_fuel room
  simp [evalFrom, h.clause_eq, h.lt.not_ge]

theorem evalFrom_testEnd {a : ClauseAction} (h : g.Holds pos (.testEnd p q o a)) (room : g.count ≤ pos + n) :
    g.evalFrom x n pos mask hits = if compareMasked q (x.value p) o mask then
        if a = .none then g.evalFrom x (n - 1) (pos + 1) 0xFFFF (hits ++ [pos])
        else { hits := hits ++ [pos], action := some a }
      else g.evalFrom x (n - 1) (pos + 1) 0xFFFF hits := by
  obtain ⟨n, rfl⟩ := h.exists_fuel room
  simp [evalFrom, h.clause_eq, h.lt.not_ge]

theorem evalFrom_gate {i : U16} (h : g.Holds pos (.gate p q o i)) (room : g.count ≤ pos + n) :
    g.evalFrom x n pos mask hits = if compareMasked q (x.value p) o 0xFFFF then
        g.evalFrom x (n - 1) (pos + 1) 0xFFFF hits
      else g.evalFrom x (n - 1) i.toNat 0xFFFF hits := by
  obtain ⟨n, rfl⟩ := h.exists_fuel room
  simp [evalFrom, h.clause_eq, h.lt.not_ge]

/-! ### The two readings of a program agree -/

/-- R85 to R89: the evaluator reaches every decision of the relation, after the hits it has already earned. -/
theorem Decides.evalFrom_eq (valid : g.Valid) (small : g.count ≤ 256) {a : Option ClauseAction}
    (d : g.Decides x pos mask hits a) (n : Nat) (earned : List Nat) (room : g.count ≤ pos + n) :
    g.evalFrom x n pos mask earned = { hits := earned ++ hits, action := a } := by
  induction d generalizing n earned with
  | default pos mask h => rw [evalFrom_of_count_le h, List.append_nil]
  | care pos mask m hits a h _ ih => rw [evalFrom_care h room, ih _ _ (by omega)]
  | andPasses pos mask p c o hits a h passes _ ih =>
    rw [evalFrom_testAnd h room, if_pos (compareMasked_iff.2 passes), ih _ _ (by omega)]
  | andFails pos mask p c o k hits a h fails ends _ ih =>
    have found : g.afterTerm (g.count - pos) pos = k :=
      afterTerm_eq_of_termEnds small ends (h.not_gateAt rfl) (by have := ends.le_count; omega)
    have ahead := ends.1
    rw [evalFrom_testAnd h room, if_neg (mt compareMasked_iff.1 fails), found, ih _ _ (by omega)]
  | endPassesNone pos mask p c o hits a h passes _ ih =>
    rw [evalFrom_testEnd h room, if_pos (compareMasked_iff.2 passes), if_pos rfl, ih _ _ (by omega),
      List.append_assoc, List.singleton_append]
  | endPasses pos mask p c o a h acts passes =>
    rw [evalFrom_testEnd h room, if_pos (compareMasked_iff.2 passes), if_neg acts]
  | endFails pos mask p c o b hits a h fails _ ih =>
    rw [evalFrom_testEnd h room, if_neg (mt compareMasked_iff.1 fails), ih _ _ (by omega)]
  | gatePasses pos mask p c o i hits a h passes _ ih =>
    rw [evalFrom_gate h room, if_pos (compareMasked_iff.2 passes), ih _ _ (by omega)]
  | gateFails pos mask p c o i hits a h fails _ ih =>
    have ahead := valid.lt_resume h
    rw [evalFrom_gate h room, if_neg (mt compareMasked_iff.1 fails), ih _ _ (by omega)]

/-- R85 to R89: from every position a valid program decides, for each way of going on moves forward. -/
theorem Valid.exists_decides (valid : g.Valid) (small : g.count ≤ 256) (n : Nat) (room : g.count ≤ pos + n) :
    ∃ hits a, g.Decides x pos mask hits a := by
  induction n generalizing pos mask with
  | zero => exact ⟨[], none, .default _ _ room⟩
  | succ n ih =>
    rcases Nat.lt_or_ge pos g.count with before | atEnd
    case inr => exact ⟨[], none, .default _ _ atEnd⟩
    have onwards (mask : U16) (k : Nat) (ahead : pos < k) : ∃ hits a, g.Decides x k mask hits a := ih (by omega)
    have here := holds_clause small before
    have next := pos.lt_succ_self
    cases hc : g.clause pos with rw [hc] at here
    | care m =>
      obtain ⟨hits, a, d⟩ := onwards m _ next
      exact ⟨hits, a, .care _ _ _ _ _ here d⟩
    | testAnd p q o =>
      by_cases passes : comparisonPasses q (x.value p) o mask
      · obtain ⟨hits, a, d⟩ := onwards mask _ next
        exact ⟨hits, a, .andPasses _ _ _ _ _ _ _ here passes d⟩
      · obtain ⟨k, ends⟩ := valid.exists_termEnds small here
        obtain ⟨hits, a, d⟩ := onwards 0xFFFF k ends.1
        exact ⟨hits, a, .andFails _ _ _ _ _ _ _ _ here passes ends d⟩
    | testEnd p q o b =>
      obtain ⟨hits, a, d⟩ := onwards 0xFFFF _ next
      by_cases passes : comparisonPasses q (x.value p) o mask
      · by_cases acts : b = .none
        · exact ⟨pos :: hits, a, .endPassesNone _ _ _ _ _ _ _ (acts ▸ here) passes d⟩
        · exact ⟨[pos], some b, .endPasses _ _ _ _ _ _ here acts passes⟩
      · exact ⟨hits, a, .endFails _ _ _ _ _ _ _ _ here passes d⟩
    | gate p q o i =>
      by_cases passes : comparisonPasses q (x.value p) o 0xFFFF
      · obtain ⟨hits, a, d⟩ := onwards 0xFFFF _ next
        exact ⟨hits, a, .gatePasses _ _ _ _ _ _ _ _ here passes d⟩
      · obtain ⟨hits, a, d⟩ := onwards 0xFFFF _ (valid.lt_resume here)
        exact ⟨hits, a, .gateFails _ _ _ _ _ _ _ _ here passes d⟩

end Program

/-- Settles O41: the evaluator reaches every decision of the terms, and there is always one to reach, so the decision it
answers is that one. -/
theorem evaluationFollowsTheTerms : Obligations.EvaluationFollowsTheTerms := by
  intro g x small valid hits a
  have evaluate_eq {hits a} (d : g.Decides x 0 0xFFFF hits a) : g.evaluate x = { hits := hits, action := a } :=
    d.evalFrom_eq valid small g.count [] (Nat.le_add_left _ _)
  refine ⟨evaluate_eq, fun answered => ?_⟩
  obtain ⟨hits', a', d⟩ := valid.exists_decides (x := x) (mask := 0xFFFF) small g.count (Nat.le_add_left _ 0)
  obtain ⟨rfl, rfl⟩ := Verdict.mk.inj (answered.symm.trans (evaluate_eq d))
  exact d

end Sys2Proof.Machine
end

section
/-! Writing the staging program (R103 to R106, R109): each of the four requests makes its own change of the staging
program, and what a change leaves of the state is said once for all of them. -/

namespace Sys2Proof.Machine

/-! ### What the arguments of WRITE_PROBES, SET_DEFAULT and WRITE_CLAUSE name -/

namespace Request

variable {r : Request}

/-- R104: the four probes in the arguments of WRITE_PROBES. -/
def probesIn (r : Request) : Vector (Option U16) 4 := Vector.ofFn fun i => probeOf (r.word (2 * i))

/-- R104: the value 65,535 makes a probe absent. -/
theorem getElem_probesIn (r : Request) (i : Fin 4) : r.probesIn[i] =
    if r.word (2 * i) = 65535 then none else some (r.word (2 * i)) := by
  rw [probesIn, Fin.getElem_fin, Vector.getElem_ofFn, probeOf]

/-- R105: the default action DELIVER. -/
theorem defaultAction_deliver (good : r.ValuesGood .setDefault) (h : r.byte 0 = 1) {q : Fin 8}
    (hq : (r.byte 1).toNat = q.val) :
    r.defaultAction = some (.deliver q (decide (r.byte 2 = 1))) := by
  obtain ⟨_, queue, mark⟩ := good
  have named : r.queue 1 = some q := (dif_pos (Nat.lt_succ_of_le queue)).trans (congrArg some (Fin.ext hq))
  simp only [defaultAction, named, if_pos mark, if_pos h]
  rfl

/-- R105: the default action DISCARD; the queue number must be in range all the same. -/
theorem defaultAction_discard (good : r.ValuesGood .setDefault) (h : r.byte 0 = 3) :
    r.defaultAction = some .discard := by
  obtain ⟨_, queue, mark⟩ := good
  have named : r.queue 1 = some ⟨_, Nat.lt_succ_of_le queue⟩ := dif_pos (Nat.lt_succ_of_le queue)
  have other : r.byte 0 ≠ 1 := by rw [h]; decide
  simp only [defaultAction, named, if_pos mark, if_neg other, if_pos h]

section Clause
variable (good : r.ValuesGood .writeClause)
include good

/-- R103: a TEST with link AND. -/
theorem clause_testAnd (kind : r.byte 1 = 0) (link : r.byte 6 = 0) :
    r.clause = some (.testAnd (r.byte 2) (r.byte 3) (r.word 4)) := by
  refine (if_pos good).trans ?_
  rw [kind]
  exact if_pos link

/-- R103: a TEST with link END, which alone has an action. -/
theorem clause_testEnd (kind : r.byte 1 = 0) (link : r.byte 6 = 1) :
    r.clause = some (.testEnd (r.byte 2) (r.byte 3) (r.word 4) r.clauseAction) := by
  have notAnd : r.byte 6 ≠ 0 := by rw [link]; decide
  refine (if_pos good).trans ?_
  rw [kind]
  exact if_neg notAnd

/-- R103: a CARE, whose operand is its mask. -/
theorem clause_care (kind : r.byte 1 = 1) : r.clause = some (.care (r.word 4)) := by
  refine (if_pos good).trans ?_
  rw [kind]
  rfl

/-- R103: a GATE, which alone has a resume index. -/
theorem clause_gate (kind : r.byte 1 = 2) :
    r.clause = some (.gate (r.byte 2) (r.byte 3) (r.word 4) (r.word 11)) := by
  refine (if_pos good).trans ?_
  rw [kind]
  rfl

end Clause

/-- R103: the actions by their codes; each keeps the fields it uses. -/
theorem clauseAction_none (h : r.byte 7 = 0) : r.clauseAction = .none := by
  rw [clauseAction, h]
  rfl

theorem clauseAction_deliver (h : r.byte 7 = 1) : r.clauseAction = .deliver (r.byte 8) (decide (r.byte 10 = 1)) := by
  rw [clauseAction, h]
  rfl

theorem clauseAction_mirror (h : r.byte 7 = 2) :
    r.clauseAction = .mirror (r.byte 8) (r.byte 9) (decide (r.byte 10 = 1)) := by
  rw [clauseAction, h]
  rfl

theorem clauseAction_discard (h : r.byte 7 = 3) : r.clauseAction = .discard (decide (r.byte 10 = 1)) := by
  rw [clauseAction, h]
  rfl

end Request

namespace State

variable {s : State} {t : Fin 4} {r : Request} {g : Program} {z : U32}

/-! ### A change of the staging program -/

/-- R109: the session of tag `t` with staging program `g` and the idle timer started now. -/
def restaged (s : State) (t : Fin 4) (g : Program) : State :=
  s.withProgram { s.program with edit := .editing t g (s.events.timebase + 10000000) }

/-- R101, R109: the holder's change is made, and the idle timer starts again. -/
theorem writeStaging_of_editing (edit : s.program.edit = .editing t g z) (f : Program → Program) :
    s.writeStaging t f = (s.restaged t (f g)).reply .ok := by
  simp only [writeStaging, forHolder, edit, if_true]
  rfl

/-- R101, R109, R155: a request that changes the staging program is answered OK and leaves the rest as it is. -/
theorem take_of_writeStaging {k : RequestKind} {body : Execution} (h : s.Passes t k r)
    (edit : s.program.edit = .editing t g z) (f : Program → Program)
    (hb : body t r (s.withManagement (s.management.accepted t r))
      = (s.withManagement (s.management.accepted t r)).writeStaging t f) :
    s.take k body = (s.restaged t (f g)).answered t r .ok [] := by
  have wrote := writeStaging_of_editing (s := s.withManagement (s.management.accepted t r)) edit f
  rw [take_now h (hb.trans wrote) rfl]
  rfl

/-! ### The four requests -/

/-- R103. -/
theorem exec_writeClause_of_clause (h : s.Passes t .writeClause r) (edit : s.program.edit = .editing t g z) {c : Clause}
    (hc : r.clause = some c) : exec .writeClause s = .next ((s.restaged t
      { g with clauses := g.clauses.set (r.byte 0).toNat c (r.byte 0).isLt }).answered t r .ok []) :=
  congrArg Host.Outcome.next (take_of_writeStaging h edit
    (fun g => { g with clauses := g.clauses.set (r.byte 0).toNat c (r.byte 0).isLt })
    (by rw [writeClause, hc]))

/-- R104. -/
theorem exec_writeProbes (h : s.Passes t .writeProbes r) (edit : s.program.edit = .editing t g z) :
    exec .writeProbes s = .next ((s.restaged t { g with probes := r.probesIn }).answered t r .ok []) :=
  congrArg Host.Outcome.next (take_of_writeStaging h edit (fun g => { g with probes := r.probesIn }) rfl)

/-- R105. -/
theorem exec_setDefault_of_defaultAction (h : s.Passes t .setDefault r) (edit : s.program.edit = .editing t g z)
    {d : DefaultAction} (hd : r.defaultAction = some d) :
    exec .setDefault s = .next ((s.restaged t { g with default := d }).answered t r .ok []) :=
  congrArg Host.Outcome.next (take_of_writeStaging h edit (fun g => { g with default := d }) (by rw [setDefault, hd]))

/-- R106. -/
theorem exec_setCount (h : s.Passes t .setCount r) (edit : s.program.edit = .editing t g z)
    (good : r.ValuesGood .setCount) : exec .setCount s = .next ((s.restaged t
      { g with count := (r.word 0).toNat }).answered t r .ok []) :=
  congrArg Host.Outcome.next (take_of_writeStaging h edit
    (fun g => { g with count := (r.word 0).toNat }) (if_pos good))

end State

/-- Settles O20: the clause, the probes, the default action and the count that the arguments name, each put into the
staging program by the change that all four requests share. -/
theorem stagingProgramIsWritten : Obligations.StagingProgramIsWritten := by
  refine ⟨fun s t r g z h good edit => ?_, fun s t r g z edit => ⟨fun h => ?_, fun h good => ⟨fun discard => ?_,
    fun deliver q hq => ?_⟩, fun h good => State.exec_setCount h edit good⟩⟩
  · have testEnd {a : ClauseAction} (kind : r.byte 1 = 0) (link : r.byte 6 = 1)
        (action : r.clauseAction = a) :=
      State.exec_writeClause_of_clause h edit (action ▸ Request.clause_testEnd good kind link)
    refine ⟨fun kind link => ?_, fun kind link action => ?_, fun kind link action => ?_, fun kind link action => ?_,
      fun kind link action => ?_, fun kind => ?_, fun kind => ?_⟩
    · exact State.exec_writeClause_of_clause h edit (Request.clause_testAnd good kind link)
    · exact testEnd kind link (Request.clauseAction_none action)
    · exact testEnd kind link (Request.clauseAction_deliver action)
    · exact testEnd kind link (Request.clauseAction_mirror action)
    · exact testEnd kind link (Request.clauseAction_discard action)
    · exact State.exec_writeClause_of_clause h edit (Request.clause_care good kind)
    · exact State.exec_writeClause_of_clause h edit (Request.clause_gate good kind)
  · exact ⟨r.probesIn, State.exec_writeProbes h edit, r.getElem_probesIn⟩
  · exact State.exec_setDefault_of_defaultAction h edit (Request.defaultAction_discard good discard)
  · exact State.exec_setDefault_of_defaultAction h edit (Request.defaultAction_deliver good deliver hq)

end Sys2Proof.Machine
end

section
/-! The queue requests (R131 to R135): a request that names a queue is answered BAD_VALUE or acts on that one queue, and
what the block does for it is the same after the acceptance of the request as before. -/

namespace Sys2Proof.Machine

/-- R131: the queue number is in range. -/
theorem Request.queue_of_eq {r : Request} {i : Nat} {q : Fin 8} (h : (byteAt r.args i).toNat = q.val) :
    r.queue i = some q :=
  (dif_pos (h ▸ q.isLt)).trans (congrArg some (Fin.ext h))

/-- R131: the queue number is out of range. -/
theorem Request.queue_of_gt {r : Request} {i : Nat} (h : 7 < (byteAt r.args i).toNat) : r.queue i = none :=
  dif_neg (Nat.not_lt.2 h)

/-! ### The parts of a report -/

/-- R135: the code of a queue's state and of its halt reason, together. -/
def QueueState.codes : QueueState → List Byte
  | .running => [0, 0]
  | .halted .memory => [1, 1]
  | .halted .manager => [1, 2]

theorem QueueState.codes_eq (x : QueueState) : x.codes = [x.code, x.reasonCode] := by
  rcases x with _ | (_ | _) <;> rfl

/-- R135: what a report says of the head record: its message and whether it is a replay; zeros if there is none. -/
def headBytes : List Record → List Byte
  | [] => [0, 0, 0]
  | y :: _ => be16 y.messageId ++ [boolByte y.replay]

theorem headBytes_eq (l : List Record) :
    headBytes l = be16 ((l.head?.map Record.messageId).getD 0) ++ [boolByte (l.head?.any Record.replay)] := by
  cases l <;> rfl

/-- R136, R177: the bytes of a queue's counters, one counter after the other. -/
theorem QueueCounters.flatMap_list (c : QueueCounters) : c.list.flatMap be32 =
    be32 c.appended ++ be32 c.droppedFull ++ be32 c.delivered ++ be32 c.deliveredBytes ++ be32 c.memoryErrors
      ++ be32 c.flushed := by
  simp only [list, List.flatMap_cons, List.flatMap_nil, List.append_nil, List.append_assoc]

/-- R135: the report of a queue, part by part. -/
theorem State.queueBytes_eq (q : Fin 8) (s : State) : s.queueBytes q =
    let x := s.queue q
    [natByte q.val] ++ x.state.codes ++ [natByte x.records.length, x.credit, natByte s.params.weights[q]]
      ++ natBe16 s.params.blockLimits[q] ++ natBe16 x.charge ++ [boolByte x.inFlight] ++ headBytes x.records
      ++ [natByte s.delivery.current.val, natByte s.delivery.turns]
      ++ be32 x.counters.appended ++ be32 x.counters.droppedFull ++ be32 x.counters.delivered
      ++ be32 x.counters.deliveredBytes ++ be32 x.counters.memoryErrors ++ be32 x.counters.flushed := by
  simp only [queueBytes, QueueState.codes_eq, headBytes_eq, QueueCounters.flatMap_list, List.append_assoc,
    List.cons_append, List.nil_append]

/-! ### What a flush keeps and removes -/

theorem Queue.flushed_fst (x : Queue) : x.flushed.1 = if x.inFlight then x.records.take 1 else [] :=
  apply_ite Prod.fst _ _ _

theorem Queue.flushed_snd (x : Queue) : x.flushed.2 = if x.inFlight then x.records.drop 1 else x.records :=
  apply_ite Prod.snd _ _ _

namespace State

variable {s : State} {t : Fin 4} {r : Request} {q : Fin 8}

/-! ### One queue of the state -/

theorem queue_setQueue (q : Fin 8) (x : Queue) (s : State) : (s.setQueue q x).queue q = x :=
  Vector.getElem_set_self _

theorem setQueue_setQueue (q : Fin 8) (x y : Queue) (s : State) : (s.setQueue q x).setQueue q y = s.setQueue q y := by
  simp only [setQueue, withDelivery_withDelivery, withDelivery_delivery, Vector.set_set]

/-! ### A request that names a queue -/

theorem forQueue_of_eq (hq : (byteAt r.args 0).toNat = q.val) (f : Fin 8 → State → State × Reply) :
    s.forQueue r f = f q s := by
  rw [forQueue, Request.queue_of_eq hq]

theorem forQueue_of_gt (hb : 7 < (byteAt r.args 0).toNat) (f : Fin 8 → State → State × Reply) :
    s.forQueue r f = s.reply .badValue := by
  rw [forQueue, Request.queue_of_gt hb]

/-- R131: a queue number above 7 is answered BAD_VALUE, whatever the request does with a queue. -/
theorem take_forQueue_of_gt {k : RequestKind} (h : s.Passes t k r) (hb : 7 < (byteAt r.args 0).toNat)
    (f : Fin 8 → State → State × Reply) : s.take k (fun _ r u => u.forQueue r f) = s.answered t r .badValue [] :=
  take_of_reply h (forQueue_of_gt hb f)

/-- R155, R156: a request whose block goes to `u` and answers leads to `u` answered, if what the block does neither
reads nor writes the Management Unit. -/
theorem take_of_reply_withManagement {u : State} {k : RequestKind} {body : Execution} {st : Status} {data : List Byte}
    (h : s.Passes t k r)
    (hb : ∀ m, body t r (s.withManagement m) = (u.withManagement m).reply st data)
    (hu : u.management = s.management) : s.take k body = u.answered t r st data := by
  rw [take_now h (hb _) rfl, withManagement_withManagement, answered, hu]

/-- R132, R133: a request that puts `g` of the named queue in its place, and answers OK. -/
theorem take_forQueue_setQueue {k : RequestKind} (h : s.Passes t k r) (hq : (byteAt r.args 0).toNat = q.val)
    (g : Queue → Queue) :
    s.take k (fun _ r u => u.forQueue r fun q u => (u.setQueue q (g (u.queue q))).reply .ok)
      = (s.setQueue q (g (s.queue q))).answered t r .ok [] :=
  take_of_reply_withManagement h (fun _ => forQueue_of_eq hq _) rfl

/-! ### FLUSH_QUEUE -/

/-- R134: queue `q` after a flush. -/
def flushedQueue (q : Fin 8) (s : State) : Queue :=
  let x := s.queue q
  { x with
    records := x.flushed.1
    charge := x.charge - (x.flushed.2.map s.recordCharge).sum
    counters := { x.counters with flushed := satAdd x.counters.flushed x.flushed.2.length } }

/-- R134: the records leave the queue and are counted in one change of it, and then their references are dropped. -/
theorem flushQueue_of_eq (hq : (byteAt r.args 0).toNat = q.val) :
    State.flushQueue t r s = ((s.setQueue q (s.flushedQueue q)).dropReferences (s.queue q).flushed.2).reply .ok
      [natByte (s.queue q).flushed.2.length] := by
  simp only [flushQueue, forQueue_of_eq hq, keepRecords, queue_setQueue, setQueue_setQueue, flushedQueue]

/-- R134, R155: the step that answers FLUSH_QUEUE. -/
theorem exec_flushQueue (h : s.Passes t .flushQueue r) (hq : (byteAt r.args 0).toNat = q.val) :
    exec .flushQueue s = .next (((s.setQueue q (s.flushedQueue q)).dropReferences (s.queue q).flushed.2).answered t r
      .ok [natByte (s.queue q).flushed.2.length]) := by
  refine congrArg Host.Outcome.next (take_of_reply_withManagement h (fun m => ?_) (by simp))
  rw [flushQueue_of_eq hq, ← dropReferences_withManagement]
  rfl

end State

/-- Settles O23: READ_QUEUE replies with the bytes of the queue in each of its states; the other three each make one
change of the named queue, after which FLUSH_QUEUE drops the references. -/
theorem queuesAreReadHaltedRestartedAndFlushed : Obligations.QueuesAreReadHaltedRestartedAndFlushed := by
  refine ⟨fun s t r h => ⟨fun hb => congrArg Host.Outcome.next (State.take_forQueue_of_gt h hb _), fun q hq => ?_⟩,
    fun s t r k hk h => ⟨fun hb => ?_, fun q hq => ⟨?_, ?_, ?_⟩⟩⟩
  · refine congrArg Host.Outcome.next ((State.take_of_reply h (State.forQueue_of_eq hq _)).trans ?_)
    rw [State.queueBytes_eq]
    rfl
  · obtain rfl | rfl | rfl : k = .haltQueue ∨ k = .restartQueue ∨ k = .flushQueue := by simpa using hk
    all_goals exact congrArg Host.Outcome.next (State.take_forQueue_of_gt h hb _)
  · rintro rfl
    exact congrArg Host.Outcome.next (State.take_forQueue_setQueue h hq fun x => { x with state := .halted .manager })
  · rintro rfl
    exact congrArg Host.Outcome.next (State.take_forQueue_setQueue h hq fun x => { x with state := .running })
  · rintro rfl
    rw [State.exec_flushQueue h hq, State.flushedQueue, Queue.flushed_fst, Queue.flushed_snd]
    rfl

end Sys2Proof.Machine
end

section
/-! SEND_HOLD and SEND_RELEASE (R146, R147): what the Hold Controller does for each, case by case, and that it is the
same after the acceptance of the request as before. -/

namespace Sys2Proof.Machine

namespace State

variable {s : State} {t : Fin 4} {r : Request}

/-! ### The HOLD that a manager requests -/

/-- R146: in QUIET there is no refresh timer to restart. -/
theorem manualHold_of_quiet (quiet : s.hold.mode = .quiet) (d : U16) :
    s.manualHold d = s.transmit (.hold s.params.trunkAddress d) := by
  simp only [manualHold, quiet, requestHold]

/-- R146: in HOLDING the refresh timer is restarted, whatever its expiry was. -/
theorem manualHold_of_holding {z : U32} (holding : s.hold.mode = .holding z) (d : U16) :
    s.manualHold d = (s.withHold { s.hold with mode := .holding (s.refreshExpiry d) }).transmit
      (.hold s.params.trunkAddress d) := by
  simp only [manualHold, holding, requestHold, withHold_params]

theorem manualHold_withManagement (m : Management) (s : State) (d : U16) :
    (s.withManagement m).manualHold d = (s.manualHold d).withManagement m := by
  cases mode : s.hold.mode with
  | quiet => simp only [manualHold, withManagement_hold, mode, requestHold_withManagement]
  | holding z =>
    simp only [manualHold, withManagement_hold, mode, withHold_withManagement, requestHold_withManagement]
    rfl

theorem manualHold_management (d : U16) (s : State) : (s.manualHold d).management = s.management := by
  cases mode : s.hold.mode <;> simp [manualHold, mode]

/-! ### SEND_HOLD -/

/-- R146: a duration below 2 is BAD_VALUE, in every state of the trunk. -/
theorem sendHold_of_le (short : (r.word 0).toNat ≤ 1) : State.sendHold t r s = s.reply .badValue :=
  if_pos short

theorem sendHold_of_down (long : 1 < (r.word 0).toNat) (down : s.trunkRx.link = .down) :
    State.sendHold t r s = s.reply .linkDown := by
  simp only [sendHold, if_neg (Nat.not_le.2 long), down]

theorem sendHold_of_up (long : 1 < (r.word 0).toNat) (up : s.trunkRx.link = .up) :
    State.sendHold t r s = (s.manualHold (r.word 0)).reply .ok := by
  simp only [sendHold, if_neg (Nat.not_le.2 long), up]

/-- R146, R155: the step that answers a SEND_HOLD with OK. -/
theorem exec_sendHold_of_up (h : s.Passes t .sendHold r) (long : 1 < (r.word 0).toNat) (up : s.trunkRx.link = .up) :
    exec .sendHold s = .next ((s.manualHold (r.word 0)).answered t r .ok []) :=
  congrArg Host.Outcome.next (take_of_reply_withManagement h
    (fun m => (sendHold_of_up (s := s.withManagement m) long up).trans (by rw [manualHold_withManagement]))
    (manualHold_management _ s))

/-! ### SEND_RELEASE -/

/-- R147: HOLD_ACTIVE comes before LINK_DOWN. -/
theorem sendRelease_of_holding {z : U32} (holding : s.hold.mode = .holding z) :
    State.sendRelease t r s = s.reply .holdActive := by
  simp only [sendRelease, holding]

theorem sendRelease_of_down (quiet : s.hold.mode = .quiet) (down : s.trunkRx.link = .down) :
    State.sendRelease t r s = s.reply .linkDown := by
  simp only [sendRelease, quiet, down]

theorem sendRelease_of_up (quiet : s.hold.mode = .quiet) (up : s.trunkRx.link = .up) :
    State.sendRelease t r s = s.requestRelease.reply .ok := by
  simp only [sendRelease, quiet, up]

/-- R147, R155: the step that answers a SEND_RELEASE with OK. -/
theorem exec_sendRelease_of_up (h : s.Passes t .sendRelease r) (quiet : s.hold.mode = .quiet)
    (up : s.trunkRx.link = .up) : exec .sendRelease s = .next (s.requestRelease.answered t r .ok []) :=
  congrArg Host.Outcome.next (take_of_reply_withManagement h
    (fun m => (sendRelease_of_up (s := s.withManagement m) quiet up).trans (by rw [requestRelease_withManagement]))
    (by simp))

end State

/-- Settles O26: a request that fails only replies; the others make their one change of the Hold Controller and the
Trunk Transmitter, as the hold mode has it. -/
theorem holdAndReleaseAreSent : Obligations.HoldAndReleaseAreSent := by
  refine ⟨fun s t r h =>
      ⟨fun short => ?_, fun long down => ?_, fun long up quiet => ?_, fun long up z holding => ?_⟩,
    fun s t r h => ⟨fun z holding => ?_, fun quiet up => ?_, fun quiet down => ?_⟩⟩
  · exact congrArg Host.Outcome.next (State.take_of_reply h (State.sendHold_of_le short))
  · exact congrArg Host.Outcome.next (State.take_of_reply h (State.sendHold_of_down long down))
  · rw [State.exec_sendHold_of_up h long up, State.manualHold_of_quiet quiet]
  · rw [State.exec_sendHold_of_up h long up, State.manualHold_of_holding holding]
    rfl
  · exact congrArg Host.Outcome.next (State.take_of_reply h (State.sendRelease_of_holding holding))
  · exact State.exec_sendRelease_of_up h quiet up
  · exact congrArg Host.Outcome.next (State.take_of_reply h (State.sendRelease_of_down quiet down))

end Sys2Proof.Machine
end

section
/-! The takes that execute nothing (R157, R158, step 3 of R156) and SET_RIGHTS (R164): which take a waiting request is,
what each such take does, and that a change of rights and the acceptance of a request do not disturb each other. -/

namespace Sys2Proof.Machine

/-! ### The catalogue and the request kinds -/

/-- Section 9.5: the catalogue gives the codes of the request kinds and no others. -/
theorem map_code_catalogue : catalogue.map CatalogueRow.code = RequestKind.all.map RequestKind.code := rfl

/-- R156 step 3: a code that is not in the catalogue names no request kind. -/
theorem requestKind_eq_none {b : Byte} (unknown : ∀ x ∈ catalogue, x.code ≠ b) : requestKind b = none := by
  refine List.find?_eq_none.2 fun k hk hb => ?_
  have listed : k.code ∈ catalogue.map CatalogueRow.code := map_code_catalogue ▸ List.mem_map_of_mem hk
  obtain ⟨x, hx, hc⟩ := List.mem_map.1 listed
  exact unknown x hx (hc.trans (eq_of_beq hb))

/-- R156 step 1: a tag above 3 names no session. -/
theorem sessionTag_of_gt {b : Byte} (above : 4 ≤ b.toNat) : sessionTag b = none :=
  dif_neg (Nat.not_lt.2 above)

namespace State

variable {s : State} {t u : Fin 4} {r : Request}

/-! ### Which take a waiting request is -/

/-- R156 step 1. -/
theorem Waits.nextTake_badTag (h : s.Waits r) (above : 4 ≤ r.tag.toNat) : s.nextTake = .badTag r := by
  rw [h.nextTake, classify, sessionTag_of_gt above]

/-- R156 step 2. -/
theorem Waits.nextTake_retry (h : s.Waits r) (tag : r.tag.toNat = t.val)
    (last : s.management.sessions[t].lastSequence = some r.sequence) : s.nextTake = .retry t r := by
  rw [h.nextTake, classify, sessionTag_of_tag tag]
  exact if_pos last

/-- R156 step 3. -/
theorem Waits.nextTake_badKind (h : s.Waits r) (tag : r.tag.toNat = t.val)
    (fresh : s.management.sessions[t].lastSequence ≠ some r.sequence) (unknown : ∀ x ∈ catalogue, x.code ≠ r.kind) :
    s.nextTake = .badKind t r := by
  simp only [h.nextTake, classify, sessionTag_of_tag tag, session, if_neg fresh, requestKind_eq_none unknown]

/-! ### BAD_TAG, RETRY_MATCH and BAD_KIND -/

/-- R155, R157, R158: the head request leaves the FIFO and response `x` joins the queue; no session entry changes. -/
theorem popRequest_queueResponse (x : Response) (s : State) : s.popRequest.queueResponse x =
    s.withManagement { s.management with
      fifo := s.management.fifo.tail, responses := s.management.responses ++ [x] } := rfl

/-- R157. -/
theorem badTag_of_nextTake (h : s.nextTake = .badTag r) : s.badTag = s.popRequest.queueResponse
    { tag := r.tag, sequence := r.sequence, kind := r.kind, status := .badTag, data := [] } := by
  simp only [badTag, h]

/-- R158. -/
theorem retryMatch_of_nextTake (h : s.nextTake = .retry t r) : s.retryMatch = s.answerRetry t r := by
  simp only [retryMatch, h]

/-- R156 step 3, R159. -/
theorem badKind_of_nextTake (h : s.nextTake = .badKind t r) :
    s.badKind = (s.acceptRequest t r).respond t r.sequence r.kind .badKind [] := by
  simp only [badKind, h]

/-- R158: a retry of a request in progress is dropped. -/
theorem answerRetry_of_inProgress (progress : s.management.sessions[t].inProgress = true) :
    s.answerRetry t r = s.popRequest :=
  if_pos progress

/-- R158: any other retry is answered with what the cache holds. -/
theorem answerRetry_of_cached {c : CachedResponse} (done : s.management.sessions[t].inProgress = false)
    (cached : s.management.sessions[t].cached = some c) : s.answerRetry t r = s.popRequest.resend t r c := by
  simp only [answerRetry, session, done, cached, Bool.false_eq_true, if_false]

/-- R158: a response kept whole is placed again, under the tag and the sequence number of the retry. -/
theorem resend_whole (tag : r.tag.toNat = t.val) (kind : Byte) (st : Status) (data : List Byte) (s : State) :
    s.resend t r (.whole kind st data) = s.queueResponse
      { tag := r.tag, sequence := r.sequence, kind := kind, status := st, data := data } := by
  rw [resend, natByte_tag tag]

/-- R158: a response too long to keep is answered by its status alone. -/
theorem resend_resendRefused (tag : r.tag.toNat = t.val) (kind : Byte) (st : Status) (s : State) :
    s.resend t r (.resendRefused kind st) = s.queueResponse
      { tag := r.tag, sequence := r.sequence, kind := kind, status := .retryTooLong, data := [st.code] } := by
  rw [resend, natByte_tag tag]

/-- R159: a request that is accepted and answered in one step leaves the state answered. -/
theorem acceptRequest_respond (tag : r.tag.toNat = t.val) (st : Status) (data : List Byte) :
    (s.acceptRequest t r).respond t r.sequence r.kind st data = s.answered t r st data := by
  rw [respond_accepted tag (acceptRequest_management t r s), acceptRequest_eq, withManagement_withManagement, answered]

end State

/-- Settles O8: each clause is one of the three takes; a retry has the three outcomes of its tag's session entry. -/
theorem badTagsRetriesAndUnknownKindsAreAnswered : Obligations.BadTagsRetriesAndUnknownKindsAreAnswered := by
  refine ⟨fun s r h above => ?_, fun s t r h tag last => ?_, fun s t r h tag fresh unknown => ?_⟩
  · refine congrArg Host.Outcome.next ?_
    rw [State.badTag_of_nextTake (h.nextTake_badTag above), State.popRequest_queueResponse]
  · have retry := State.retryMatch_of_nextTake (h.nextTake_retry tag last)
    refine ⟨fun progress => ?_, fun done kind st data cached => ?_, fun done kind st cached => ?_⟩ <;>
      refine congrArg Host.Outcome.next (retry.trans ?_)
    · exact State.answerRetry_of_inProgress progress
    · rw [State.answerRetry_of_cached done cached, State.resend_whole tag, State.popRequest_queueResponse]
    · rw [State.answerRetry_of_cached done cached, State.resend_resendRefused tag, State.popRequest_queueResponse]
  · refine congrArg Host.Outcome.next ?_
    rw [State.badKind_of_nextTake (h.nextTake_badKind tag fresh unknown), State.acceptRequest_respond tag]

/-! ### SET_RIGHTS -/

/-- R164: the session entry of tag `u` holds the rights `x`. -/
def Management.withRights (m : Management) (u : Fin 4) (x : Rights) : Management :=
  { m with sessions := m.sessions.set u { m.sessions[u] with rights := x } }

/-- R159, R164: the acceptance of a request writes no rights, and a change of rights writes nothing else of an entry, so
they commute even when the tag of the request is the target. -/
theorem Management.withRights_accepted (m : Management) (t u : Fin 4) (x : Rights) (r : Request) :
    (m.accepted t r).withRights u x = (m.withRights u x).accepted t r := by
  by_cases same : t = u
  · subst same
    simp [withRights, accepted]
  · have ht : t.val ≠ u.val := fun h => same (Fin.ext h)
    simp [withRights, accepted, Vector.getElem_set_ne, ht, ht.symm, Vector.set_comm _ _ ht]

namespace State

variable {s : State} {t u : Fin 4} {r : Request}

/-- R164: the rights value is the sum of 1 for READ, 2 for EDIT and 4 for CONTROL. -/
theorem rightsOf_eq (v : Byte) : rightsOf v =
    { read := v.toNat % 2 = 1, edit := v.toNat / 2 % 2 = 1, control := v.toNat / 4 % 2 = 1, supervisor := false } := by
  simp [rightsOf, BitVec.getLsbD, Nat.testBit_eq_decide_div_mod_eq]

/-- R164: the rights of the target are replaced. -/
theorem setRights_of_target (target : (byteAt r.args 0).toNat = u.val) (notZero : u ≠ 0)
    (value : (byteAt r.args 1).toNat ≤ 7) : State.setRights t r s =
      (s.withManagement (s.management.withRights u (rightsOf (byteAt r.args 1)))).reply .ok := by
  simp only [setRights, sessionTag_of_tag target]
  exact if_pos ⟨notZero, value⟩

/-- R164: another target, or a value above 7, only replies. -/
theorem setRights_of_bad (bad : (byteAt r.args 0).toNat = 0 ∨ 3 < (byteAt r.args 0).toNat ∨
    7 < (byteAt r.args 1).toNat) : State.setRights t r s = s.reply .badValue := by
  by_cases above : 4 ≤ (byteAt r.args 0).toNat
  · simp only [setRights, sessionTag_of_gt above]
  · have target : (byteAt r.args 0).toNat = (⟨(byteAt r.args 0).toNat, Nat.not_le.1 above⟩ : Fin 4).val := rfl
    simp only [setRights, sessionTag_of_tag target]
    refine if_neg fun ⟨notZero, value⟩ => ?_
    obtain zero | tag | big := bad
    · exact notZero (Fin.ext zero)
    · exact above tag
    · exact Nat.not_lt.2 value big

/-- R155, R156: a request whose block replies after a change `m` of the Management Unit that the acceptance of the
request does not disturb. -/
theorem take_of_reply_management {k : RequestKind} {body : Execution} {m : Management} {st : Status} {data : List Byte}
    (h : s.Passes t k r)
    (hb : body t r (s.withManagement (s.management.accepted t r)) = (s.withManagement (m.accepted t r)).reply st data) :
    s.take k body = (s.withManagement m).answered t r st data := by
  rw [State.take, takeRequest_of_passes h rfl, acceptRequest_eq, hb]
  exact acceptRequest_respond (s := s.withManagement m) h.due.tag st data

/-- R155, R164: the step that answers a SET_RIGHTS with OK. -/
theorem exec_setRights_of_target (h : s.Passes t .setRights r) (target : (byteAt r.args 0).toNat = u.val)
    (notZero : u ≠ 0) (value : (byteAt r.args 1).toNat ≤ 7) : exec .setRights s = .next
      ((s.withManagement (s.management.withRights u (rightsOf (byteAt r.args 1)))).answered t r .ok []) := by
  refine congrArg Host.Outcome.next (take_of_reply_management h ?_)
  rw [setRights_of_target target notZero value, withManagement_management, Management.withRights_accepted,
    withManagement_withManagement]

end State

/-- Settles O11: the rights are replaced in the step of the take, and a request that fails only replies. -/
theorem setRightsReplacesTheRights : Obligations.SetRightsReplacesTheRights := by
  refine fun s t r h => ⟨fun u notZero target value => ?_, fun bad => ?_⟩
  · rw [State.exec_setRights_of_target h target notZero value, State.rightsOf_eq, Management.withRights]
  · exact congrArg Host.Outcome.next (State.take_of_reply h (State.setRights_of_bad bad))

end Sys2Proof.Machine
end

section
/-! One step at a time: the state that a command leaves, the command's reach block by block, and the frame of a taken
request, from which every invariant of the later sections starts. -/

namespace Sys2Proof.Machine

/-! ### The state that a command leaves -/

/-- The state after command `c`, which always answers a next state (`exec_eq`). -/
def State.after (c : Instr) (s : State) : State :=
  match exec c s with
  | .next t => t
  | .fault _ => s
  | .refused _ => s

theorem exec_eq (c : Instr) (s : State) : exec c s = .next (s.after c) := by
  cases c <;> rfl

theorem eq_after {c : Instr} {s t : State} (h : exec c s = .next t) : t = s.after c := by
  rw [exec_eq] at h
  exact (Host.Outcome.next.inj h).symm

/-- What a step can be: the part by itself on an empty queue, or the front command on the queue's rest. -/
theorem step_cases {s t : State} (h : step s = .next t) :
    (s.pending = [] ∧ t = s.idle) ∨ ∃ c rest, s.pending = c :: rest ∧ t = (s.withPending rest).after c := by
  unfold step at h
  split at h
  · next hp => exact .inl ⟨hp, (Host.Outcome.next.inj h).symm⟩
  · next c rest hp => exact .inr ⟨c, rest, hp, eq_after h⟩

/-- Settles O1: the definition of the step, read at a queue with a front. -/
theorem stepRunsTheFrontCommand : Obligations.StepRunsTheFrontCommand := by
  intro c rest s h
  rw [step, h]

/-! ### The frame of a taken request -/

namespace State

theorem cacheResponse_eq_withManagement (t : Fin 4) (q : U16) (c : CachedResponse) (s : State) :
    ∃ m, s.cacheResponse t q c = s.withManagement m ∧ m.fifo = s.management.fifo := by
  unfold cacheResponse
  split
  · exact ⟨_, rfl, rfl⟩
  · exact ⟨s.management, rfl, rfl⟩

theorem respond_eq_withManagement (t : Fin 4) (q : U16) (k : Byte) (st : Status) (d : List Byte) (s : State) :
    ∃ m, s.respond t q k st d = s.withManagement m ∧ m.fifo = s.management.fifo := by
  obtain ⟨m, h, hf⟩ := cacheResponse_eq_withManagement t q (cacheEntry k st d)
    (s.queueResponse { tag := natByte t.val, sequence := q, kind := k, status := st, data := d })
  exact ⟨m, h.trans (withManagement_withManagement ..), hf⟩

/-- A relation that a change of the Management Unit keeps, and the block's own part of a request too, holds between the
states before and after the take. -/
theorem takeRequest_rel {R : State → State → Prop} (refl : ∀ s, R s s) (trans : ∀ {s u v}, R s u → R u v → R s v)
    (manage : ∀ s m, R s (s.withManagement m)) {body : Execution} (own : ∀ t r s, R s (body t r s).1)
    (k : RequestKind) (applies : Request → Bool) (s : State) : R s (s.takeRequest k applies body) := by
  have answered : ∀ u v t q kind st data, R u v → R u (v.respond t q kind st data) := by
    intro u v t q kind st data h
    obtain ⟨m, hm, -⟩ := respond_eq_withManagement t q kind st data v
    exact hm ▸ trans h (manage v m)
  have accepted : ∀ t r, R s (s.acceptRequest t r) := fun t r => acceptRequest_eq t r s ▸ manage s _
  have carried : ∀ t r u rep, body t r (s.acceptRequest t r) = (u, rep) → R s u := fun t r u rep hb =>
    trans (accepted t r) (by simpa only [hb] using own t r (s.acceptRequest t r))
  rcases takeRequest_cases k applies body s with
    h | ⟨t, r, -, ⟨st, h⟩ | ⟨u, st, data, hb, h⟩ | ⟨u, hb, h⟩⟩ <;> rw [h]
  · exact refl s
  · exact answered s _ t _ _ _ _ (accepted t r)
  · exact answered s u t _ _ _ _ (carried t r u _ hb)
  · exact carried t r u _ hb

end State

theorem Block.same_refl (b : Block) (s : State) : b.same s s := by
  cases b <;> rfl

theorem Block.same_trans {b : Block} {s t u : State} (h : b.same s t) (h' : b.same t u) : b.same s u := by
  cases b <;> exact Eq.trans h' h

theorem Block.same_withManagement {b : Block} (hb : b ≠ .managementUnit) (s : State) (m : Management) :
    b.same s (s.withManagement m) := by
  cases b with
  | managementUnit => exact absurd rfl hb
  | _ => rfl

/-- A taken request changes the Management Unit and what its block changes. -/
theorem Block.same_takeRequest {b : Block} (hb : b ≠ .managementUnit) {body : Execution}
    (own : ∀ t r s, b.same s (body t r s).1) (k : RequestKind) (applies : Request → Bool) (s : State) :
    b.same s (s.takeRequest k applies body) :=
  State.takeRequest_rel b.same_refl Block.same_trans (Block.same_withManagement hb) own k applies s

/-! ### Inbound units -/

/-- R183: what a unit with the outcome `x` of the four checks does. -/
def State.takeInbound (x : Inbound) (s : State) : State :=
  match x with
  | .error d => s.frameError d
  | .request r => s.arriveRequest r
  | .credit q n => s.arriveCredit q n

/-- R181, R183: a unit whose reception began and ended in UP has the effect of its outcome; no other is received. -/
theorem State.receiveUplinkUnit_eq (u : LaneUnit) (s : State) : s.receiveUplinkUnit u =
    if s.uplink.link = .up ∧ u.begunInUp = true then s.takeInbound (checkInbound u) else s := by
  unfold receiveUplinkUnit
  split
  · next h => exact (if_neg (by simp [h])).symm
  · next h => exact (if_neg (by simp [h])).symm
  · next h => exact (if_neg (by simp [h])).symm
  · next hl hb => exact (if_pos ⟨hl, hb⟩).symm

theorem Block.same_receiveUplinkUnit {b : Block} {u : LaneUnit} {s : State}
    (h : b.same s (s.takeInbound (checkInbound u))) : b.same s (s.receiveUplinkUnit u) := by
  rw [State.receiveUplinkUnit_eq]
  split
  · exact h
  · exact b.same_refl s

theorem checkInbound_of_requestFrame {u : LaneUnit} (h : (Instr.requestFrame u).wellFormed = true) :
    ∃ r, checkInbound u = .request r := by
  cases hu : checkInbound u with
  | request r => exact ⟨r, rfl⟩
  | credit q n => simp [Instr.wellFormed, hu] at h
  | error d => simp [Instr.wellFormed, hu] at h

theorem checkInbound_of_creditFrame {u : LaneUnit} (h : (Instr.creditFrame u).wellFormed = true) :
    ∃ q n, checkInbound u = .credit q n := by
  cases hu : checkInbound u with
  | credit q n => exact ⟨q, n, rfl⟩
  | request r => simp [Instr.wellFormed, hu] at h
  | error d => simp [Instr.wellFormed, hu] at h

theorem checkInbound_of_uplinkFrameError {u : LaneUnit} (h : (Instr.uplinkFrameError u).wellFormed = true) :
    ∃ d, checkInbound u = .error d := by
  cases hu : checkInbound u with
  | error d => exact ⟨d, rfl⟩
  | request r => simp [Instr.wellFormed, hu] at h
  | credit q n => simp [Instr.wellFormed, hu] at h

/-! ### What every command leaves alone -/

/-- A command changes no block outside its reach: the rows of requests by the frame of a taken request, the rows of
inbound units by their outcome, the others by the frames of their meanings. -/
theorem Block.same_after {c : Instr} {b : Block} {s : State} (hc : c.wellFormed = true) (h : b ∉ c.reach) :
    b.same s (s.after c) := by
  cases c with
  | requestFrame u =>
    obtain ⟨r, hr⟩ := checkInbound_of_requestFrame hc
    refine Block.same_receiveUplinkUnit ?_
    cases b <;> simp [hr, State.takeInbound, Instr.reach, Block.same] at h ⊢
  | creditFrame u =>
    obtain ⟨q, n, hr⟩ := checkInbound_of_creditFrame hc
    refine Block.same_receiveUplinkUnit ?_
    cases b <;> simp [hr, State.takeInbound, Instr.reach, Block.same] at h ⊢
  | uplinkFrameError u =>
    obtain ⟨d, hr⟩ := checkInbound_of_uplinkFrameError hc
    refine Block.same_receiveUplinkUnit ?_
    cases b <;> simp [hr, State.takeInbound, Instr.reach, Block.same] at h ⊢
  | getStatus | getParam | setParam | setRights | softRestart | readStation | listStations | pinStation | unpinStation
  | removeStation | flushLearned | readContext | readPool | readClauseActive | readClauseStaging | readHits | openEdit
  | writeClause | writeProbes | setDefault | setCount | commit | abortEdit | readQueue | haltQueue | restartQueue
  | flushQueue | sendHold | sendRelease | readCounters | clearCounters | setEvents | flushEvents =>
    refine Block.same_takeRequest (fun e => h (by simp [Instr.reach, e])) (fun t r u => ?_) _ _ _
    cases b <;> simp [Instr.reach, Block.hold, Block.same] at h ⊢
  | _ =>
    cases b <;> simp [Instr.reach, Block.hold, Block.cell, Block.all, Block.uplinkLoss, Block.same, State.after, exec,
      execTrunkUp, execTrunkLoss, execReceivedCell, execDataOnly, execDataFirst, execDataMiddle, execDataLast,
      execCellTransmissionEnd, execGapTimerExpiry, execAgingTick, execClassifierTake, execClassificationEnd, execSwap,
      execIdleTimerExpiry, execRefreshTimerExpiry, execCoalescingTimerExpiry, execUplinkSignal, execTrainingComplete,
      execTrainingFailure, execLossOfSignal, execResponseFrameStart, execResponseFrameEnd, execEventFrameStart,
      execEventFrameEnd, execDeliveryFrameStart, execDeliveryFrameEnd, execDeliveryMemoryError, execRemovalWork,
      execBadTag, execRetryMatch, execBadKind] at h ⊢

/-- Settles O4: the reach of each row covers every block that its meaning writes. -/
theorem commandsChangeOnlyTheirBlocks : Obligations.CommandsChangeOnlyTheirBlocks := by
  intro c s t hc ht b hb
  rw [eq_after ht]
  exact Block.same_after hc hb

@[simp] theorem State.receiveUplinkUnit_pending (u : LaneUnit) (s : State) :
    (s.receiveUplinkUnit u).pending = s.pending := by
  rw [receiveUplinkUnit_eq]
  split
  · cases checkInbound u <;> simp [takeInbound]
  · rfl

/-- R156: a taken request leaves the queue of commands as it is if its block does. -/
theorem State.takeRequest_pending {body : Execution} (own : ∀ t r s, (body t r s).1.pending = s.pending)
    (k : RequestKind) (applies : Request → Bool) (s : State) :
    (s.takeRequest k applies body).pending = s.pending :=
  takeRequest_rel (R := fun s u => u.pending = s.pending) (fun _ => rfl) (fun h h' => h'.trans h) (fun _ _ => rfl) own
    k applies s

theorem State.after_pending (c : Instr) (s : State) : (s.after c).pending = s.pending := by
  cases c with
  | getStatus | getParam | setParam | setRights | softRestart | readStation | listStations | pinStation | unpinStation
  | removeStation | flushLearned | readContext | readPool | readClauseActive | readClauseStaging | readHits | openEdit
  | writeClause | writeProbes | setDefault | setCount | commit | abortEdit | readQueue | haltQueue | restartQueue
  | flushQueue | sendHold | sendRelease | readCounters | clearCounters | setEvents | flushEvents =>
    exact takeRequest_pending (fun t r u => by simp) _ _ s
  | powerOn => rfl
  | _ =>
    simp [State.after, exec, execTrunkUp, execTrunkLoss, execReceivedCell, execDataOnly, execDataFirst, execDataMiddle,
      execDataLast, execCellTransmissionEnd, execGapTimerExpiry, execAgingTick, execClassifierTake,
      execClassificationEnd, execSwap, execIdleTimerExpiry, execRefreshTimerExpiry, execCoalescingTimerExpiry,
      execUplinkSignal, execTrainingComplete, execTrainingFailure, execLossOfSignal, execRequestFrame, execCreditFrame,
      execUplinkFrameError, execResponseFrameStart, execResponseFrameEnd, execEventFrameStart, execEventFrameEnd,
      execDeliveryFrameStart, execDeliveryFrameEnd, execDeliveryMemoryError, execRemovalWork, execBadTag,
      execRetryMatch, execBadKind]

/-- Settles O3: every meaning is one next state, and no meaning touches the queue of commands. -/
theorem everyCommandAnswersANextState : Obligations.EveryCommandAnswersANextState :=
  fun c s => ⟨s.after c, exec_eq c s, State.after_pending c s⟩

/-! ### The step of an invariant -/

/-- The blocks that a row may change whatever unit it carries: those of all three outcomes for an inbound unit. -/
def reachOfAny (c : Instr) : List Block :=
  match c with
  | .requestFrame _ => [.managementUnit, .deliveryUnit, .uplinkPort, .eventUnit]
  | .creditFrame _ => [.managementUnit, .deliveryUnit, .uplinkPort, .eventUnit]
  | .uplinkFrameError _ => [.managementUnit, .deliveryUnit, .uplinkPort, .eventUnit]
  | c => c.reach

theorem Block.same_takeInbound {b : Block} (h : b ∉ [.managementUnit, .deliveryUnit, .uplinkPort, .eventUnit])
    (x : Inbound) (s : State) : b.same s (s.takeInbound x) := by
  cases b <;> cases x <;> simp [State.takeInbound, Block.same] at h ⊢

theorem Block.same_after_of_any {c : Instr} {b : Block} (h : b ∉ reachOfAny c) (s : State) : b.same s (s.after c) := by
  cases c with
  | requestFrame u => exact Block.same_receiveUplinkUnit (Block.same_takeInbound h _ s)
  | creditFrame u => exact Block.same_receiveUplinkUnit (Block.same_takeInbound h _ s)
  | uplinkFrameError u => exact Block.same_receiveUplinkUnit (Block.same_takeInbound h _ s)
  | _ => exact Block.same_after rfl h

/-- An invariant that reads only the blocks `B` is kept by every command that reaches none of them. -/
theorem State.keeps_after {P : State → Prop} (B : List Block)
    (reads : ∀ s t : State, (∀ b ∈ B, b.same s t) → P s → P t) {c : Instr} {s : State}
    (apart : ∀ b ∈ B, b ∉ reachOfAny c) (h : P s) : P (s.after c) :=
  reads s _ (fun _ hb => Block.same_after_of_any (apart _ hb) s) h

/-- An invariant that does not read the queue of commands is kept by every step if time and every command keep it. -/
theorem step_keeps {P : State → Prop} (pending : ∀ (s : State) l, P s → P (s.withPending l))
    (time : ∀ s : State, P s → P s.advance) (command : ∀ (c : Instr) (s : State), P s → P (s.after c)) {s t : State}
    (hs : P s) (h : step s = .next t) : P t := by
  rcases step_cases h with ⟨-, rfl⟩ | ⟨c, rest, -, rfl⟩
  · unfold State.idle
    split
    · exact pending s _ hs
    · exact pending _ _ (time s hs)
  · exact command c _ (pending s rest hs)

end Sys2Proof.Machine
end

section
/-! The canonical form of the Block Pool (log 31) along every step: what each operation makes of the pool, and that the
pool's own updates keep the form. -/

namespace Sys2Proof.Machine

namespace State

/-! ### What the operations make of the pool -/

@[simp] theorem releaseChain_pool (c : Chain) (s : State) : (s.releaseChain c).pool = s.pool.release c := by
  simp [releaseChain]

@[simp] theorem adoptChain_pool (c : Chain) (n : Nat) (s : State) : (s.adoptChain c n).pool =
    s.pool.setChainEntry c.head { tail := c.tail, count := c.count, refs := n } := rfl

@[simp] theorem disposeChain_pool (c : Chain) (n : Nat) (s : State) : (s.disposeChain c n).pool = if n = 0 then
    s.pool.release c else s.pool.setChainEntry c.head { tail := c.tail, count := c.count, refs := n } := by
  unfold disposeChain
  split <;> simp

@[simp] theorem dropReference_pool (h : Nat) (s : State) : (s.dropReference h).pool =
    if 2 ≤ (s.pool.chainEntry h).refs then
      s.pool.setChainEntry h { s.pool.chainEntry h with refs := (s.pool.chainEntry h).refs - 1 }
    else (s.pool.setChainEntry h .absent).release (s.pool.chainOf h) := by
  by_cases named : 2 ≤ (s.pool.chainEntry h).refs <;> simp [dropReference, named]

@[simp] theorem storedPool_pool (p : BlockPool) (s : State) : (s.storedPool p).pool = p := by
  unfold storedPool
  split <;> simp

@[simp] theorem abortToFree_pool (i : Fin 48) (m : Message) (r : AbortReason) (s : State) :
    (s.abortToFree i m r).pool = s.pool.release m.chain := by
  simp [abortToFree]

@[simp] theorem abortToDiscarding_pool (i : Fin 48) (m : Message) (r : AbortReason) (s : State) :
    (s.abortToDiscarding i m r).pool = s.pool.release m.chain := by
  simp [abortToDiscarding]

@[simp] theorem abortAtCell_pool (last : Bool) (i : Fin 48) (m : Message) (r : AbortReason) (s : State) :
    (s.abortAtCell last i m r).pool = s.pool.release m.chain := by
  cases last <;> simp [abortAtCell]

/-! ### The operations keep the form -/

theorem canonical_dropReference {s : State} (hs : s.pool.Canonical) (h : Nat) : (s.dropReference h).pool.Canonical := by
  rw [dropReference_pool]
  split
  · exact hs.setChainEntry h _
  · exact (hs.setChainEntry h _).release _

theorem canonical_dropReferences {s : State} (hs : s.pool.Canonical) (l : List Record) :
    (s.dropReferences l).pool.Canonical := by
  induction l generalizing s with
  | nil => exact hs
  | cons r l ih => exact ih (canonical_dropReference hs r.chain)

theorem canonical_endContext {s : State} (hs : s.pool.Canonical) (r : AbortReason) (i : Fin 48) :
    (s.endContext r i).pool.Canonical := by
  unfold endContext
  split
  · simpa using hs.release _
  · simpa using hs
  · exact hs
  · exact hs

theorem canonical_endContexts {s : State} (hs : s.pool.Canonical) (r : AbortReason) (l : List (Fin 48)) :
    (s.endContexts r l).pool.Canonical := by
  induction l generalizing s with
  | nil => exact hs
  | cons i l ih => exact ih (canonical_endContext hs r i)

theorem canonical_endKeyContext {s : State} (hs : s.pool.Canonical) (a : Addr) (ch : Chan) :
    (s.endKeyContext a ch).pool.Canonical := by
  unfold endKeyContext
  split
  · exact hs
  · exact canonical_endContext hs _ _

theorem canonical_startMessage {s : State} (hs : s.pool.Canonical) (c : AdmittedCell) (whole : Bool) :
    (s.startMessage c whole).pool.Canonical := by
  unfold startMessage
  split
  · simpa [refuseNoContext] using hs
  · split
    · simpa [refuseNoBuffer] using hs
    · next hst => cases whole <;> simpa using hs.store hst

theorem canonical_continueMessage {s : State} (hs : s.pool.Canonical) (last : Bool) (c : AdmittedCell) :
    (s.continueMessage last c).pool.Canonical := by
  unfold continueMessage
  split
  · simpa using hs
  · split
    · unfold continueOpen
      split
      · split
        · simpa using hs.release _
        · split
          · simpa using hs.release _
          · next hst => simpa using hs.store hst
      · split
        · simpa using hs
        · simpa using hs.release _
    · simpa using hs
    · exact hs
    · exact hs

theorem canonical_takeCell {s : State} {k : DataKind} {act : AdmittedCell → State → State}
    (keeps : ∀ c u, u.pool.Canonical → (act c u).pool.Canonical) (hs : s.pool.Canonical) :
    (s.takeCell k act).pool.Canonical := by
  unfold takeCell
  split
  · split
    · exact keeps _ _ hs
    · exact hs
  · exact hs
  · exact hs

theorem canonical_gapTimerExpiry {s : State} (hs : s.pool.Canonical) (i : Fin 48) :
    (s.gapTimerExpiry i).pool.Canonical := by
  unfold gapTimerExpiry
  split
  · split
    · simpa using hs.release _
    · exact hs
  · split
    · simpa using hs
    · exact hs
  · exact hs
  · exact hs

theorem canonical_classificationEnd {s : State} (hs : s.pool.Canonical) : s.classificationEnd.pool.Canonical := by
  unfold classificationEnd
  split
  · exact hs
  · split
    · split
      · simp only [endEvaluated, idleClassifier_frame, countClassified_frame, setBody_frame, disposeChain_pool]
        split
        · simpa using hs.release _
        · simpa using hs.setChainEntry _ _
      · simpa [endDamaged] using hs.release _
    · exact hs
    · exact hs
    · exact hs

theorem canonical_removeHead {s : State} (hs : s.pool.Canonical) (q : Fin 8) : (s.removeHead q).pool.Canonical := by
  unfold removeHead
  split
  · exact hs
  · exact canonical_dropReferences (by simpa using hs) _

theorem canonical_deliveryFrameEnd {s : State} (hs : s.pool.Canonical) : s.deliveryFrameEnd.pool.Canonical := by
  unfold deliveryFrameEnd
  split
  · split
    · simp only [endStreamed]
      split
      · exact hs
      · simpa using canonical_removeHead (by simpa using hs) _
    · simpa using hs
  · exact hs
  · exact hs
  · exact hs

theorem canonical_deliveryMemoryError {s : State} (hs : s.pool.Canonical) : s.deliveryMemoryError.pool.Canonical := by
  unfold deliveryMemoryError
  split
  · split
    · split
      · simpa [haltOnDamage] using canonical_removeHead (by simpa using hs) _
      · exact hs
    · exact hs
  · exact hs
  · exact hs
  · exact hs

theorem canonical_removalWork {s : State} (hs : s.pool.Canonical) : s.removalWork.pool.Canonical := by
  unfold removalWork
  split
  · simpa using canonical_endContexts (by simpa using hs) .flushed _
  · exact hs
  · exact hs

theorem canonical_trunkLoss {s : State} (hs : s.pool.Canonical) : s.trunkLoss.pool.Canonical := by
  unfold trunkLoss
  split
  · exact hs
  · simpa using canonical_endContexts (by simpa using hs) .trunkLoss _

theorem canonical_rebuilt {p : BlockPool} (h : p.Canonical) :
    ({ p with free := List.range 2048, chains := [] } : BlockPool).Canonical :=
  ⟨h.1, h.2.1, rfl⟩

theorem canonical_softRestart {s : State} (hs : s.pool.Canonical) (t : Fin 4) (r : Request) :
    (State.softRestart t r s).1.pool.Canonical := by
  simpa [State.softRestart, reply, restartParts, rebuildPool] using canonical_rebuilt hs

theorem canonical_flushQueue {s : State} (hs : s.pool.Canonical) (t : Fin 4) (r : Request) :
    (State.flushQueue t r s).1.pool.Canonical := by
  unfold State.flushQueue forQueue
  split
  · exact hs
  · exact canonical_dropReferences (by simpa using hs) _

/-- A request keeps the canonical form if its block does. -/
theorem canonical_take {s : State} {body : Execution}
    (own : ∀ t r (u : State), u.pool.Canonical → (body t r u).1.pool.Canonical) (k : RequestKind)
    (hs : s.pool.Canonical) : (s.take k body).pool.Canonical :=
  takeRequest_rel (R := fun s u => s.pool.Canonical → u.pool.Canonical) (fun _ h => h) (fun h h' x => h' (h x))
    (fun _ _ h => h) own k _ s hs

theorem canonical_after (c : Instr) {s : State} (hs : s.pool.Canonical) : (s.after c).pool.Canonical := by
  cases c with
  | powerOn => exact ⟨rfl, rfl, rfl⟩
  | trunkLoss => exact canonical_trunkLoss hs
  | dataOnly => exact canonical_takeCell (fun c u h => canonical_startMessage (canonical_endKeyContext h _ _) c _) hs
  | dataFirst => exact canonical_takeCell (fun c u h => canonical_startMessage (canonical_endKeyContext h _ _) c _) hs
  | dataMiddle => exact canonical_takeCell (fun c u h => canonical_continueMessage h _ c) hs
  | dataLast => exact canonical_takeCell (fun c u h => canonical_continueMessage h _ c) hs
  | gapTimerExpiry i => exact canonical_gapTimerExpiry hs i
  | classificationEnd => exact canonical_classificationEnd hs
  | deliveryFrameEnd => exact canonical_deliveryFrameEnd hs
  | deliveryMemoryError => exact canonical_deliveryMemoryError hs
  | removalWork => exact canonical_removalWork hs
  | softRestart => exact canonical_take (fun t r u h => canonical_softRestart h t r) _ hs
  | flushQueue => exact canonical_take (fun t r u h => canonical_flushQueue h t r) _ hs
  | _ =>
    refine keeps_after (P := fun s => s.pool.Canonical) [.blockPool] (fun u v same h => ?_) (by simp [reachOfAny,
      Instr.reach, Block.hold, Block.uplinkLoss]) hs
    rwa [show v.pool = u.pool from same _ (List.mem_singleton_self _)]

end State

/-- Settles O53: every command keeps the form, and the passing of time does not touch the pool. -/
theorem stepKeepsThePoolCanonical : Obligations.StepKeepsThePoolCanonical :=
  fun _ _ hs h => step_keeps (P := fun s => s.pool.Canonical) (fun _ _ h => h) (fun _ h => h)
    (fun c _ h => State.canonical_after c h) hs h

end Sys2Proof.Machine
end

section
/-! The validation of a program (R111): the checks of the model, clause by clause, against the table of the checks; and
that every step keeps the active program valid. -/

namespace Sys2Proof.Machine

namespace Program

variable {g : Program} {pos n : Nat} {c : Clause} {p q : Byte} {o m i : U16}

/-! ### The checks that a clause fails -/

theorem Holds.holds_iff (h : g.Holds pos c) {d : Clause} : g.Holds pos d ↔ d = c :=
  ⟨fun hd => hd.clause_eq.symm.trans h.clause_eq, fun e => e ▸ h⟩

/-- R111: the checks of a TEST with link AND. -/
theorem fails_testAnd (h : g.Holds pos (.testAnd p q o)) : g.Fails pos n ↔
    (n = 1 ∧ 9 < p.toNat) ∨ (n = 2 ∧ 3 < q.toNat) ∨ (n = 7 ∧ pos + 1 = g.count) := by
  unfold Fails
  split <;> simp_all [h.holds_iff]

/-- R111 checks 3 and 4: what the action of a TEST with link END fails. -/
def ActionFails (a : ClauseAction) (n : Nat) : Prop :=
  (n = 3 ∧ ((∃ q m, a = .deliver q m ∧ 7 < q.toNat) ∨ ∃ q q2 m, a = .mirror q q2 m ∧ (7 < q.toNat ∨ 7 < q2.toNat))) ∨
  (n = 4 ∧ ∃ q m, a = .mirror q q m)

/-- R111: the checks of a TEST with link END. -/
theorem fails_testEnd {a : ClauseAction} (h : g.Holds pos (.testEnd p q o a)) : g.Fails pos n ↔
    (n = 1 ∧ 9 < p.toNat) ∨ (n = 2 ∧ 3 < q.toNat) ∨ ActionFails a n := by
  unfold Fails ActionFails
  split <;> simp_all [h.holds_iff, eq_comm]

/-- R111: the checks of a GATE. -/
theorem fails_gate (h : g.Holds pos (.gate p q o i)) : g.Fails pos n ↔
    (n = 1 ∧ 9 < p.toNat) ∨ (n = 2 ∧ 3 < q.toNat) ∨ (n = 5 ∧ (i.toNat ≤ pos ∨ g.count < i.toNat)) := by
  unfold Fails
  split <;> simp_all [h.holds_iff]

/-- The clause at `k` is a TEST. -/
def TestAt (g : Program) (k : Nat) : Prop :=
  (∃ p q o, g.Holds k (.testAnd p q o)) ∨ ∃ p q o a, g.Holds k (.testEnd p q o a)

/-- R111 check 6: from `pos` on there are CAREs alone up to a TEST. -/
def ReachesTest (g : Program) (pos : Nat) : Prop :=
  ∃ k, pos ≤ k ∧ (∀ j, pos ≤ j → j < k → ∃ m, g.Holds j (.care m)) ∧ g.TestAt k

theorem TestAt.lt (h : g.TestAt n) : n < g.count := by
  rcases h with ⟨_, _, _, h⟩ | ⟨_, _, _, _, h⟩ <;> exact h.lt

theorem TestAt.reachesTest (h : g.TestAt pos) : g.ReachesTest pos :=
  ⟨pos, le_rfl, fun j hj hk => absurd hk (by omega), h⟩

theorem not_testAt (h : g.Holds pos c) (hc : ∀ p q o, c ≠ .testAnd p q o) (hc' : ∀ p q o a, c ≠ .testEnd p q o a) :
    ¬ g.TestAt pos := by
  rintro (⟨p, q, o, ht⟩ | ⟨p, q, o, a, ht⟩)
  · exact hc p q o (h.holds_iff.1 ht).symm
  · exact hc' p q o a (h.holds_iff.1 ht).symm

theorem reachesTest_care (h : g.Holds pos (.care m)) : g.ReachesTest pos ↔ g.ReachesTest (pos + 1) := by
  constructor
  · rintro ⟨k, hk, cares, test⟩
    have apart : pos ≠ k := fun same => not_testAt h (by simp) (by simp) (same ▸ test)
    exact ⟨k, by omega, fun j hj => cares j (by omega), test⟩
  · rintro ⟨k, hk, cares, test⟩
    refine ⟨k, by omega, fun j hj hjk => ?_, test⟩
    by_cases same : j = pos
    · exact ⟨m, same ▸ h⟩
    · exact cares j (by omega) hjk

/-- R111 check 6: the model's search for the TEST, over the positions left before the clause count. -/
theorem careUsed_iff (small : g.count ≤ 256) (room : pos + n = g.count) :
    g.careUsed n pos = true ↔ g.ReachesTest pos := by
  induction n generalizing pos with
  | zero =>
    refine iff_of_false (by simp [careUsed]) ?_
    rintro ⟨k, hk, -, test⟩
    have := test.lt
    omega
  | succ n ih =>
    have here := holds_clause small (pos := pos) (by omega)
    cases hc : g.clause pos with
    | care m => simp only [careUsed, hc]; exact (ih (by omega)).trans (reachesTest_care (hc ▸ here)).symm
    | testAnd p q o =>
      simp only [careUsed, hc]
      exact iff_of_true trivial (TestAt.reachesTest (.inl ⟨p, q, o, hc ▸ here⟩))
    | testEnd p q o a =>
      simp only [careUsed, hc]
      exact iff_of_true trivial (TestAt.reachesTest (.inr ⟨p, q, o, a, hc ▸ here⟩))
    | gate p q o i =>
      simp only [careUsed, hc]
      refine iff_of_false (by simp) ?_
      rintro ⟨k, hk, cares, test⟩
      rcases hk.eq_or_lt with rfl | later
      · exact not_testAt (hc ▸ here) (by simp) (by simp) test
      · obtain ⟨m, hm⟩ := cares pos le_rfl later
        cases (hc ▸ here : g.Holds pos (.gate p q o i)).holds_iff.1 hm

/-- R111: the checks of a CARE. -/
theorem fails_care (h : g.Holds pos (.care m)) : g.Fails pos n ↔
    (n = 6 ∧ ¬ g.ReachesTest (pos + 1)) ∨ (n = 7 ∧ pos + 1 = g.count) := by
  unfold Fails ReachesTest TestAt
  split <;> simp_all [h.holds_iff]

/-! ### The first check that fails -/

/-- What the model answers about a clause is the first check of the table that it fails. -/
structure FirstFault (g : Program) (pos : Nat) (answer : Option Byte) : Prop where
  none : answer = none → ∀ n, ¬ g.Fails pos n
  some : ∀ b, answer = some b → g.Fails pos b.toNat ∧ ∀ n < b.toNat, ¬ g.Fails pos n

theorem firstFault_none (h : ∀ n, ¬ g.Fails pos n) : g.FirstFault pos none :=
  ⟨fun _ => h, fun _ e => (nomatch e)⟩

theorem firstFault_some {b : Byte} (h : g.Fails pos b.toNat) (before : ∀ n < b.toNat, ¬ g.Fails pos n) :
    g.FirstFault pos (some b) :=
  ⟨fun e => (nomatch e), fun _ e => Option.some.inj e ▸ ⟨h, before⟩⟩

theorem actionFault_none {a : ClauseAction} (h : a.fault = none) (n : Nat) : ¬ ActionFails a n := by
  cases a with
  | none | discard => simp [ActionFails]
  | deliver q m => simp_all [ClauseAction.fault, ActionFails]
  | mirror q q2 m =>
    simp only [ClauseAction.fault] at h
    split at h
    · cases h
    · simp_all [ActionFails, eq_comm]

theorem actionFault_some {a : ClauseAction} {b : Byte} (h : a.fault = some b) :
    3 ≤ b.toNat ∧ ActionFails a b.toNat ∧ ∀ n < b.toNat, ¬ ActionFails a n := by
  cases a with
  | none => cases h
  | discard m => cases h
  | deliver q m =>
    simp only [ClauseAction.fault, Option.ite_none_right_eq_some, Option.some.injEq] at h
    obtain ⟨hq, rfl⟩ := h
    simp [ActionFails, hq]
    omega
  | mirror q q2 m =>
    simp only [ClauseAction.fault] at h
    split at h
    · obtain rfl := Option.some.inj h
      simp_all [ActionFails]
      omega
    · simp only [Option.ite_none_right_eq_some, Option.some.injEq] at h
      obtain ⟨rfl, rfl⟩ := h
      simp_all [ActionFails]
      omega

theorem clauseFault_firstFault (small : g.count ≤ 256) (h : pos < g.count) :
    g.FirstFault pos (g.clauseFault pos) := by
  have here := holds_clause small h
  cases hc : g.clause pos with
  | testAnd p q o =>
    rw [hc] at here
    simp only [clauseFault, hc]
    split
    · exact firstFault_some ((fails_testAnd here).2 (.inl ⟨rfl, ‹_›⟩)) fun n hn => by
        simp only [fails_testAnd here]; simp at hn; omega
    split
    · exact firstFault_some ((fails_testAnd here).2 (.inr (.inl ⟨rfl, ‹_›⟩))) fun n hn => by
        simp only [fails_testAnd here]; simp at hn; omega
    split
    · exact firstFault_some ((fails_testAnd here).2 (.inr (.inr ⟨rfl, ‹_›⟩))) fun n hn => by
        simp only [fails_testAnd here]; simp at hn; omega
    · exact firstFault_none fun n => by simp only [fails_testAnd here]; omega
  | testEnd p q o a =>
    rw [hc] at here
    simp only [clauseFault, hc]
    split
    · exact firstFault_some ((fails_testEnd here).2 (.inl ⟨rfl, ‹_›⟩)) fun n hn => by
        simp only [fails_testEnd here, ActionFails]; simp at hn; omega
    split
    · exact firstFault_some ((fails_testEnd here).2 (.inr (.inl ⟨rfl, ‹_›⟩))) fun n hn => by
        simp only [fails_testEnd here, ActionFails]; simp at hn; omega
    cases ha : a.fault with
    | none =>
      refine firstFault_none fun n => ?_
      rw [fails_testEnd here]
      rintro (⟨-, bad⟩ | ⟨-, bad⟩ | bad)
      · omega
      · omega
      · exact actionFault_none ha n bad
    | some b =>
      obtain ⟨late, fails, first⟩ := actionFault_some ha
      refine firstFault_some ((fails_testEnd here).2 (.inr (.inr fails))) fun n hn => ?_
      rw [fails_testEnd here]
      rintro (⟨-, bad⟩ | ⟨-, bad⟩ | bad)
      · omega
      · omega
      · exact first n hn bad
  | gate p q o i =>
    rw [hc] at here
    simp only [clauseFault, hc]
    split
    · exact firstFault_some ((fails_gate here).2 (.inl ⟨rfl, ‹_›⟩)) fun n hn => by
        simp only [fails_gate here]; simp at hn; omega
    split
    · exact firstFault_some ((fails_gate here).2 (.inr (.inl ⟨rfl, ‹_›⟩))) fun n hn => by
        simp only [fails_gate here]; simp at hn; omega
    split
    · exact firstFault_some ((fails_gate here).2 (.inr (.inr ⟨rfl, ‹_›⟩))) fun n hn => by
        simp only [fails_gate here]; simp at hn; omega
    · exact firstFault_none fun n => by simp only [fails_gate here]; omega
  | care m =>
    rw [hc] at here
    have used := careUsed_iff small (pos := pos + 1) (n := g.count - (pos + 1)) (by omega)
    simp only [clauseFault, hc]
    split
    · next hu =>
      have reaches := used.1 hu
      refine firstFault_none fun n => ?_
      have inside : pos + 1 ≠ g.count := by
        obtain ⟨k, hk, -, test⟩ := reaches
        have := test.lt
        omega
      simp [fails_care here, reaches, inside]
    · next hu =>
      exact firstFault_some ((fails_care here).2 (.inl ⟨rfl, fun r => hu (used.2 r)⟩)) fun n hn => by
        simp only [fails_care here]; simp at hn; omega

/-! ### The whole program -/

theorem probeFault_iff (i : Fin 4) : probeFault (g.probes.toList.getD i.val none) = true ↔ g.ProbeFails i := by
  simp [probeFault, ProbeFails, List.getD, Option.any_eq_true]

/-- A search over the positions finds the first one that has something. -/
theorem findSome_range_of_first {β : Type} {f : Nat → Option β} {n i : Nat} {x : β} (inside : i < n)
    (here : f i = some x) (before : ∀ j < i, f j = none) : (List.range n).findSome? f = some x := by
  obtain ⟨k, rfl⟩ := Nat.exists_eq_add_of_lt inside
  rw [List.findSome?_eq_some_iff]
  refine ⟨List.range i, i, (List.range k).map (i + 1 + ·), ?_, here, fun j hj => before j (List.mem_range.1 hj)⟩
  rw [show i + k + 1 = i + 1 + k by omega, List.range_add, List.range_succ, List.append_assoc, List.singleton_append]

/-- R111 checks 1 to 7: the model finds no fault in a clause exactly if none fails a check. -/
theorem noClauseFault_iff (small : g.count ≤ 256) :
    ((List.range g.count).findSome? fun pos => (g.clauseFault pos).map fun reason => (pos, reason)) = none
      ↔ ∀ pos reason, pos < g.count → ¬ g.Fails pos reason := by
  simp only [List.findSome?_eq_none_iff, List.mem_range, Option.map_eq_none_iff]
  constructor
  · exact fun h pos reason hp => (clauseFault_firstFault small hp).none (h pos hp) reason
  · intro h pos hp
    by_contra fault
    obtain ⟨b, hb⟩ := Option.ne_none_iff_exists'.1 fault
    exact h pos _ hp ((clauseFault_firstFault small hp).some b hb).1

/-- R111: the model finds no fault in a program exactly if it is valid. -/
theorem fault_eq_none_iff (small : g.count ≤ 256) : g.fault = none ↔ g.Valid := by
  have probes : ((List.range 4).find? fun i => probeFault (g.probes.toList.getD i none)) = none
      ↔ ∀ i, ¬ g.ProbeFails i := by
    simp only [List.find?_eq_none, List.mem_range, ← probeFault_iff]
    exact ⟨fun h i => h i i.isLt, fun h i hi => h ⟨i, hi⟩⟩
  unfold fault Valid
  rw [← noClauseFault_iff small, ← probes]
  split
  · next h => simp [h]
  · next h => simp [h]

/-- R111: the failing item and the reason that the model answers. -/
theorem fault_of_refused (small : g.count ≤ 256) {item reason : Nat} (h : g.Refused item reason) :
    g.fault = some (item, natByte reason) := by
  unfold fault
  rcases h with ⟨inside, fails, first, before⟩ | ⟨clean, rfl, i, rfl, fails, before⟩
  · have here := clauseFault_firstFault small inside
    obtain ⟨b, hb⟩ : ∃ b, g.clauseFault item = some b :=
      Option.ne_none_iff_exists'.1 fun none => here.none none reason fails
    obtain ⟨failsB, firstB⟩ := here.some b hb
    have same : b.toNat = reason :=
      le_antisymm (Nat.le_of_not_lt fun lt => firstB reason lt fails) (Nat.le_of_not_lt fun lt => first _ lt failsB)
    have clean : ∀ pos < item, g.clauseFault pos = none := by
      intro pos hp
      by_contra fault
      obtain ⟨b', hb'⟩ := Option.ne_none_iff_exists'.1 fault
      exact before pos hp _ ((clauseFault_firstFault small (hp.trans inside)).some b' hb').1
    rw [findSome_range_of_first inside (by rw [hb]; rfl) fun pos hp => by rw [clean pos hp]; rfl, ← same]
    simp [natByte]
  · have noClause : ((List.range g.count).findSome? fun pos => (g.clauseFault pos).map fun reason => (pos, reason))
        = none := (noClauseFault_iff small).2 clean
    have firstProbe : ((List.range 4).find? fun i => probeFault (g.probes.toList.getD i none)) = some i.val := by
      rw [List.find?_range_eq_some]
      refine ⟨(probeFault_iff i).2 fails, List.mem_range.2 i.isLt, fun j hj => ?_⟩
      simpa using mt (probeFault_iff ⟨j, hj.trans i.isLt⟩).1 (before ⟨j, hj.trans i.isLt⟩ hj)
    rw [noClause, firstProbe]
    rfl

end Program
namespace State

variable {s u : State}

/-! ### What is known of the programs, along the updates -/

theorem ProgramSound.of_same (h : s.ProgramSound) (active : u.program.active = s.program.active)
    (edit : u.program.edit = s.program.edit) : u.ProgramSound where
  count := active ▸ h.count
  valid := active ▸ h.valid
  staging := edit ▸ h.staging
  committed := edit ▸ h.committed

theorem ProgramSound.setEdit_none (h : s.ProgramSound) : (s.setEdit .none).ProgramSound where
  count := h.count
  valid := h.valid
  staging _ _ _ e := nomatch e
  committed _ _ _ e := nomatch e

theorem ProgramSound.setEdit_editing (h : s.ProgramSound) (t : Fin 4) {g : Program} (small : g.count ≤ 256) (z : U32) :
    (s.setEdit (.editing t g z)).ProgramSound where
  count := h.count
  valid := h.valid
  staging _ _ _ e := by cases e; exact small
  committed _ _ _ e := nomatch e

theorem ProgramSound.setEdit_committing (h : s.ProgramSound) (t : Fin 4) {g : Program} (small : g.count ≤ 256)
    (valid : g.Valid) (q : U16) : (s.setEdit (.committing t g q)).ProgramSound where
  count := h.count
  valid := h.valid
  staging _ _ _ e := nomatch e
  committed _ _ _ e := by cases e; exact ⟨small, valid⟩

/-- R82, R106: the staging program's count, in both states of a session. -/
theorem ProgramSound.staging_count (h : s.ProgramSound) {t : Fin 4} {g : Program} {z : U32}
    (edit : s.program.edit = .editing t g z) : g.count ≤ 256 :=
  h.staging t g z edit

/-! ### The commands -/

theorem ProgramSound.swap (h : s.ProgramSound) : s.swap.ProgramSound := by
  unfold State.swap
  split
  · next t g q edit _ =>
    obtain ⟨small, valid⟩ := h.committed t g q edit
    refine ⟨?_, ?_, ?_, ?_⟩ <;> simp [small, valid]
  · exact h
  · exact h
  · exact h

theorem ProgramSound.idleTimerExpiry (h : s.ProgramSound) : s.idleTimerExpiry.ProgramSound := by
  unfold State.idleTimerExpiry
  split
  · split
    · exact h.setEdit_none.of_same (by simp) (by simp)
    · exact h
  · exact h
  · exact h

theorem ProgramSound.classificationEnd (h : s.ProgramSound) : s.classificationEnd.ProgramSound := by
  unfold State.classificationEnd
  split
  · exact h
  · split
    · split
      · exact h.of_same (by simp [endEvaluated, countHits]) (by simp [endEvaluated, countHits])
      · exact h.of_same (by simp [endDamaged]) (by simp [endDamaged])
    · exact h
    · exact h
    · exact h

theorem ProgramSound.uplinkDown (h : s.ProgramSound) : s.uplinkDown.ProgramSound := by
  unfold State.uplinkDown
  split
  · exact h
  · exact h.of_same rfl rfl
  · have lost : s.uplinkLoss.program = { s.program with edit := s.program.edit.lose } := by
      simp [uplinkLoss, loseProgram]
    cases edit : s.program.edit with
    | none => exact h.of_same (by rw [lost]) (by rw [lost, edit]; rfl)
    | editing t g z => exact h.setEdit_none.of_same (by rw [lost]; rfl) (by rw [lost, edit]; rfl)
    | committing t g q => exact h.of_same (by rw [lost]) (by rw [lost, edit]; rfl)

theorem ProgramSound.restartParts (h : s.ProgramSound) : s.restartParts.ProgramSound := by
  have restarted : s.restartParts.program = { s.program with edit := .none } := by
    simp only [State.restartParts, rebuildPool_frame, restartEvents_frame, restartHold_frame]
    unfold restartProgram
    cases edit : s.program.edit <;> simp [edit, setEdit]
    rw [← edit]
  exact h.setEdit_none.of_same (by rw [restarted]; rfl) (by rw [restarted]; rfl)

theorem programSound_reset : State.reset.ProgramSound where
  count := by decide
  valid := ⟨fun _ _ h => absurd h (by simp [State.reset, Program.powerOn]), fun i => by
    simp [Program.ProbeFails, State.reset, Program.powerOn]⟩
  staging _ _ _ e := nomatch e
  committed _ _ _ e := nomatch e

/-! ### The requests -/

/-- R101: a request of the session's holder acts on the staging program, or changes nothing. -/
theorem ProgramSound.forHolder (h : s.ProgramSound) (t : Fin 4) {f : Program → State → State × Reply}
    (own : ∀ g z, s.program.edit = .editing t g z → (f g s).1.ProgramSound) : (s.forHolder t f).1.ProgramSound := by
  unfold State.forHolder
  split
  · exact h
  · next edit =>
    split
    · next same => exact own _ _ (same ▸ edit)
    · exact h
  · split <;> exact h

theorem ProgramSound.writeStaging (h : s.ProgramSound) (t : Fin 4) {f : Program → Program}
    (small : ∀ g, g.count ≤ 256 → (f g).count ≤ 256) : (s.writeStaging t f).1.ProgramSound :=
  h.forHolder t fun g _ edit => h.setEdit_editing t (small g (h.staging_count edit)) _

theorem ProgramSound.openEdit (h : s.ProgramSound) (t : Fin 4) (r : Request) :
    (State.openEdit t r s).1.ProgramSound := by
  unfold State.openEdit
  split
  · exact h.setEdit_editing t h.count _
  · exact h
  · exact h

theorem ProgramSound.writeClause (h : s.ProgramSound) (t : Fin 4) (r : Request) :
    (State.writeClause t r s).1.ProgramSound := by
  unfold State.writeClause
  split
  · exact h
  · exact h.writeStaging t fun _ small => small

theorem ProgramSound.writeProbes (h : s.ProgramSound) (t : Fin 4) (r : Request) :
    (State.writeProbes t r s).1.ProgramSound :=
  h.writeStaging t fun _ small => small

theorem ProgramSound.setDefault (h : s.ProgramSound) (t : Fin 4) (r : Request) :
    (State.setDefault t r s).1.ProgramSound := by
  unfold State.setDefault
  split
  · exact h
  · exact h.writeStaging t fun _ small => small

theorem ProgramSound.setCount (h : s.ProgramSound) (t : Fin 4) (r : Request) :
    (State.setCount t r s).1.ProgramSound := by
  unfold State.setCount
  split
  · next small => exact h.writeStaging t fun _ _ => small
  · exact h

/-- R110, R111: only a valid program becomes pending. -/
theorem ProgramSound.commit (h : s.ProgramSound) (t : Fin 4) (r : Request) : (State.commit t r s).1.ProgramSound := by
  refine h.forHolder t fun g z edit => ?_
  have small := h.staging_count edit
  split
  · exact h.setEdit_editing t small _
  · next clean =>
    have pending := h.setEdit_committing t small ((Program.fault_eq_none_iff small).1 clean) r.sequence
    exact ProgramSound.swap (pending.of_same (by simp) (by simp))

theorem ProgramSound.take (h : s.ProgramSound) {body : Execution}
    (own : ∀ t r (u : State), u.ProgramSound → (body t r u).1.ProgramSound) (k : RequestKind) :
    (s.take k body).ProgramSound :=
  takeRequest_rel (R := fun s u => s.ProgramSound → u.ProgramSound) (fun _ h => h) (fun h h' x => h' (h x))
    (fun _ _ h => h.of_same rfl rfl) own k _ s h

theorem ProgramSound.after (h : s.ProgramSound) (c : Instr) : (s.after c).ProgramSound := by
  cases c with
  | powerOn => exact programSound_reset.of_same rfl rfl
  | swap => exact h.swap
  | idleTimerExpiry => exact h.idleTimerExpiry
  | classificationEnd => exact h.classificationEnd
  | trainingFailure => exact h.uplinkDown
  | lossOfSignal => exact h.uplinkDown
  | softRestart => exact h.take (fun t r u hu => hu.restartParts) _
  | openEdit => exact h.take (fun t r u hu => hu.openEdit t r) _
  | writeClause => exact h.take (fun t r u hu => hu.writeClause t r) _
  | writeProbes => exact h.take (fun t r u hu => hu.writeProbes t r) _
  | setDefault => exact h.take (fun t r u hu => hu.setDefault t r) _
  | setCount => exact h.take (fun t r u hu => hu.setCount t r) _
  | commit => exact h.take (fun t r u hu => hu.commit t r) _
  | abortEdit => exact h.take (fun t r u hu => hu.forHolder t fun _ _ _ => hu.setEdit_none) _
  | _ =>
    refine keeps_after [.programStore] (fun u v same hu => ?_) (by simp [reachOfAny, Instr.reach, Block.hold,
      Block.cell]) h
    have program : v.program = u.program := same _ (List.mem_singleton_self _)
    exact hu.of_same (by rw [program]) (by rw [program])

end State

/-- Settles O55: the active program changes at the swap alone, to a program that was checked when its COMMIT became
pending. -/
theorem stepKeepsTheProgramValid : Obligations.StepKeepsTheProgramValid :=
  fun _ _ hs h => step_keeps (P := State.ProgramSound) (fun _ _ h => h.of_same rfl rfl) (fun _ h => h.of_same rfl rfl)
    (fun c _ h => State.ProgramSound.after h c) hs h

end Sys2Proof.Machine
end

section
/-! What the operations of the Reassembly Unit make of its contexts and of the Station Table; and that every step keeps
the station addresses legal and unique, one context per key, and the pending list exact. -/

namespace Sys2Proof.Machine

/-- R53: the table after a report to the first entry for address `a`, if there is one. -/
def StationTable.reported (x : StationTable) (a : Addr) (f : StationEntry → StationEntry) : StationTable :=
  match firstPlace (fun e => e.any fun y => y.address == a) x.entries with
  | none => x
  | some i => { x with entries := x.entries.set i (x.entries[i].map f) }

namespace State

/-! ### The Station Table -/

@[simp] theorem reportStation_stations (a : Addr) (f : StationEntry → StationEntry) (s : State) :
    (s.reportStation a f).stations = s.stations.reported a f := by
  unfold reportStation StationTable.reported findStation
  cases firstPlace (fun e => e.any fun y => y.address == a) s.stations.entries <;> rfl

@[simp] theorem countOpen_stations (a : Addr) (s : State) :
    (s.countOpen a).stations = s.stations.reported a fun e => { e with openCount := e.openCount + 1 } := by
  simp [countOpen]

@[simp] theorem countClosed_stations (a : Addr) (s : State) :
    (s.countClosed a).stations = s.stations.reported a fun e => { e with openCount := e.openCount - 1 } := by
  simp [countClosed]

@[simp] theorem countCompleted_stations (a : Addr) (s : State) :
    (s.countCompleted a).stations = s.stations.reported a fun e => { e with completed := satInc e.completed } := by
  simp [countCompleted]

@[simp] theorem countError_stations (a : Addr) (s : State) :
    (s.countError a).stations = s.stations.reported a fun e => { e with errors := satInc e.errors } := by
  simp [countError]

/-- R69: the error report of an abort, if its reason counts as an error. -/
@[simp] theorem accountAbort_stations (r : AbortReason) (a : Addr) (s : State) : (s.accountAbort r a).stations =
    if r.isError then s.stations.reported a fun e => { e with errors := satInc e.errors } else s.stations := by
  cases r <;> simp [accountAbort, AbortReason.isError, AbortReason.event]

/-! ### The contexts -/

@[simp] theorem setContext_reassembly (i : Fin 48) (c : Context) (s : State) :
    (s.setContext i c).reassembly = { s.reassembly with contexts := s.reassembly.contexts.set i c } := rfl

@[simp] theorem setBody_reassembly (i : Fin 48) (b : ContextState) (s : State) : (s.setBody i b).reassembly =
    { s.reassembly with contexts := s.reassembly.contexts.set i { s.reassembly.contexts[i] with body := b } } := rfl

@[simp] theorem countReassembly_reassembly (f : ReassemblyCounters → ReassemblyCounters) (s : State) :
    (s.countReassembly f).reassembly = { s.reassembly with counters := f s.reassembly.counters } := rfl

@[simp] theorem accountAbort_reassembly (r : AbortReason) (a : Addr) (s : State) :
    (s.accountAbort r a).reassembly = { s.reassembly with counters := r.count s.reassembly.counters } := by
  cases r <;> simp [accountAbort, AbortReason.isError, AbortReason.event]

@[simp] theorem abortToFree_reassembly (i : Fin 48) (m : Message) (r : AbortReason) (s : State) :
    (s.abortToFree i m r).reassembly = { s.reassembly with
      contexts := s.reassembly.contexts.set i { body := .free, lastAbort := r }
      counters := r.count s.reassembly.counters } := by
  simp [abortToFree]

@[simp] theorem abortToDiscarding_reassembly (i : Fin 48) (m : Message) (r : AbortReason) (s : State) :
    (s.abortToDiscarding i m r).reassembly = { s.reassembly with
      contexts := s.reassembly.contexts.set i
        { body := .discarding m.station m.channel s.gapExpiry, lastAbort := r }
      counters := r.count s.reassembly.counters } := by
  simp [abortToDiscarding]

@[simp] theorem endDiscarding_reassembly (i : Fin 48) (a : Addr) (r : AbortReason) (s : State) :
    (s.endDiscarding i a r).reassembly = { s.reassembly with
      contexts := s.reassembly.contexts.set i { body := .free, lastAbort := r }
      counters := r.count s.reassembly.counters } := by
  simp [endDiscarding]

@[simp] theorem completeContext_reassembly (i : Fin 48) (m : Message) (s : State) :
    (s.completeContext i m).reassembly = {
      contexts := s.reassembly.contexts.set i { s.reassembly.contexts[i] with body := .complete m }
      pendingList := s.reassembly.pendingList ++ [i]
      counters := { s.reassembly.counters with completed := satInc s.reassembly.counters.completed } } := by
  simp [completeContext]

@[simp] theorem abortToFree_stations (i : Fin 48) (m : Message) (r : AbortReason) (s : State) :
    (s.abortToFree i m r).stations = (if r.isError then s.stations.reported m.station fun e =>
        { e with errors := satInc e.errors } else s.stations).reported m.station fun e =>
      { e with openCount := e.openCount - 1 } := by
  simp [abortToFree]

@[simp] theorem abortToDiscarding_stations (i : Fin 48) (m : Message) (r : AbortReason) (s : State) :
    (s.abortToDiscarding i m r).stations = if r.isError then s.stations.reported m.station fun e =>
        { e with errors := satInc e.errors } else s.stations := by
  simp [abortToDiscarding]

@[simp] theorem endDiscarding_stations (i : Fin 48) (a : Addr) (r : AbortReason) (s : State) :
    (s.endDiscarding i a r).stations = s.stations.reported a fun e => { e with openCount := e.openCount - 1 } := by
  simp [endDiscarding]

@[simp] theorem completeContext_stations (i : Fin 48) (m : Message) (s : State) : (s.completeContext i m).stations =
    s.stations.reported m.station fun e => { e with completed := satInc e.completed } := by
  simp [completeContext]

@[simp] theorem orphanCell_stations (a : Addr) (s : State) : (s.orphanCell a).stations =
    s.stations.reported a fun e => { e with errors := satInc e.errors } := by
  simp [orphanCell]

@[simp] theorem refuseNoContext_stations (a : Addr) (s : State) : (s.refuseNoContext a).stations =
    s.stations.reported a fun e => { e with errors := satInc e.errors } := by
  simp [refuseNoContext]

@[simp] theorem refuseNoBuffer_stations (a : Addr) (s : State) : (s.refuseNoBuffer a).stations =
    s.stations.reported a fun e => { e with errors := satInc e.errors } := by
  simp [refuseNoBuffer]

end State

/-! ### Tables that gain no entry -/

namespace StationTable

variable {x y z : StationTable}

/-- Table `y` has no entry where `x` has none, and each of its entries is for the address that it is for in `x`. -/
structure Within (y x : StationTable) : Prop where
  tick : y.microsSinceTick = x.microsSinceTick
  entry : ∀ (i : Fin 64) e, y.entries[i] = some e → ∃ e', x.entries[i] = some e' ∧ e.address = e'.address

theorem Within.refl (x : StationTable) : x.Within x := ⟨rfl, fun _ e h => ⟨e, h, rfl⟩⟩

theorem Within.trans (h : y.Within x) (h' : z.Within y) : z.Within x where
  tick := h'.tick.trans h.tick
  entry i e he := by
    obtain ⟨e1, h1, a1⟩ := h'.entry i e he
    obtain ⟨e2, h2, a2⟩ := h.entry i e1 h1
    exact ⟨e2, h2, a1.trans a2⟩

/-- R17: such a table is sound if the other is. -/
theorem Sound.of_within (hx : x.Sound) (h : y.Within x) : y.Sound := by
  obtain ⟨legal, unique, tick⟩ := hx
  refine ⟨fun i e he => ?_, fun i j e e' hi hj same => ?_, h.tick ▸ tick⟩
  · obtain ⟨e', h', a⟩ := h.entry i e he
    exact a ▸ legal i e' h'
  · obtain ⟨d, hd, a⟩ := h.entry i e hi
    obtain ⟨d', hd', a'⟩ := h.entry j e' hj
    exact unique i j d d' hd hd' (a.symm.trans (same.trans a'))

theorem within_of_entries (tick : y.microsSinceTick = x.microsSinceTick) (entries : y.entries = x.entries) :
    y.Within x :=
  ⟨tick, fun _ e he => ⟨e, entries ▸ he, rfl⟩⟩

/-- Changing one entry, or emptying its position, keeps within the table if the address stays. -/
theorem within_set (x : StationTable) (i : Fin 64) (o : Option StationEntry)
    (ho : ∀ e, o = some e → ∃ e', x.entries[i] = some e' ∧ e.address = e'.address) :
    ({ x with entries := x.entries.set i o } : StationTable).Within x where
  tick := rfl
  entry j e he := by
    rw [getElem_set_fin] at he
    split at he
    · next same => exact same ▸ ho e he
    · exact ⟨e, he, rfl⟩

/-- A report changes an entry in place. -/
theorem within_reported (x : StationTable) (a : Addr) {f : StationEntry → StationEntry}
    (hf : ∀ e, (f e).address = e.address) : (x.reported a f).Within x := by
  unfold reported
  split
  · exact .refl x
  · refine within_set x _ _ fun e he => ?_
    obtain ⟨e', h', rfl⟩ := Option.map_eq_some_iff.1 he
    exact ⟨e', h', hf e'⟩

/-- Changing or removing entries in place, all over the table. -/
theorem within_mapTable (x : StationTable) {f : Option StationEntry → Option StationEntry}
    (hf : ∀ o e, f o = some e → ∃ e', o = some e' ∧ e.address = e'.address) :
    ({ x with entries := mapTable f x.entries } : StationTable).Within x where
  tick := rfl
  entry i e he := hf _ e (by simpa using he)

/-- R17: a new entry for a legal address that has none. -/
theorem Sound.put (hx : x.Sound) (i : Fin 64) {e : StationEntry} (legal : 1 ≤ e.address.toNat ∧ e.address.toNat ≤ 4094)
    (lacks : x.Lacks e.address) : (x.put i (some e)).Sound := by
  obtain ⟨old, unique, tick⟩ := hx
  have at_ : ∀ (j : Fin 64) d, (x.put i (some e)).entries[j] = some d → (j = i ∧ d = e) ∨ x.entries[j] = some d := by
    intro j d hd
    rw [StationTable.put, getElem_set_fin] at hd
    split at hd
    · next same => exact .inl ⟨same, (Option.some.inj hd).symm⟩
    · exact .inr hd
  refine ⟨fun j d hd => ?_, fun j k d d' hj hk same => ?_, tick⟩
  · rcases at_ j d hd with ⟨-, rfl⟩ | hd
    · exact legal
    · exact old j d hd
  · rcases at_ j d hj with ⟨ej, ed⟩ | hj <;> rcases at_ k d' hk with ⟨ek, ed'⟩ | hk
    · exact ej.trans ek.symm
    · exact absurd (ed ▸ same).symm (lacks k d' hk)
    · exact absurd (ed' ▸ same) (lacks j d hj)
    · exact unique j k d d' hj hk same

end StationTable

namespace State

variable {s u : State}

/-- The table of `u` keeps within that of `s`. -/
def NoNewEntry (s u : State) : Prop := u.stations.Within s.stations

theorem NoNewEntry.refl (s : State) : s.NoNewEntry s := StationTable.Within.refl _

theorem NoNewEntry.trans {v : State} (h : s.NoNewEntry u) (h' : u.NoNewEntry v) : s.NoNewEntry v :=
  StationTable.Within.trans h h'

theorem noNewEntry_of_same (h : u.stations = s.stations) : s.NoNewEntry u := by
  unfold NoNewEntry
  exact h ▸ .refl _

theorem noNewEntry_of_reported {a : Addr} {f : StationEntry → StationEntry} (h : u.stations = s.stations.reported a f)
    (hf : ∀ e, (f e).address = e.address) : s.NoNewEntry u := by
  unfold NoNewEntry
  exact h ▸ StationTable.within_reported _ a hf

theorem noNewEntry_abortToFree (i : Fin 48) (m : Message) (r : AbortReason) (s : State) :
    s.NoNewEntry (s.abortToFree i m r) := by
  unfold NoNewEntry
  rw [abortToFree_stations]
  refine StationTable.Within.trans ?_ (StationTable.within_reported _ _ fun _ => rfl)
  split
  · exact StationTable.within_reported _ _ fun _ => rfl
  · exact .refl _

theorem noNewEntry_abortToDiscarding (i : Fin 48) (m : Message) (r : AbortReason) (s : State) :
    s.NoNewEntry (s.abortToDiscarding i m r) := by
  unfold NoNewEntry
  rw [abortToDiscarding_stations]
  split
  · exact StationTable.within_reported _ _ fun _ => rfl
  · exact .refl _

theorem noNewEntry_abortAtCell (last : Bool) (i : Fin 48) (m : Message) (r : AbortReason) (s : State) :
    s.NoNewEntry (s.abortAtCell last i m r) := by
  cases last
  · exact noNewEntry_abortToDiscarding i m r s
  · exact noNewEntry_abortToFree i m r s

theorem noNewEntry_endContext (r : AbortReason) (i : Fin 48) (s : State) : s.NoNewEntry (s.endContext r i) := by
  unfold endContext
  split
  · exact noNewEntry_abortToFree i _ r s
  · exact noNewEntry_of_reported (endDiscarding_stations ..) fun _ => rfl
  · exact .refl s
  · exact .refl s

theorem noNewEntry_endContexts (r : AbortReason) (l : List (Fin 48)) (s : State) :
    s.NoNewEntry (s.endContexts r l) := by
  induction l generalizing s with
  | nil => exact .refl s
  | cons i l ih => exact (noNewEntry_endContext r i s).trans (ih _)

theorem noNewEntry_endKeyContext (a : Addr) (ch : Chan) (s : State) : s.NoNewEntry (s.endKeyContext a ch) := by
  unfold endKeyContext
  split
  · exact .refl s
  · exact noNewEntry_endContext _ _ s

theorem noNewEntry_startMessage (c : AdmittedCell) (whole : Bool) (s : State) :
    s.NoNewEntry (s.startMessage c whole) := by
  unfold startMessage
  split
  · exact noNewEntry_of_reported (refuseNoContext_stations ..) fun _ => rfl
  · split
    · exact noNewEntry_of_reported (refuseNoBuffer_stations ..) fun _ => rfl
    · cases whole
      · exact noNewEntry_of_reported (f := fun e => { e with openCount := e.openCount + 1 }) (by simp; rfl) fun _ => rfl
      · exact noNewEntry_of_reported (f := fun e => { e with completed := satInc e.completed }) (by simp; rfl)
          fun _ => rfl

theorem noNewEntry_extendMessage (last : Bool) (i : Fin 48) (m : Message) (e : Seq) (n : Nat) (ch : Chain) (s : State) :
    s.NoNewEntry (s.extendMessage last i m e n ch) := by
  cases last
  · exact noNewEntry_of_same (by simp [extendMessage])
  · unfold NoNewEntry extendMessage
    simp only [if_true, countClosed_stations, completeContext_stations]
    refine StationTable.Within.trans ?_ (StationTable.within_reported _ _ fun _ => rfl)
    exact StationTable.within_reported _ _ fun _ => rfl

theorem noNewEntry_continueMessage (last : Bool) (c : AdmittedCell) (s : State) :
    s.NoNewEntry (s.continueMessage last c) := by
  unfold continueMessage
  split
  · exact noNewEntry_of_reported (orphanCell_stations ..) fun _ => rfl
  · split
    · unfold continueOpen
      split
      · split
        · exact noNewEntry_abortAtCell ..
        · split
          · exact noNewEntry_abortAtCell ..
          · next p _ => exact (noNewEntry_of_same (by simp)).trans (noNewEntry_extendMessage ..)
      · split
        · exact noNewEntry_of_same (by simp)
        · exact noNewEntry_abortAtCell ..
    · cases last
      · exact noNewEntry_of_same (by simp [continueDiscarding])
      · exact noNewEntry_of_reported (f := fun e => { e with openCount := e.openCount - 1 })
          (by simp [continueDiscarding]; rfl) fun _ => rfl
    · exact .refl s
    · exact .refl s

theorem noNewEntry_takeCell {k : DataKind} {act : AdmittedCell → State → State}
    (own : ∀ c (u : State), u.NoNewEntry (act c u)) (s : State) : s.NoNewEntry (s.takeCell k act) := by
  unfold takeCell
  split
  · split
    · exact (noNewEntry_of_same rfl).trans (own _ _)
    · exact .refl s
  · exact .refl s
  · exact .refl s

theorem noNewEntry_gapTimerExpiry (i : Fin 48) (s : State) : s.NoNewEntry (s.gapTimerExpiry i) := by
  unfold gapTimerExpiry
  split
  · split
    · exact noNewEntry_abortToFree ..
    · exact .refl s
  · split
    · exact noNewEntry_of_reported (f := fun e => { e with openCount := e.openCount - 1 }) (by simp; rfl) fun _ => rfl
    · exact .refl s
  · exact .refl s
  · exact .refl s

theorem noNewEntry_ageOut (i : Fin 64) (s : State) : s.NoNewEntry (s.ageOut i) := by
  unfold ageOut NoNewEntry
  split
  · split
    · simpa [setEntry] using StationTable.within_set s.stations i none fun e he => nomatch he
    · exact .refl _
  · exact .refl _

theorem noNewEntry_agingTick (s : State) : s.NoNewEntry s.agingTick := by
  have ages : ∀ (l : List (Fin 64)) (u : State), u.NoNewEntry (l.foldl (fun t i => t.ageOut i) u) := by
    intro l
    induction l with
    | nil => exact .refl
    | cons i l ih => exact fun u => (noNewEntry_ageOut i u).trans (ih _)
  refine NoNewEntry.trans ?_ (ages _ _)
  refine StationTable.within_mapTable s.stations fun o e he => ?_
  obtain ⟨e', rfl, rfl⟩ := Option.map_eq_some_iff.1 he
  exact ⟨e', rfl, rfl⟩

theorem noNewEntry_removalWork (s : State) : s.NoNewEntry s.removalWork := by
  unfold removalWork
  split
  · next stations rest _ =>
    exact (noNewEntry_endContexts .flushed (s.removedContexts stations) (s.withStream rest)).trans
      (noNewEntry_of_same (by simp))
  · exact .refl s
  · exact .refl s

theorem noNewEntry_trunkLoss (s : State) : s.NoNewEntry s.trunkLoss := by
  unfold trunkLoss
  split
  · exact .refl s
  · have posted : s.NoNewEntry ((s.changeRx fun x => { x with link := .down }).post .trunkDown 0) :=
      noNewEntry_of_same (by simp)
    exact posted.trans ((noNewEntry_endContexts .trunkLoss (List.finRange 48) _).trans (noNewEntry_of_same (by simp)))

/-! ### The requests that change the table -/

theorem noNewEntry_restartParts (s : State) : s.NoNewEntry s.restartParts := by
  unfold NoNewEntry
  simp only [restartParts, rebuildPool_frame, restartEvents_frame, restartHold_frame, restartProgram_frame,
    restartDelivery_frame]
  refine StationTable.Within.trans (y := s.cutFrame.stations) (by simpa using .refl _) ?_
  refine StationTable.within_mapTable _ fun o e he => ?_
  obtain ⟨e', rfl, rfl⟩ := Option.map_eq_some_iff.1 he
  exact ⟨e', rfl, rfl⟩

theorem noNewEntry_unpinStation (t : Fin 4) (r : Request) (s : State) : s.NoNewEntry (State.unpinStation t r s).1 := by
  unfold State.unpinStation
  split
  · exact .refl s
  · split
    · exact .refl s
    · refine StationTable.within_set s.stations _ _ fun e he => ?_
      obtain ⟨e', h', rfl⟩ := Option.map_eq_some_iff.1 he
      exact ⟨e', h', rfl⟩

theorem noNewEntry_removeStation (t : Fin 4) (r : Request) (s : State) :
    s.NoNewEntry (State.removeStation t r s).1 := by
  unfold State.removeStation
  split
  · exact .refl s
  · split
    · exact .refl s
    · exact StationTable.within_set s.stations _ _ fun e he => nomatch he

theorem noNewEntry_flushLearned (t : Fin 4) (r : Request) (s : State) :
    s.NoNewEntry (State.flushLearned t r s).1 := by
  refine StationTable.within_mapTable s.stations fun o e he => ?_
  obtain ⟨h, -⟩ := Option.filter_eq_some_iff.1 he
  exact ⟨e, h, rfl⟩

theorem noNewEntry_clearGroup (g : Group) (s : State) : s.NoNewEntry (s.clearGroup g) := by
  cases g with
  | lookup => exact StationTable.within_of_entries rfl rfl
  | station =>
    refine StationTable.within_mapTable s.stations fun o e he => ?_
    obtain ⟨e', rfl, rfl⟩ := Option.map_eq_some_iff.1 he
    exact ⟨e', rfl, rfl⟩
  | _ => exact noNewEntry_of_same rfl

theorem noNewEntry_readCounters (t : Fin 4) (r : Request) (s : State) :
    s.NoNewEntry (State.readCounters t r s).1 := by
  unfold State.readCounters
  split
  · exact .refl s
  · dsimp only
    split
    · exact .refl s
    · split
      · exact noNewEntry_clearGroup _ s
      · exact .refl s

theorem noNewEntry_clearCounters (t : Fin 4) (r : Request) (s : State) :
    s.NoNewEntry (State.clearCounters t r s).1 := by
  unfold State.clearCounters
  split
  · exact .refl s
  · exact noNewEntry_clearGroup _ s

theorem noNewEntry_take {body : Execution} (own : ∀ t r u, NoNewEntry u (body t r u).1) (k : RequestKind) (s : State) :
    s.NoNewEntry (s.take k body) :=
  takeRequest_rel NoNewEntry.refl NoNewEntry.trans (fun _ _ => noNewEntry_of_same rfl) own k _ s

/-! ### The entries that are made -/

theorem lacks_of_findStation {a : Addr} (h : s.findStation a = none) : s.stations.Lacks a := by
  intro j e he same
  have none := firstPlace_eq_none.1 h j
  simp [he, same] at none

theorem entry_of_findStation {a : Addr} {i : Fin 64} (h : s.findStation a = some i) :
    ∃ e, s.stations.entries[i] = some e ∧ e.address = a := by
  have found := firstPlace_some h
  cases he : s.stations.entries[i] with
  | none => simp only [he] at found; simp at found
  | some e => exact ⟨e, rfl, by simpa only [he, Option.any_some, beq_iff_eq] using found⟩

theorem Sound.lookupCell (hs : s.stations.Sound) (k : DataKind) {bytes : List Byte}
    (legal : 1 ≤ (cellSource bytes).toNat ∧ (cellSource bytes).toNat ≤ 4094) :
    (s.lookupCell k bytes).stations.Sound := by
  unfold State.lookupCell
  dsimp only
  split
  · next i found =>
    split
    · next e he =>
      have kept : ∀ e' : StationEntry, e'.address = e.address →
          ({ s.stations with entries := s.stations.entries.set i (some e') } : StationTable).Within s.stations :=
        fun e' same => StationTable.within_set s.stations i _ fun d hd => ⟨e, he, by cases hd; exact same⟩
      split
      · exact hs.of_within ((kept { e with age := 0, accepted := satInc e.accepted } rfl).trans
          (StationTable.within_of_entries rfl rfl))
      · exact hs.of_within ((kept { e with age := 0 } rfl).trans
          (StationTable.within_of_entries (by simp [blockedCell, setEntry]) (by simp [blockedCell, setEntry])))
    · exact hs
  · next missing =>
    have foreign : (s.foreignCell (cellSource bytes)).stations.Sound := by
      exact hs.of_within (StationTable.within_of_entries (by simp [foreignCell]) (by simp [foreignCell]))
    split
    · split
      · next i _ =>
        have made := hs.put i (e := { s.learnedEntry (cellSource bytes) with accepted := satInc 0 }) legal
          (lacks_of_findStation missing)
        simpa [acceptedCell, setEntry, handCell, StationTable.put, learnedEntry] using made
      · exact foreign
    · exact foreign

/-- R9: the source of an admitted cell is 1 to 4,094. -/
theorem legal_of_admitted {a : Addr} {w : LaneUnit} {k : DataKind} (h : admission a w = .admitted k) :
    1 ≤ (cellSource w.bytes).toNat ∧ (cellSource w.bytes).toNat ≤ 4094 := by
  have source : ¬ (cellSource w.bytes = 0 ∨ cellSource w.bytes = 4095) := by
    intro bad
    unfold admission at h
    split at h
    · split at h
      · cases h
      · cases h
      · cases h
      · dsimp only at h
        split at h <;> cases h
    · cases h
  bv_omega

theorem Sound.receivedCell (hs : s.stations.Sound) (w : LaneUnit) : (s.receivedCell w).stations.Sound := by
  unfold State.receivedCell
  split
  · exact hs
  · exact hs
  · dsimp only
    split
    · simpa using hs
    · simpa using hs
    · simpa using hs
    · simpa using hs
    · simpa using hs
    · next k admitted => exact Sound.lookupCell (s := s.changeRx _) hs k (legal_of_admitted admitted)

/-- R17: the station address that a request names is legal. -/
theorem legal_of_station {r : Request} {i : Nat} {a : Addr} (h : r.station i = some a) :
    1 ≤ a.toNat ∧ a.toNat ≤ 4094 := by
  simp only [Request.station, Option.ite_none_right_eq_some, Option.some.injEq] at h
  obtain ⟨⟨low, high⟩, rfl⟩ := h
  rw [BitVec.toNat_ofNat, Nat.mod_eq_of_lt (by omega)]
  exact ⟨low, high⟩

theorem Sound.pinStation (hs : s.stations.Sound) (t : Fin 4) (r : Request) :
    (State.pinStation t r s).1.stations.Sound := by
  unfold State.pinStation
  split
  · next a adm named _ =>
    split
    · refine hs.of_within (StationTable.within_set s.stations _ _ fun e he => ?_)
      obtain ⟨e', h', rfl⟩ := Option.map_eq_some_iff.1 he
      exact ⟨e', h', rfl⟩
    · next missing =>
      split
      · exact hs.put _ (e := pinnedEntry a adm (r.byte 3)) (legal_of_station named) (lacks_of_findStation missing)
      · exact hs
  · exact hs
  · exact hs

theorem Sound.advance (hs : s.stations.Sound) : s.advance.stations.Sound := by
  refine ⟨hs.1, hs.2.1, ?_⟩
  simp only [State.advance, withStations_stations]
  split <;> omega

theorem Sound.take (hs : s.stations.Sound) {body : Execution}
    (own : ∀ t r (u : State), u.stations.Sound → (body t r u).1.stations.Sound) (k : RequestKind) :
    (s.take k body).stations.Sound :=
  takeRequest_rel (R := fun s u => s.stations.Sound → u.stations.Sound) (fun _ h => h) (fun h h' x => h' (h x))
    (fun _ _ h => h) own k _ s hs

theorem sound_reset : State.reset.stations.Sound :=
  ⟨fun i e he => by simp [State.reset] at he, fun i j e e' he => by simp [State.reset] at he, by decide⟩

theorem Sound.after (hs : s.stations.Sound) (c : Instr) : (s.after c).stations.Sound := by
  cases c with
  | powerOn => exact sound_reset
  | trunkLoss => exact hs.of_within (noNewEntry_trunkLoss s)
  | receivedCell w => exact Sound.receivedCell hs w
  | dataOnly | dataFirst =>
    exact hs.of_within (noNewEntry_takeCell (fun c u =>
      (noNewEntry_endKeyContext c.source c.channel u).trans (noNewEntry_startMessage c _ _)) s)
  | dataMiddle | dataLast => exact hs.of_within (noNewEntry_takeCell (noNewEntry_continueMessage _) s)
  | gapTimerExpiry i => exact hs.of_within (noNewEntry_gapTimerExpiry i s)
  | agingTick => exact hs.of_within (noNewEntry_agingTick s)
  | removalWork => exact hs.of_within (noNewEntry_removalWork s)
  | softRestart => exact hs.of_within (noNewEntry_take (fun _ _ u => noNewEntry_restartParts u) _ s)
  | pinStation => exact Sound.take hs (fun t r u hu => Sound.pinStation hu t r) _
  | unpinStation => exact hs.of_within (noNewEntry_take noNewEntry_unpinStation _ s)
  | removeStation => exact hs.of_within (noNewEntry_take noNewEntry_removeStation _ s)
  | flushLearned => exact hs.of_within (noNewEntry_take noNewEntry_flushLearned _ s)
  | readCounters => exact hs.of_within (noNewEntry_take noNewEntry_readCounters _ s)
  | clearCounters => exact hs.of_within (noNewEntry_take noNewEntry_clearCounters _ s)
  | _ =>
    refine keeps_after (P := fun s => s.stations.Sound) [.stationTable] (fun u v same hu => ?_) (by simp [reachOfAny,
      Instr.reach, Block.hold, Block.uplinkLoss]) hs
    rwa [show v.stations = u.stations from same _ (List.mem_singleton_self _)]

end State

end Sys2Proof.Machine
end

section
/-! One OPEN or DISCARDING context per key, and the pending list exact (R51, R67, R68), along every step. -/

namespace Sys2Proof.Machine

namespace State

variable {s u : State}

/-! ### The changes of a context that keep the invariant -/

theorem ContextsSound.of_same (h : s.ContextsSound) (contexts : u.reassembly.contexts = s.reassembly.contexts)
    (pending : u.reassembly.pendingList = s.reassembly.pendingList)
    (state : u.classifier.state = s.classifier.state) : u.ContextsSound where
  keys := contexts ▸ h.keys
  once := pending ▸ h.once
  listed := contexts ▸ pending ▸ h.listed
  taken := contexts ▸ pending ▸ state ▸ h.taken
  held := contexts ▸ pending ▸ state ▸ h.held

/-- A context that is not COMPLETE takes a new body that is not COMPLETE either, with a key that no other has. -/
theorem ContextsSound.put (h : s.ContextsSound) (i : Fin 48) {c : Context}
    (old : ∀ m, s.reassembly.contexts[i].body ≠ .complete m) (new : ∀ m, c.body ≠ .complete m)
    (key : ∀ a ch, c.body.hasKey a ch = true → ∀ j : Fin 48, s.reassembly.contexts[j].body.hasKey a ch = true → j = i)
    (contexts : u.reassembly.contexts = s.reassembly.contexts.set i c)
    (pending : u.reassembly.pendingList = s.reassembly.pendingList)
    (state : u.classifier.state = s.classifier.state) : u.ContextsSound := by
  have at_ : ∀ j : Fin 48, u.reassembly.contexts[j] = if j = i then c else s.reassembly.contexts[j] := fun j => by
    rw [contexts, getElem_set_fin]
  have complete : ∀ (j : Fin 48) m, u.reassembly.contexts[j].body = .complete m ↔
      s.reassembly.contexts[j].body = .complete m := by
    intro j m
    rw [at_]
    split
    · next same => exact iff_of_false (new m) (same ▸ old m)
    · rfl
  refine ⟨fun j k a ch hj hk => ?_, pending ▸ h.once, ?_, ?_, ?_⟩
  · rw [at_] at hj hk
    split at hj <;> split at hk
    · next ej ek => exact ej.trans ek.symm
    · next ej _ => exact ej.trans (key a ch hj k hk).symm
    · next _ ek => exact (key a ch hk j hj).trans ek.symm
    · exact h.keys j k a ch hj hk
  · simpa only [complete, pending] using h.listed
  · simpa only [complete, pending, state] using h.taken
  · simpa only [complete, pending, state] using h.held

/-- R67: a context that was not COMPLETE becomes so and joins the tail of the pending list. -/
theorem ContextsSound.complete (h : s.ContextsSound) (i : Fin 48) {c : Context} {m : Message}
    (old : ∀ m, s.reassembly.contexts[i].body ≠ .complete m) (new : c.body = .complete m)
    (contexts : u.reassembly.contexts = s.reassembly.contexts.set i c)
    (pending : u.reassembly.pendingList = s.reassembly.pendingList ++ [i])
    (state : u.classifier.state = s.classifier.state) : u.ContextsSound := by
  have at_ : ∀ j : Fin 48, u.reassembly.contexts[j] = if j = i then c else s.reassembly.contexts[j] := fun j => by
    rw [contexts, getElem_set_fin]
  have unlisted : i ∉ s.reassembly.pendingList := fun hi => by
    obtain ⟨m', hm⟩ := h.listed i hi
    exact old m' hm
  have keeps : ∀ (j : Fin 48) m', s.reassembly.contexts[j].body = .complete m' →
      u.reassembly.contexts[j].body = .complete m' := by
    intro j m' hj
    rw [at_, if_neg (fun same => old m' (by rw [← same]; exact hj)), hj]
  refine ⟨fun j k a ch hj hk => ?_, ?_, ?_, ?_, ?_⟩
  · rw [at_] at hj hk
    split at hj
    · rw [new] at hj; cases hj
    · split at hk
      · rw [new] at hk; cases hk
      · exact h.keys j k a ch hj hk
  · rw [pending]
    exact h.once.append (List.nodup_singleton i) (by simpa using unlisted)
  · intro j hj
    rw [pending, List.mem_append, List.mem_singleton] at hj
    rcases hj with hj | rfl
    · obtain ⟨m', hm⟩ := h.listed j hj
      exact ⟨m', keeps j m' hm⟩
    · exact ⟨m, by rw [at_, if_pos rfl, new]⟩
  · intro j g hj
    obtain ⟨free, m', hm⟩ := h.taken j g (state ▸ hj)
    refine ⟨?_, m', keeps j m' hm⟩
    rw [pending, List.mem_append, List.mem_singleton]
    rintro (hl | rfl)
    · exact free hl
    · exact old m' hm
  · intro j m' hj
    rw [pending, List.mem_append, List.mem_singleton, state]
    rw [at_] at hj
    split at hj
    · next same => exact .inl (.inr same)
    · rcases h.held j m' hj with hl | hg
      · exact .inl (.inl hl)
      · exact .inr hg

/-! ### The end of contexts -/

theorem ContextsSound.abortToFree (h : s.ContextsSound) {i : Fin 48}
    (old : ∀ m, s.reassembly.contexts[i].body ≠ .complete m) (m : Message) (r : AbortReason) :
    (s.abortToFree i m r).ContextsSound :=
  h.put i (c := { body := .free, lastAbort := r }) old (by simp) (by simp [ContextState.hasKey]) (by simp) (by simp)
    (by simp)

/-- R57, R61, R62: the DISCARDING context has the key of the OPEN one. -/
theorem ContextsSound.abortToDiscarding (h : s.ContextsSound) {i : Fin 48} {m : Message} {e : Seq} {z : U32}
    (old : s.reassembly.contexts[i].body = .opened m e z) (r : AbortReason) :
    (s.abortToDiscarding i m r).ContextsSound :=
  h.put i (c := { body := .discarding m.station m.channel s.gapExpiry, lastAbort := r }) (by rw [old]; nofun) (by simp)
    (fun a ch hk j hj => h.keys j i a ch hj (by rw [old]; exact hk)) (by simp) (by simp) (by simp)

theorem ContextsSound.abortAtCell (h : s.ContextsSound) (last : Bool) {i : Fin 48} {m : Message} {e : Seq} {z : U32}
    (old : s.reassembly.contexts[i].body = .opened m e z) (r : AbortReason) :
    (s.abortAtCell last i m r).ContextsSound := by
  cases last
  · exact h.abortToDiscarding old r
  · exact h.abortToFree (by rw [old]; nofun) m r

theorem ContextsSound.endDiscarding (h : s.ContextsSound) {i : Fin 48}
    (old : ∀ m, s.reassembly.contexts[i].body ≠ .complete m) (a : Addr) (r : AbortReason) :
    (s.endDiscarding i a r).ContextsSound :=
  h.put i (c := { body := .free, lastAbort := r }) old (by simp) (by simp [ContextState.hasKey]) (by simp) (by simp)
    (by simp)

theorem ContextsSound.endContext (h : s.ContextsSound) (r : AbortReason) (i : Fin 48) :
    (s.endContext r i).ContextsSound := by
  unfold State.endContext context
  split
  · next body => exact h.abortToFree (by rw [body]; nofun) _ r
  · next body => exact h.endDiscarding (by rw [body]; nofun) _ r
  · exact h
  · exact h

theorem ContextsSound.endContexts (h : s.ContextsSound) (r : AbortReason) (l : List (Fin 48)) :
    (s.endContexts r l).ContextsSound := by
  induction l generalizing s with
  | nil => exact h
  | cons i l ih => exact ih (h.endContext r i)

theorem ContextsSound.endKeyContext (h : s.ContextsSound) (a : Addr) (ch : Chan) :
    (s.endKeyContext a ch).ContextsSound := by
  unfold State.endKeyContext
  split
  · exact h
  · exact h.endContext _ _

theorem keyFree_of_keyContext {a : Addr} {ch : Chan} (h : s.keyContext a ch = none) : s.KeyFree a ch :=
  fun j => firstPlace_eq_none.1 h j

/-- R56: the start's key is free once the context that had it is ended. -/
theorem ContextsSound.keyFree_endKeyContext (h : s.ContextsSound) (a : Addr) (ch : Chan) :
    (s.endKeyContext a ch).KeyFree a ch := by
  unfold State.endKeyContext
  split
  · next none => exact keyFree_of_keyContext none
  · next i found =>
    have key : s.reassembly.contexts[i].body.hasKey a ch = true := firstPlace_some found
    have others : ∀ c : Context, c.body = .free → ∀ j : Fin 48,
        (s.reassembly.contexts.set i c)[j].body.hasKey a ch = false := by
      intro c hc j
      rw [getElem_set_fin]
      split
      · rw [hc]; rfl
      · next other => simpa using fun hj => other (h.keys j i a ch hj key)
    intro j
    unfold State.endContext context
    split
    · simpa using others { body := .free, lastAbort := .restart } rfl j
    · simpa using others { body := .free, lastAbort := .restart } rfl j
    · next body => rw [body] at key; cases key
    · next body => rw [body] at key; cases key

/-! ### The cells -/

theorem free_of_availableContext {a : Addr} {i : Fin 48} (h : s.availableContext a = some i) :
    s.reassembly.contexts[i].body = .free := by
  simp only [availableContext, Option.ite_none_right_eq_some] at h
  simpa using firstPlace_some h.2

theorem ContextsSound.startMessage (h : s.ContextsSound) (c : AdmittedCell) (whole : Bool)
    (free : s.KeyFree c.source c.channel) : (s.startMessage c whole).ContextsSound := by
  unfold State.startMessage
  split
  · exact h.of_same (by simp [refuseNoContext]) (by simp [refuseNoContext]) (by simp [refuseNoContext])
  · next i available =>
    have body := free_of_availableContext available
    split
    · exact h.of_same (by simp [refuseNoBuffer]) (by simp [refuseNoBuffer]) (by simp [refuseNoBuffer])
    · next ch p _ =>
      cases whole
      · refine h.put i (c := ⟨.opened (startedMessage c ch) (c.sequence + 1) (s.storedPool p).gapExpiry,
          s.reassembly.contexts[i].lastAbort⟩) (by rw [body]; nofun) (by simp) (fun a chan hk j hj => ?_)
          (by simp) (by simp) (by simp)
        simp only [ContextState.hasKey, startedMessage, Bool.and_eq_true, beq_iff_eq] at hk
        obtain ⟨rfl, rfl⟩ := hk
        rw [free j] at hj
        cases hj
      · exact h.complete i (c := { s.reassembly.contexts[i] with body := .complete (startedMessage c ch) })
          (by rw [body]; nofun) rfl (by simp) (by simp) (by simp)

theorem ContextsSound.extendMessage (h : s.ContextsSound) (last : Bool) {i : Fin 48} {m : Message} {e : Seq} {z : U32}
    (old : s.reassembly.contexts[i].body = .opened m e z) (n : Nat) (ch : Chain) :
    (s.extendMessage last i m e n ch).ContextsSound := by
  cases last
  · exact h.put i (c := ⟨.opened { m with byteCount := m.byteCount + n, chain := ch } (e + 1) s.gapExpiry,
      s.reassembly.contexts[i].lastAbort⟩) (by rw [old]; nofun) (by simp)
      (fun a chan hk j hj => h.keys j i a chan hj (by rw [old]; exact hk)) rfl rfl rfl
  · exact h.complete i (c := ⟨.complete { m with byteCount := m.byteCount + n, chain := ch },
      s.reassembly.contexts[i].lastAbort⟩) (by rw [old]; nofun) rfl
      (by simp [State.extendMessage]) (by simp [State.extendMessage]) (by simp [State.extendMessage])

theorem ContextsSound.continueOpen (h : s.ContextsSound) (last : Bool) (c : AdmittedCell) {i : Fin 48} {m : Message}
    {e : Seq} {z : U32} (old : s.reassembly.contexts[i].body = .opened m e z) :
    (s.continueOpen last c i m e).ContextsSound := by
  unfold State.continueOpen
  split
  · split
    · exact h.abortAtCell last old _
    · split
      · exact h.abortAtCell last old _
      · next p _ =>
        exact (h.of_same (u := s.storedPool p) (by simp) (by simp) (by simp)).extendMessage last
          (by simpa using old) _ _
  · split
    · exact h.put i (c := { s.reassembly.contexts[i] with body := .opened m e s.gapExpiry }) (by rw [old]; nofun) (by simp)
        (fun a chan hk j hj => h.keys j i a chan hj (by rw [old]; exact hk)) rfl rfl rfl
    · exact h.abortAtCell last old _

theorem ContextsSound.continueDiscarding (h : s.ContextsSound) (last : Bool) {i : Fin 48} {a : Addr} {ch : Chan}
    {z : U32} (old : s.reassembly.contexts[i].body = .discarding a ch z) :
    (s.continueDiscarding last i a ch).ContextsSound := by
  cases last
  · exact h.put i (c := { s.reassembly.contexts[i] with body := .discarding a ch s.gapExpiry }) (by rw [old]; nofun)
      (by simp) (fun a' ch' hk j hj => h.keys j i a' ch' hj (by rw [old]; exact hk)) rfl rfl rfl
  · exact h.put i (c := { s.reassembly.contexts[i] with body := .free }) (by rw [old]; nofun) (by simp)
      (by simp [ContextState.hasKey]) (by simp [State.continueDiscarding]) (by simp [State.continueDiscarding])
      (by simp [State.continueDiscarding])

theorem ContextsSound.continueMessage (h : s.ContextsSound) (last : Bool) (c : AdmittedCell) :
    (s.continueMessage last c).ContextsSound := by
  unfold State.continueMessage context
  split
  · exact h.of_same (by simp [orphanCell]) (by simp [orphanCell]) (by simp)
  · split
    · next body => exact h.continueOpen last c body
    · next body => exact h.continueDiscarding last body
    · exact h
    · exact h

theorem ContextsSound.takeCell (h : s.ContextsSound) {k : DataKind} {act : AdmittedCell → State → State}
    (own : ∀ c (u : State), u.ContextsSound → (act c u).ContextsSound) : (s.takeCell k act).ContextsSound := by
  unfold State.takeCell
  split
  · split
    · exact own _ _ (h.of_same rfl rfl rfl)
    · exact h
  · exact h
  · exact h

theorem ContextsSound.startCell (h : s.ContextsSound) (c : AdmittedCell) (whole : Bool) :
    ((s.endKeyContext c.source c.channel).startMessage c whole).ContextsSound :=
  (h.endKeyContext _ _).startMessage c whole (h.keyFree_endKeyContext _ _)

theorem ContextsSound.gapTimerExpiry (h : s.ContextsSound) (i : Fin 48) : (s.gapTimerExpiry i).ContextsSound := by
  unfold State.gapTimerExpiry context
  split
  · next body =>
    split
    · exact h.abortToFree (by rw [body]; nofun) _ _
    · exact h
  · next body =>
    split
    · exact h.put i (c := { s.reassembly.contexts[i] with body := .free }) (by rw [body]; nofun) (by simp)
        (by simp [ContextState.hasKey]) (by simp) (by simp) (by simp)
    · exact h
  · exact h
  · exact h

/-! ### The Classifier -/

/-- R68, R76: the head of the pending list leaves it and is under classification. -/
theorem ContextsSound.classifierTake (h : s.ContextsSound) : s.classifierTake.ContextsSound := by
  unfold State.classifierTake
  split
  · next i rest idle list =>
    split
    · exact h
    · split
      · next m body =>
        have once := list ▸ h.once
        refine ⟨h.keys, once.tail, fun j hj => h.listed j (by simp [list, show j ∈ rest from hj]), ?_, ?_⟩
        · intro j g hj
          obtain ⟨rfl, -⟩ := ClassifierState.classifying.inj hj
          exact ⟨(List.nodup_cons.1 once).1, m, body⟩
        · intro j m' hj
          rcases h.held j m' hj with hl | ⟨g, hg⟩
          · rw [list] at hl
            rcases List.mem_cons.1 hl with rfl | hl
            · exact .inr ⟨_, rfl⟩
            · exact .inl hl
          · rw [idle] at hg
            cases hg
      · exact h
      · exact h
      · exact h
  · exact h
  · exact h

/-- R91: the context under classification becomes FREE, and the Classifier IDLE. -/
theorem ContextsSound.endClassification (h : s.ContextsSound) {i : Fin 48} {g : Gathered}
    (state : s.classifier.state = .classifying i g) (idle : u.classifier.state = .idle)
    (contexts : u.reassembly.contexts = s.reassembly.contexts.set i { s.reassembly.contexts[i] with body := .free })
    (pending : u.reassembly.pendingList = s.reassembly.pendingList) : u.ContextsSound := by
  have unlisted := (h.taken i g state).1
  have at_ : ∀ j : Fin 48, u.reassembly.contexts[j].body =
      if j = i then .free else s.reassembly.contexts[j].body := fun j => by
    rw [contexts, getElem_set_fin]
    split <;> rfl
  refine ⟨fun j k a ch hj hk => ?_, pending ▸ h.once, fun j hj => ?_, fun j g' hj => ?_, fun j m hj => ?_⟩
  · rw [at_] at hj hk
    split at hj
    · cases hj
    · split at hk
      · cases hk
      · exact h.keys j k a ch hj hk
  · rw [pending] at hj
    rw [at_, if_neg (fun same => unlisted (by rw [← same]; exact hj))]
    exact h.listed j hj
  · rw [idle] at hj
    cases hj
  · rw [at_] at hj
    split at hj
    · cases hj
    · next other =>
      rcases h.held j m hj with hl | ⟨g', hg⟩
      · exact .inl (pending ▸ hl)
      · rw [state] at hg
        exact absurd (ClassifierState.classifying.inj hg).1.symm other

theorem ContextsSound.classificationEnd (h : s.ContextsSound) : s.classificationEnd.ContextsSound := by
  unfold State.classificationEnd
  split
  · exact h
  · next i g state =>
    split
    · split
      · exact h.endClassification state rfl (by simp [endEvaluated]) (by simp [endEvaluated])
      · exact h.endClassification state rfl (by simp [endDamaged]) (by simp [endDamaged])
    · exact h
    · exact h
    · exact h

/-! ### The other commands -/

theorem ContextsSound.trunkLoss (h : s.ContextsSound) : s.trunkLoss.ContextsSound := by
  unfold State.trunkLoss
  split
  · exact h
  · have posted : ((s.changeRx fun x => { x with link := .down }).post .trunkDown 0).ContextsSound :=
      h.of_same (by simp) (by simp) (by simp)
    exact (posted.endContexts .trunkLoss (List.finRange 48)).of_same (by simp) (by simp) (by simp)

theorem ContextsSound.removalWork (h : s.ContextsSound) : s.removalWork.ContextsSound := by
  unfold State.removalWork
  split
  · next stations rest _ =>
    have streamed : (s.withStream rest).ContextsSound := h.of_same rfl rfl rfl
    exact (streamed.endContexts .flushed (s.removedContexts stations)).of_same (by simp) (by simp) (by simp)
  · exact h
  · exact h

/-- R74, R99: after SOFT RESTART every context is FREE, no context is listed and the Classifier is IDLE. -/
theorem contextsSound_restartParts (s : State) : s.restartParts.ContextsSound := by
  have idle : s.restartParts.classifier.state = .idle := by simp [restartParts, restartReassembly]
  have pending : s.restartParts.reassembly.pendingList = [] := by simp [restartParts, restartReassembly]
  have free : ∀ i : Fin 48, s.restartParts.reassembly.contexts[i].body = .free := fun i => by
    simp [restartParts, restartReassembly, Context.restart]
  exact ⟨fun i j a ch hi => (by rw [free] at hi; cases hi), by simp [pending], by simp [pending],
    fun i g hi => (by rw [idle] at hi; cases hi), fun i m hi => (by rw [free] at hi; cases hi)⟩

theorem contextsSound_reset : State.reset.ContextsSound := by
  have free : ∀ i : Fin 48, State.reset.reassembly.contexts[i].body = .free := fun i => by
    simp [State.reset, Context.fresh]
  exact ⟨fun i j a ch hi => (by rw [free] at hi; cases hi), .nil, fun i hi => (nomatch hi), fun i g hi => (nomatch hi),
    fun i m hi => (by rw [free] at hi; cases hi)⟩

theorem ContextsSound.clearGroup (h : s.ContextsSound) (g : Group) : (s.clearGroup g).ContextsSound := by
  cases g <;> exact h.of_same rfl rfl rfl

theorem ContextsSound.readCounters (h : s.ContextsSound) (t : Fin 4) (r : Request) :
    (State.readCounters t r s).1.ContextsSound := by
  unfold State.readCounters
  split
  · exact h
  · dsimp only
    split
    · exact h
    · split
      · exact h.clearGroup _
      · exact h

theorem ContextsSound.clearCounters (h : s.ContextsSound) (t : Fin 4) (r : Request) :
    (State.clearCounters t r s).1.ContextsSound := by
  unfold State.clearCounters
  split
  · exact h
  · exact h.clearGroup _

theorem ContextsSound.take (h : s.ContextsSound) {body : Execution}
    (own : ∀ t r (u : State), u.ContextsSound → (body t r u).1.ContextsSound) (k : RequestKind) :
    (s.take k body).ContextsSound :=
  takeRequest_rel (R := fun s u => s.ContextsSound → u.ContextsSound) (fun _ h => h) (fun h h' x => h' (h x))
    (fun _ _ h => h.of_same rfl rfl rfl) own k _ s h

theorem ContextsSound.after (h : s.ContextsSound) (c : Instr) : (s.after c).ContextsSound := by
  cases c with
  | powerOn => exact contextsSound_reset.of_same rfl rfl rfl
  | trunkLoss => exact h.trunkLoss
  | dataOnly => exact h.takeCell fun c u hu => hu.startCell c true
  | dataFirst => exact h.takeCell fun c u hu => hu.startCell c false
  | dataMiddle => exact h.takeCell fun c u hu => hu.continueMessage false c
  | dataLast => exact h.takeCell fun c u hu => hu.continueMessage true c
  | gapTimerExpiry i => exact h.gapTimerExpiry i
  | classifierTake => exact h.classifierTake
  | classificationEnd => exact h.classificationEnd
  | removalWork => exact h.removalWork
  | softRestart => exact h.take (fun _ _ u _ => contextsSound_restartParts u) _
  | readCounters => exact h.take (fun t r u hu => hu.readCounters t r) _
  | clearCounters => exact h.take (fun t r u hu => hu.clearCounters t r) _
  | _ =>
    refine keeps_after [.reassemblyUnit, .classifier] (fun u v same hu => ?_) (by simp [reachOfAny, Instr.reach,
      Block.hold, Block.uplinkLoss]) h
    have reassembly : v.reassembly = u.reassembly := same .reassemblyUnit (by simp)
    have classifier : v.classifier = u.classifier := same .classifier (by simp)
    exact hu.of_same (by rw [reassembly]) (by rw [reassembly]) (by rw [classifier])

end State

/-- Settles O56: an entry is made for a legal address that has none; a context changes its key or becomes COMPLETE by
the few changes above. -/
theorem stepKeepsStationsAndContextsSound : Obligations.StepKeepsStationsAndContextsSound :=
  ⟨fun _ _ hs h => step_keeps (P := fun s => s.stations.Sound) (fun _ _ h => h) (fun _ h => State.Sound.advance h)
      (fun c _ h => State.Sound.after h c) hs h,
    fun _ _ hs h => step_keeps (P := State.ContextsSound) (fun _ _ h => h.of_same rfl rfl rfl)
      (fun _ h => h.of_same rfl rfl rfl) (fun c _ h => h.after c) hs h⟩

end Sys2Proof.Machine
end

section
/-! The Event Unit's own claims (chapter 10): what a posting records and when it makes a frame due, the coalescing timer,
and the two requests that set and flush the slots. -/

namespace Sys2Proof.Machine

/-- R171: a 16-bit count goes up to 65,535. -/
theorem satInc_u16 (c : U16) : satInc c = if c = 65535 then 65535 else c + 1 := by
  have hall : BitVec.allOnes 16 = 65535 := rfl
  rw [satInc, hall]
  split
  · next h => exact h
  · rfl

theorem toNat_satInc_u16 {c : U16} (h : c ≠ 65535) : (satInc c).toNat = c.toNat + 1 := by
  rw [satInc_u16, if_neg h]
  bv_omega

/-- A sum over a table after a change of one place. -/
theorem sum_map_set {α : Type} {n : Nat} (f : α → Nat) (v : Vector α n) (i : Fin n) (x : α) :
    ((v.set i x).toList.map f).sum + f v[i] = (v.toList.map f).sum + f x := by
  have list : ∀ (l : List α) (j : Nat) (h : j < l.length),
      ((l.set j x).map f).sum + f l[j] = (l.map f).sum + f x := by
    intro l
    induction l with
    | nil => intro j h; cases h
    | cons a l ih =>
      intro j h
      cases j with
      | zero => simp; omega
      | succ j =>
        have := ih j (by simpa using h)
        simp only [List.set_cons_succ, List.map_cons, List.sum_cons, List.getElem_cons_succ]
        omega
  simpa [Vector.toList_set] using list v.toList i.val (by simp)

namespace EventUnit

variable {e : EventUnit} {p : Params} {k : EventKind} {detail : U16} {i : Fin 22}

/-- R170: the slot sum after a change of one slot. -/
theorem sum_set (e : EventUnit) (i : Fin 22) (x : EventSlot) :
    EventUnit.sum { e with slots := e.slots.set i x } + e.slots[i].count.toNat = e.sum + x.count.toNat :=
  sum_map_set (fun y : EventSlot => y.count.toNat) e.slots i x

/-- R170: a slot that counts makes the sum positive. -/
theorem count_le_sum (e : EventUnit) (i : Fin 22) : e.slots[i].count.toNat ≤ e.sum := by
  have := e.sum_set i { e.slots[i] with count := 0 }
  simp at this ⊢
  omega

/-- R171: the unit with a posting of `k` recorded in its slot. -/
def recorded (k : EventKind) (detail : U16) (e : EventUnit) : EventUnit :=
  { e with slots := e.slots.set k.slot (e.slots[k.slot].record e.timebase detail) }

theorem post_of_disabled (off : e.slots[k.slot].enabled = false) (inFlight : Bool) :
    e.post inFlight p k detail = e := by
  simp only [post, off, Bool.false_eq_true, if_false]

/-- R171, R172: with a frame in flight, or without a change of the count, a posting is recorded only. -/
theorem post_of_recorded (on : e.slots[k.slot].enabled = true) {inFlight : Bool}
    (quiet : inFlight = true ∨ e.slots[k.slot].count = 65535) :
    e.post inFlight p k detail = e.recorded k detail := by
  have silent : (inFlight || e.slots[k.slot].count == BitVec.allOnes 16) = true := by
    rcases quiet with rfl | full
    · rfl
    · rw [full, Bool.or_eq_true]
      exact .inr rfl
  simp only [post, on, silent, if_true]
  rfl

/-- R170, R171: a posting that changes the count changes the sum by 1. -/
theorem sum_recorded (room : e.slots[k.slot].count ≠ 65535) : (e.recorded k detail).sum = e.sum + 1 := by
  have total := e.sum_set k.slot (e.slots[k.slot].record e.timebase detail)
  have count : (e.slots[k.slot].record e.timebase detail).count.toNat = e.slots[k.slot].count.toNat + 1 :=
    toNat_satInc_u16 room
  have same : (e.recorded k detail).sum =
    EventUnit.sum { e with slots := e.slots.set k.slot (e.slots[k.slot].record e.timebase detail) } := rfl
  omega

/-- R172: with no frame in flight a posting that changes the count may start the timer and may make a frame due. -/
theorem post_of_counted (on : e.slots[k.slot].enabled = true) (room : e.slots[k.slot].count ≠ 65535) :
    e.post false p k detail = { e.recorded k detail with
      timer := if e.sum = 0 then some (e.coalesceExpiry p) else e.timer
      due := e.due || decide (p.coalesceCount ≤ e.sum + 1) } := by
  have counts : (false || e.slots[k.slot].count == BitVec.allOnes 16) = false := by
    rw [Bool.false_or, beq_eq_false_iff_ne]
    exact room
  rw [← sum_recorded (detail := detail) room]
  simp only [post, on, counts, if_true, Bool.false_eq_true, if_false, testCount]
  split <;> rfl

/-- R173: the unit with slot `i` disabled, its count and subtraction at 0. -/
def silenced (i : Fin 22) (e : EventUnit) : EventUnit :=
  { e with slots := e.slots.set i { e.slots[i] with enabled := false, count := 0, subPending := 0 } }

theorem sum_silenced (e : EventUnit) (i : Fin 22) : (e.silenced i).sum + e.slots[i].count.toNat = e.sum :=
  e.sum_set i { e.slots[i] with enabled := false, count := 0, subPending := 0 }

/-- R173: disabling an enabled slot; the sum falls to 0 exactly if this slot was all of it. -/
theorem disable_eq (on : e.slots[i].enabled = true) :
    let empties := decide (e.sum = e.slots[i].count.toNat ∧ e.slots[i].count ≠ 0)
    e.disable i = { e.silenced i with due := e.due && !empties, timer := if empties then none else e.timer } := by
  intro empties
  have total := e.sum_silenced i
  have count : e.slots[i].count ≠ 0 ↔ 0 < e.slots[i].count.toNat := by
    rw [Nat.pos_iff_ne_zero, ne_eq, ne_eq, ← BitVec.toNat_inj]
    rfl
  have falls : (0 < e.sum ∧ (e.silenced i).sum = 0) ↔ empties = true := by
    rw [decide_eq_true_iff, count]
    omega
  have split : e.disable i = if 0 < e.sum ∧ (e.silenced i).sum = 0 then
      { e.silenced i with due := false, timer := none } else e.silenced i := by
    simp only [disable, on, if_true]
    rfl
  rw [split]
  by_cases h : empties = true
  · rw [if_pos (falls.2 h), h]
    simp
  · rw [if_neg (mt falls.1 h), eq_false_of_ne_true h]
    simp [silenced]

theorem disable_of_disabled (off : e.slots[i].enabled = false) : e.disable i = e := by
  simp only [disable, off, Bool.false_eq_true, if_false]

end EventUnit

/-! ### The requests -/

theorem Request.slot_of_eq {r : Request} {j : Nat} {i : Fin 22} (h : (byteAt r.args j).toNat = i.val + 1) :
    r.slot j = some i := by
  have inTable : 1 ≤ (r.byte j).toNat ∧ (r.byte j).toNat ≤ 22 := by
    have := i.isLt
    show 1 ≤ (byteAt r.args j).toNat ∧ (byteAt r.args j).toNat ≤ 22
    omega
  rw [Request.slot, dif_pos inTable]
  exact congrArg some (Fin.ext (by show (byteAt r.args j).toNat - 1 = i.val; omega))

theorem Request.slot_of_out {r : Request} {j : Nat} (h : byteAt r.args j = 0 ∨ 22 < (byteAt r.args j).toNat) :
    r.slot j = none := by
  refine dif_neg fun inTable => ?_
  have low : 1 ≤ (byteAt r.args j).toNat := inTable.1
  have high : (byteAt r.args j).toNat ≤ 22 := inTable.2
  rcases h with zero | big
  · rw [zero] at low
    exact absurd low (by decide)
  · omega

namespace State

variable {s : State} {t : Fin 4} {r : Request} {i : Fin 22}

theorem setEvents_of_bad (h : byteAt r.args 0 = 0 ∨ 22 < (byteAt r.args 0).toNat ∨ 1 < (byteAt r.args 1).toNat) :
    State.setEvents t r s = s.reply .badValue := by
  unfold State.setEvents
  split
  · rfl
  · next i found =>
    have value : 1 < (r.byte 1).toNat := by
      rcases h with zero | big | value
      · rw [Request.slot_of_out (.inl zero)] at found; cases found
      · rw [Request.slot_of_out (.inr big)] at found; cases found
      · exact value
    rw [if_neg (fun e => by rw [e] at value; exact absurd value (by decide)),
      if_neg (fun e => by rw [e] at value; exact absurd value (by decide))]

theorem setEvents_of_enable (slot : (byteAt r.args 0).toNat = i.val + 1) (on : byteAt r.args 1 = 1) :
    State.setEvents t r s = (s.withEvents (s.events.enable i)).reply .ok := by
  simp only [State.setEvents, Request.slot_of_eq slot]
  exact if_pos on

theorem setEvents_of_disable (slot : (byteAt r.args 0).toNat = i.val + 1) (off : byteAt r.args 1 = 0) :
    State.setEvents t r s = (s.withEvents (s.events.disable i)).reply .ok := by
  have notOn : r.byte 1 ≠ 1 := fun e => absurd (off.symm.trans e) (by decide)
  simp only [State.setEvents, Request.slot_of_eq slot, notOn, if_false]
  exact if_pos off

theorem exec_setEvents {u : EventUnit} (h : s.Passes t .setEvents r)
    (hb : ∀ m, State.setEvents t r (s.withManagement m) = ((s.withManagement m).withEvents u).reply .ok) :
    exec .setEvents s = .next ((s.withEvents u).answered t r .ok []) :=
  congrArg Host.Outcome.next (take_of_reply_withManagement h (u := s.withEvents u) hb rfl)

/-- R174, R155: the step that answers a FLUSH_EVENTS. -/
theorem exec_flushEvents (h : s.Passes t .flushEvents r) : exec .flushEvents s =
    .next ((s.withEvents (s.events.flush s.uplink.lane.isEvent)).answered t r .ok []) :=
  congrArg Host.Outcome.next (take_of_reply_withManagement h
    (u := s.withEvents (s.events.flush s.uplink.lane.isEvent)) (fun _ => rfl) rfl)

end State

/-- Settles O28: the posting in its three outcomes, and the timer at and before its expiry. -/
theorem postingsAreCoalesced : Obligations.PostingsAreCoalesced := by
  refine ⟨fun s k detail => ?_, fun s z running => ⟨fun due => ?_, fun early => ?_⟩⟩
  · intro x recorded
    have same : recorded = s.events.recorded k detail := by
      simp only [recorded, EventUnit.recorded, EventSlot.record, satInc_u16]
      rfl
    refine ⟨fun off => ?_, fun on quiet => ?_, fun on lane room => ?_⟩
    · exact congrArg s.withEvents (EventUnit.post_of_disabled off _)
    · exact congrArg s.withEvents (same ▸ EventUnit.post_of_recorded on quiet)
    · rw [State.post, lane, EventUnit.post_of_counted on room, same]
      rfl
  · refine congrArg Host.Outcome.next (congrArg s.withEvents ?_)
    simp only [EventUnit.expire, running, due, if_true]
  · refine congrArg Host.Outcome.next (congrArg s.withEvents ?_)
    simp only [EventUnit.expire, running, early, Bool.false_eq_true, if_false]

/-- Settles O29: a bad argument only replies; the slot that the argument names is enabled or disabled; a flush makes a
frame due, finds nothing, or is noted. -/
theorem eventSlotsAreSetAndFlushed : Obligations.EventSlotsAreSetAndFlushed := by
  refine ⟨fun s t r h => ⟨fun bad => ?_, fun i slot => ⟨fun on => ?_, fun off disabled => ?_, fun off enabled => ?_⟩⟩,
    fun s t r h => ⟨fun lane some => ?_, fun lane none => ?_, fun lane => ?_⟩⟩
  · exact congrArg Host.Outcome.next (State.take_of_reply h (State.setEvents_of_bad bad))
  · exact State.exec_setEvents h fun _ => State.setEvents_of_enable slot on
  · have same := State.exec_setEvents h (u := s.events.disable i) fun _ => State.setEvents_of_disable slot off
    rwa [EventUnit.disable_of_disabled disabled] at same
  · rw [State.exec_setEvents h (u := s.events.disable i) fun _ => State.setEvents_of_disable slot off]
    rw [EventUnit.disable_eq enabled]
    rfl
  · rw [State.exec_flushEvents h, lane]
    simp [EventUnit.flush, some]
  · rw [State.exec_flushEvents h, lane]
    simp [EventUnit.flush, none]
  · rw [State.exec_flushEvents h, lane]
    rfl

end Sys2Proof.Machine
end

section
/-! Hold Control and the Trunk Transmitter (chapters 8 and 1.5): the evaluation by the table of R142, the refresh timer,
and what a request for a cell and the end of a transmission do. -/

namespace Sys2Proof.Machine

namespace State

variable {s : State} {z : U32}

/-! ### The Trunk Transmitter -/

theorem transmit_of_down (down : s.trunkRx.link = .down) (c : TxCell) : s.transmit c = s := by
  simp only [transmit, down]

theorem transmit_of_idle (up : s.trunkRx.link = .up) (idle : s.trunkTx.inFlight = none) (c : TxCell) :
    s.transmit c = s.withTrunkTx { s.trunkTx with inFlight := some c } := by
  simp only [transmit, up, idle]

theorem transmit_of_busy (up : s.trunkRx.link = .up) (busy : s.trunkTx.inFlight ≠ none) (c : TxCell) :
    s.transmit c = s.withTrunkTx { s.trunkTx with slot := some c } := by
  obtain ⟨d, hd⟩ := Option.ne_none_iff_exists'.1 busy
  simp only [transmit, up, hd]

theorem cellTransmissionEnd_of_up {c : TxCell} (sending : s.trunkTx.inFlight = some c) (up : s.trunkRx.link = .up) :
    s.cellTransmissionEnd = s.sentCell c := by
  simp only [cellTransmissionEnd, sending, up]

theorem cellTransmissionEnd_of_down {c : TxCell} (sending : s.trunkTx.inFlight = some c)
    (down : s.trunkRx.link = .down) : s.cellTransmissionEnd = s.dropTransmission := by
  simp only [cellTransmissionEnd, sending, down]

/-! ### The evaluation of R142 -/

theorem evaluateHold_of_below (quiet : s.hold.mode = .quiet) (up : s.trunkRx.link = .up)
    (below : s.hold.lastFree < s.params.hOn) : s.evaluateHold = s.beginHold := by
  simp only [evaluateHold, up, quiet, below, if_true]

theorem evaluateHold_of_enough (quiet : s.hold.mode = .quiet) (enough : s.params.hOn ≤ s.hold.lastFree) :
    s.evaluateHold = s := by
  cases up : s.trunkRx.link <;> simp only [evaluateHold, up, quiet, Nat.not_lt.2 enough, if_false]

theorem evaluateHold_of_quiet_down (quiet : s.hold.mode = .quiet) (down : s.trunkRx.link = .down) :
    s.evaluateHold = s := by
  simp only [evaluateHold, down, quiet]

theorem evaluateHold_of_above (holding : s.hold.mode = .holding z) (up : s.trunkRx.link = .up)
    (above : s.params.hOff ≤ s.hold.lastFree) : s.evaluateHold = s.endHold := by
  simp only [evaluateHold, up, holding, above, if_true]

theorem evaluateHold_of_still_low (holding : s.hold.mode = .holding z) (up : s.trunkRx.link = .up)
    (low : s.hold.lastFree < s.params.hOff) : s.evaluateHold = s := by
  simp only [evaluateHold, up, holding, Nat.not_le.2 low, if_false]

theorem evaluateHold_of_holding_down (holding : s.hold.mode = .holding z) (down : s.trunkRx.link = .down) :
    s.evaluateHold = s.withHold { s.hold with mode := .quiet } := by
  simp only [evaluateHold, down, holding]

/-! ### The refresh timer -/

theorem refreshTimerExpiry_of_quiet (quiet : s.hold.mode = .quiet) : s.refreshTimerExpiry = s := by
  simp only [refreshTimerExpiry, quiet]

theorem refreshTimerExpiry_of_reached (holding : s.hold.mode = .holding z)
    (due : reached s.events.timebase z = true) : s.refreshTimerExpiry =
      (s.withHold { s.hold with mode := .holding (s.refreshExpiry s.params.holdDuration) }).requestHold
        s.params.holdDuration := by
  simp only [refreshTimerExpiry, holding, now, due, if_true]

theorem refreshTimerExpiry_of_early (holding : s.hold.mode = .holding z)
    (early : reached s.events.timebase z = false) : s.refreshTimerExpiry = s := by
  simp only [refreshTimerExpiry, holding, now, early, Bool.false_eq_true, if_false]

end State

/-- Settles O24: a request for a cell by the state of the link and the lane, and the end of a transmission by the
link. -/
theorem trunkTransmitterSendsItsCells : Obligations.TrunkTransmitterSendsItsCells := by
  refine ⟨fun s c => ⟨fun down => State.transmit_of_down down c, fun up idle => State.transmit_of_idle up idle c,
    fun up busy => State.transmit_of_busy up busy c⟩, fun s c sending => ⟨fun up => ?_, fun down => ?_⟩⟩
  · refine congrArg Host.Outcome.next ((State.cellTransmissionEnd_of_up sending up).trans ?_)
    cases c <;> rfl
  · exact congrArg Host.Outcome.next (State.cellTransmissionEnd_of_down sending down)

/-- Settles O25: the rows of the table of R142, the lock report, and the refresh timer. -/
theorem holdIsEvaluatedAndRefreshed : Obligations.HoldIsEvaluatedAndRefreshed := by
  refine ⟨fun s => ?_, fun s => ⟨fun down => ?_, fun up => ?_, fun z holding due => ?_, fun z holding early => ?_,
    fun quiet => ?_⟩⟩
  · intro source d refresh f
    refine ⟨fun quiet up below => State.evaluateHold_of_below quiet up below,
      fun quiet _ enough => State.evaluateHold_of_enough quiet enough,
      fun quiet down => State.evaluateHold_of_quiet_down quiet down,
      fun z holding up above => State.evaluateHold_of_above holding up above,
      fun z holding up low => State.evaluateHold_of_still_low holding up low,
      fun z holding down => State.evaluateHold_of_holding_down holding down, rfl⟩
  · refine congrArg Host.Outcome.next ?_
    simp only [State.trunkUp, down]
    rfl
  · refine congrArg Host.Outcome.next ?_
    simp only [State.trunkUp, up]
  · exact congrArg Host.Outcome.next (State.refreshTimerExpiry_of_reached holding due)
  · exact congrArg Host.Outcome.next (State.refreshTimerExpiry_of_early holding early)
  · exact congrArg Host.Outcome.next (State.refreshTimerExpiry_of_quiet quiet)

end Sys2Proof.Machine
end

section
/-! POWER-ON, the catalogue of requests, the refusals of R156, and the tests of R84: the statements that a look at the
definitions settles, and the fact that a take of a request is of one that is due. -/

namespace Sys2Proof.Machine

/-- Settles O5: the state after POWER-ON is the reset state, whose values are read off. -/
theorem powerOnRestoresEveryValue : Obligations.PowerOnRestoresEveryValue := by
  refine fun s => ⟨s.powerOn, rfl, rfl, rfl, fun i => ?_, rfl, rfl, rfl, rfl, ?_, rfl, fun i => ?_, rfl, rfl, rfl, rfl,
    fun i => ?_, rfl, fun i => ?_, rfl, fun i => ?_, rfl, fun q => ?_, rfl, rfl, rfl, rfl, rfl, rfl, rfl, rfl, ?_,
    rfl, rfl, rfl, rfl, fun i => ?_, rfl⟩
  · simp [State.powerOn, State.reset]
  · simp only [State.powerOn, State.reset, State.withPending_pool, BlockPool.fresh]
  · simp [State.powerOn, State.reset, Context.fresh]
  · simp [State.powerOn, State.reset, Program.powerOn]
  · simp [State.powerOn, State.reset, Program.powerOn, Clause.blank]
  · simp [State.powerOn, State.reset]
  · simp [State.powerOn, State.reset, Queue.fresh]
  · exact fun
      | 0 => rfl
      | 1 => rfl
      | 2 => rfl
      | 3 => rfl
  · simp [State.powerOn, State.reset, EventSlot.fresh]

/-- Settles O40: the property codes one by one, and the comparison codes one by one. -/
theorem testsReadTheirPropertyAndCompareUnderTheMask : Obligations.TestsReadTheirPropertyAndCompareUnderTheMask := by
  refine ⟨fun x => ⟨rfl, rfl, rfl, rfl, rfl, rfl, rfl, rfl, rfl, rfl⟩, fun p o m => ⟨?_, ?_, ?_, ?_⟩⟩
  all_goals rw [compareMasked_iff]
  · simp only [comparisonPasses, BitVec.toNat_inj]
    simp
  · simp only [comparisonPasses, ne_eq, BitVec.toNat_inj]
    simp
  · simp [comparisonPasses]
  · simp [comparisonPasses]

/-- Settles O6: the rows of the catalogue are checked one by one. -/
theorem catalogueOfRequests : Obligations.CatalogueOfRequests := by
  refine ⟨by decide, fun x hx r args notCounters => ?_, fun r args => rfl, fun b unknown => requestKind_eq_none unknown⟩
  have rows : ∀ x ∈ catalogue, ∀ r : Rights, x.kind ≠ .readCounters → x.kind.allowedBy args r = x.right r := by
    simp [catalogue, RequestKind.allowedBy]
  exact rows x hx r notCounters

/-! ### A take is of a request that is due -/

theorem code_of_requestKind {b : Byte} {k : RequestKind} (h : requestKind b = some k) : b = k.code :=
  (by simpa using List.find?_some h : k.code = b).symm

theorem tag_of_sessionTag {b : Byte} {t : Fin 4} (h : sessionTag b = some t) : b.toNat = t.val := by
  rw [sessionTag] at h
  split at h
  · rw [← Option.some.inj h]
  · nomatch h

namespace State

variable {s : State} {t : Fin 4} {k : RequestKind} {r : Request}

/-- R155: whatever is taken waits. -/
theorem waits_of_nextTake (h : s.nextTake ≠ .nothing) : ∃ r, s.Waits r ∧ s.nextTake = s.classify r := by
  cases unit : s.management.unit with
  | executing _ _ _ => simp [nextTake, unit] at h
  | idle =>
    cases fifo : s.management.fifo with
    | nil => simp [nextTake, unit, fifo] at h
    | cons r rest =>
      by_cases room : s.management.responses.length < s.responseLimit
      · refine ⟨r, ⟨⟨unit, room⟩, by rw [fifo]; rfl⟩, ?_⟩
        simp only [nextTake, unit, fifo, room, if_true]
      · simp [nextTake, unit, fifo, room] at h

/-- R156 steps 1 to 3: a request that is taken to be carried out is due. -/
theorem due_of_nextTake (h : s.nextTake = .request t k r) : s.Due t k r := by
  obtain ⟨x, waits, take⟩ := waits_of_nextTake (by rw [h]; nofun)
  rw [h, classify] at take
  cases tag : sessionTag x.tag with
  | none => simp [tag] at take
  | some u =>
    by_cases again : s.management.sessions[u].lastSequence = some x.sequence
    · simp only [tag, session, again, if_true, reduceCtorEq] at take
    · cases kind : requestKind x.kind with
      | none => simp only [tag, session, again, if_false, kind, reduceCtorEq] at take
      | some k' =>
        simp only [tag, session, again, if_false, kind, Take.request.injEq] at take
        obtain ⟨rfl, rfl, rfl⟩ := take
        exact ⟨waits.1, waits.2, tag_of_sessionTag tag, again, code_of_requestKind kind⟩

end State

/-! ### The row of a request -/

/-- R156: the row that carries a request out takes it, by some part of its block. -/
theorem exec_command (k : RequestKind) (r : Request) (s : State) :
    ∃ (applies : Request → Bool) (body : Execution),
      exec (k.command r) s = .next (s.takeRequest k applies body) ∧ applies r = true := by
  cases k with
  | readClause =>
    by_cases staging : r.byte 0 = 1
    · exact ⟨Request.selectsStaging, State.readClauseStaging, by rw [RequestKind.command, if_pos staging]; rfl,
        by simp [Request.selectsStaging, staging]⟩
    · exact ⟨fun r => !r.selectsStaging, State.readClauseActive, by rw [RequestKind.command, if_neg staging]; rfl,
        by simpa [Request.selectsStaging] using staging⟩
  | _ => exact ⟨fun _ => true, _, rfl, rfl⟩

/-- Settles O7: a refusal of R156 does not depend on what the block would do; and a row takes only a request that is
due for its kind. -/
theorem requestsRefusedBeforeTheirBlock : Obligations.RequestsRefusedBeforeTheirBlock := by
  refine ⟨fun s t k r due => ?_, fun s k r blocked => ?_⟩ <;> obtain ⟨applies, body, row, hr⟩ := exec_command k r s <;>
    rw [row]
  · exact ⟨fun refused => congrArg _ (State.takeRequest_noRight due refused hr body),
      fun right length => congrArg _ (State.takeRequest_badArg due right length hr body)⟩
  · refine congrArg _ (State.takeRequest_other fun t x take => ?_)
    have due := State.due_of_nextTake take
    obtain full | empty | ⟨y, head, other⟩ := blocked
    · exact absurd due.canTake full
    · exact absurd due.head (by simp [empty])
    · obtain rfl : y = x := Option.some.inj (head.symm.trans due.head)
      obtain above | ⟨u, tag, again⟩ | ⟨k', kind, ne⟩ := other
      · exact absurd due.tag (by omega)
      · obtain rfl : u = t := Fin.ext (tag.symm.trans due.tag)
        exact absurd again due.fresh
      · have same : some k' = some k := by
          rw [← requestKind_code k', ← kind, due.kind, requestKind_code]
        exact absurd (Option.some.inj same) ne

end Sys2Proof.Machine
end

section
/-! The parameters by number (R161, R162): the list of the parameters, the range of each number, and that SET_PARAM
replaces the one value that its number names. -/

namespace Sys2Proof.Machine

/-! ### The list of the parameters -/

/-- R161: the parameters 1 to 12 with their numbers. -/
def Params.single (p : Params) : List (Nat × Nat) :=
  [(1, p.trunkAddress.toNat), (2, if p.learning then 1 else 0), (3, p.defaultTag.toNat), (4, p.ageLimit.toNat),
   (5, p.gapLimit), (6, p.maxLength), (7, p.contextsPerStation), (8, p.hOn), (9, p.hOff),
   (10, p.holdDuration.toNat), (11, p.coalesceCount), (12, p.coalesceTime)]

/-- R161: the parameters of the eight queues, numbered from `b` on. -/
def perQueue (b : Nat) (w : Vector Nat 8) : List (Nat × Nat) := (List.finRange 8).map fun q => (b + q.val, w[q])

theorem Params.listed_eq (p : Params) : p.listed = p.single ++ perQueue 16 p.weights ++ perQueue 24 p.blockLimits := rfl

/-- The value of number `n` replaced by `v`. -/
def replaceAt (n v : Nat) (x : Nat × Nat) : Nat × Nat := if x.1 = n then (n, v) else x

theorem map_replaceAt_of_absent {n : Nat} {l : List (Nat × Nat)} (absent : ∀ x ∈ l, x.1 ≠ n) (v : Nat) :
    l.map (replaceAt n v) = l := by
  refine (List.map_congr_left fun x hx => ?_).trans (List.map_id l)
  exact if_neg (absent x hx)

theorem ne_of_mem_perQueue {b n : Nat} {w : Vector Nat 8} (apart : n < b ∨ b + 8 ≤ n) :
    ∀ x ∈ perQueue b w, x.1 ≠ n := by
  intro x hx
  obtain ⟨q, -, rfl⟩ := List.mem_map.1 hx
  show b + q.val ≠ n
  omega

theorem ne_of_mem_single {p : Params} {n : Nat} (h : 12 < n) : ∀ x ∈ p.single, x.1 ≠ n := by
  intro x hx
  have small : x.1 ≤ 12 := (by decide : ∀ k ∈ [1, 2, 3, 4, 5, 6, 7, 8, 9, 10, 11, 12], k ≤ 12) x.1
    (List.mem_map_of_mem (f := Prod.fst) hx)
  omega

theorem map_replaceAt_perQueue (b v : Nat) (w : Vector Nat 8) (q : Fin 8) :
    (perQueue b w).map (replaceAt (b + q.val) v) = perQueue b (w.set q v) := by
  rw [perQueue, List.map_map]
  refine List.map_congr_left fun j _ => ?_
  by_cases h : j = q
  · simp [replaceAt, h]
  · have hv : j.val ≠ q.val := fun e => h (Fin.ext e)
    simp [replaceAt, hv, Vector.getElem_set_ne, hv.symm]

namespace Params

variable {p x : Params} {n v : Nat}

/-- R161: a parameter 1 to 12 is replaced, the queue parameters staying. -/
theorem map_replaceAt_listed_of_le (h : n ≤ 12) (single : x.single = p.single.map (replaceAt n v))
    (weights : x.weights = p.weights) (limits : x.blockLimits = p.blockLimits) :
    x.listed = p.listed.map (replaceAt n v) := by
  rw [listed_eq, listed_eq, List.map_append, List.map_append, single, weights, limits,
    map_replaceAt_of_absent (ne_of_mem_perQueue (.inl (by omega))),
    map_replaceAt_of_absent (ne_of_mem_perQueue (.inl (by omega)))]

theorem map_replaceAt_listed_weight (p : Params) (q : Fin 8) (v : Nat) :
    ({ p with weights := p.weights.set q v } : Params).listed = p.listed.map (replaceAt (16 + q.val) v) := by
  rw [listed_eq, listed_eq, List.map_append, List.map_append, map_replaceAt_of_absent (ne_of_mem_single (by omega)),
    map_replaceAt_perQueue, map_replaceAt_of_absent (ne_of_mem_perQueue (.inl (by omega)))]
  rfl

theorem map_replaceAt_listed_limit (p : Params) (q : Fin 8) (v : Nat) :
    ({ p with blockLimits := p.blockLimits.set q v } : Params).listed = p.listed.map (replaceAt (24 + q.val) v) := by
  rw [listed_eq, listed_eq, List.map_append, List.map_append, map_replaceAt_of_absent (ne_of_mem_single (by omega)),
    map_replaceAt_of_absent (ne_of_mem_perQueue (.inr (by omega))), map_replaceAt_perQueue]
  rfl

end Params

/-! ### The numbers -/

/-- R161: the numbers of the table, and the others. -/
inductive ParamNumber : Nat → Prop
  | trunkAddress : ParamNumber 1
  | learning : ParamNumber 2
  | defaultTag : ParamNumber 3
  | ageLimit : ParamNumber 4
  | gapLimit : ParamNumber 5
  | maxLength : ParamNumber 6
  | contextsPerStation : ParamNumber 7
  | hOn : ParamNumber 8
  | hOff : ParamNumber 9
  | holdDuration : ParamNumber 10
  | coalesceCount : ParamNumber 11
  | coalesceTime : ParamNumber 12
  | weight (q : Fin 8) : ParamNumber (16 + q.val)
  | blockLimit (q : Fin 8) : ParamNumber (24 + q.val)
  | unused (n : Nat) : n = 0 ∨ 12 < n ∧ n < 16 ∨ 31 < n → ParamNumber n

theorem paramNumber (n : Nat) : ParamNumber n :=
  match n with
  | 0 => .unused 0 (.inl rfl)
  | 1 => .trunkAddress
  | 2 => .learning
  | 3 => .defaultTag
  | 4 => .ageLimit
  | 5 => .gapLimit
  | 6 => .maxLength
  | 7 => .contextsPerStation
  | 8 => .hOn
  | 9 => .hOff
  | 10 => .holdDuration
  | 11 => .coalesceCount
  | 12 => .coalesceTime
  | k + 13 => by
    by_cases low : k + 13 < 16
    · exact .unused _ (by omega)
    by_cases weight : k + 13 < 24
    · have e : k + 13 = 16 + (⟨k + 13 - 16, by omega⟩ : Fin 8).val := by simp only; omega
      exact e ▸ .weight _
    by_cases limit : k + 13 < 32
    · have e : k + 13 = 24 + (⟨k + 13 - 24, by omega⟩ : Fin 8).val := by simp only; omega
      exact e ▸ .blockLimit _
    · exact .unused _ (by omega)

theorem paramRange_weight : ∀ q : Fin 8, paramRange (16 + q.val) = some (1, 15) := by decide

theorem paramRange_blockLimit : ∀ q : Fin 8, paramRange (24 + q.val) = some (0, 2048) := by decide

theorem paramRange_unused {n : Nat} (h : n = 0 ∨ 12 < n ∧ n < 16 ∨ 31 < n) : paramRange n = none := by
  rw [paramRange, List.lookup_eq_none_iff]
  intro x hx
  have used : x.1 ∈ [1, 2, 3, 4, 5, 6, 7, 8, 9, 10, 11, 12] ++ (List.range 8).map (16 + ·) ++ (List.range 8).map (24 + ·) :=
    List.mem_map_of_mem (f := Prod.fst) hx
  have near : ∀ k ∈ [1, 2, 3, 4, 5, 6, 7, 8, 9, 10, 11, 12] ++ (List.range 8).map (16 + ·) ++ (List.range 8).map (24 + ·),
      1 ≤ k ∧ k ≤ 31 ∧ (k ≤ 12 ∨ 16 ≤ k) := by decide
  have := near _ used
  simp only [bne_iff_ne]
  omega

namespace Params

variable {p x : Params} {n v lo hi : Nat}

theorem value_weight (p : Params) : ∀ q : Fin 8, p.value (16 + q.val) = some p.weights[q]
  | 0 | 1 | 2 | 3 | 4 | 5 | 6 | 7 => rfl

theorem value_blockLimit (p : Params) : ∀ q : Fin 8, p.value (24 + q.val) = some p.blockLimits[q]
  | 0 | 1 | 2 | 3 | 4 | 5 | 6 | 7 => rfl

theorem change_weight (p : Params) (v : Nat) : ∀ q : Fin 8,
    p.change (16 + q.val) v = inRange 1 15 v { p with weights := p.weights.set q v }
  | 0 | 1 | 2 | 3 | 4 | 5 | 6 | 7 => rfl

theorem change_blockLimit (p : Params) (v : Nat) : ∀ q : Fin 8,
    p.change (24 + q.val) v = inRange 0 2048 v { p with blockLimits := p.blockLimits.set q v }
  | 0 | 1 | 2 | 3 | 4 | 5 | 6 | 7 => rfl

theorem value_of_lt (p : Params) : ∀ {n : Nat}, 12 < n → p.value n =
    if h : 16 ≤ n ∧ n ≤ 23 then some (p.weights[n - 16]'(by omega))
    else if h : 24 ≤ n ∧ n ≤ 31 then some (p.blockLimits[n - 24]'(by omega)) else none
  | _ + 13, _ => rfl

theorem change_of_lt (p : Params) (v : Nat) : ∀ {n : Nat}, 12 < n → p.change n v =
    if h : 16 ≤ n ∧ n ≤ 23 then inRange 1 15 v { p with weights := p.weights.set (n - 16) v (by omega) }
    else if h : 24 ≤ n ∧ n ≤ 31 then
      inRange 0 2048 v { p with blockLimits := p.blockLimits.set (n - 24) v (by omega) }
    else none
  | _ + 13, _ => rfl

theorem value_unused (p : Params) (h : n = 0 ∨ 12 < n ∧ n < 16 ∨ 31 < n) : p.value n = none := by
  obtain rfl | above := Nat.eq_zero_or_pos n
  · rfl
  · rw [value_of_lt p (by omega), dif_neg (by omega), dif_neg (by omega)]

theorem change_unused (p : Params) (v : Nat) (h : n = 0 ∨ 12 < n ∧ n < 16 ∨ 31 < n) : p.change n v = none := by
  obtain rfl | above := Nat.eq_zero_or_pos n
  · rfl
  · rw [change_of_lt p v (by omega), dif_neg (by omega), dif_neg (by omega)]

/-! ### Reading a parameter -/

/-- R161: a number has the value that stands beside it in the list. -/
theorem value_of_mem (h : (n, v) ∈ p.listed) : p.value n = some v := by
  rw [listed_eq, List.mem_append, List.mem_append] at h
  obtain (single | weight) | limit := h
  · simp only [Params.single, List.mem_cons, List.not_mem_nil, or_false, Prod.mk.injEq] at single
    obtain h | h | h | h | h | h | h | h | h | h | h | h := single <;> obtain ⟨rfl, rfl⟩ := h <;> rfl
  · obtain ⟨q, -, e⟩ := List.mem_map.1 weight
    obtain ⟨rfl, rfl⟩ := Prod.mk.inj e
    exact p.value_weight q
  · obtain ⟨q, -, e⟩ := List.mem_map.1 limit
    obtain ⟨rfl, rfl⟩ := Prod.mk.inj e
    exact p.value_blockLimit q

/-- R161: the value of a number stands beside it in the list. -/
theorem mem_of_value (h : p.value n = some v) : (n, v) ∈ p.listed := by
  rw [listed_eq, List.mem_append, List.mem_append]
  cases paramNumber n with
  | weight q =>
    rw [value_weight, Option.some.injEq] at h
    exact .inl (.inr (List.mem_map.2 ⟨q, List.mem_finRange q, by rw [h]⟩))
  | blockLimit q =>
    rw [value_blockLimit, Option.some.injEq] at h
    exact .inr (List.mem_map.2 ⟨q, List.mem_finRange q, by rw [h]⟩)
  | unused _ none =>
    rw [p.value_unused none] at h
    nomatch h
  | _ =>
    obtain rfl := Option.some.inj h
    exact .inl (.inl (by simp [Params.single]))

/-! ### Changing a parameter -/

/-- R161, R162: what SET_PARAM makes of number `n` and value `v`. -/
def Changes (p : Params) (n v : Nat) (y : Option Params) : Prop :=
  (p.Admits n v ∧ ∃ x, y = some x ∧ x.listed = p.listed.map (replaceAt n v)) ∨ (¬ p.Admits n v ∧ y = none)

theorem admits_iff (range : paramRange n = some (lo, hi)) :
    p.Admits n v ↔ (lo ≤ v ∧ v ≤ hi) ∧ (n = 8 → v < p.hOff) ∧ (n = 9 → p.hOn < v) := by
  simp [Admits, range]

theorem changes_inRange (range : paramRange n = some (lo, hi)) (order : (n = 8 → v < p.hOff) ∧ (n = 9 → p.hOn < v))
    (listed : lo ≤ v → v ≤ hi → x.listed = p.listed.map (replaceAt n v)) : p.Changes n v (inRange lo hi v x) := by
  by_cases good : lo ≤ v ∧ v ≤ hi
  · exact .inl ⟨(admits_iff range).2 ⟨good, order⟩, x, if_pos good, listed good.1 good.2⟩
  · exact .inr ⟨fun h => good ((admits_iff range).1 h).1, if_neg good⟩

/-- R161: a number up to 12, when the list of the new values differs there alone. -/
theorem changes_single (range : paramRange n = some (lo, hi)) (le : n ≤ 12)
    (order : (n = 8 → v < p.hOff) ∧ (n = 9 → p.hOn < v))
    (single : lo ≤ v → v ≤ hi → x.single = p.single.map (replaceAt n v))
    (weights : x.weights = p.weights) (limits : x.blockLimits = p.blockLimits) :
    p.Changes n v (inRange lo hi v x) :=
  changes_inRange range order fun low high => map_replaceAt_listed_of_le le (single low high) weights limits

/-- R141, R161, R162: a value that is admitted replaces that of its number, and any other changes nothing. -/
theorem changes_change (p : Params) (n v : Nat) : p.Changes n v (p.change n v) := by
  cases paramNumber n with
  | trunkAddress =>
    refine changes_single rfl (by decide) ⟨nofun, nofun⟩ (fun _ high => ?_) rfl rfl
    simp [Params.single, replaceAt, Nat.mod_eq_of_lt (Nat.lt_of_le_of_lt high (by decide : 4094 < 4096))]
  | learning =>
    refine changes_single rfl (by decide) ⟨nofun, nofun⟩ (fun _ high => ?_) rfl rfl
    obtain rfl | rfl := Nat.le_one_iff_eq_zero_or_eq_one.1 high <;> rfl
  | defaultTag =>
    refine changes_single rfl (by decide) ⟨nofun, nofun⟩ (fun _ high => ?_) rfl rfl
    simp [Params.single, replaceAt, Nat.mod_eq_of_lt (Nat.lt_succ_of_le high)]
  | ageLimit =>
    refine changes_single rfl (by decide) ⟨nofun, nofun⟩ (fun _ high => ?_) rfl rfl
    simp [Params.single, replaceAt, Nat.mod_eq_of_lt (Nat.lt_succ_of_le high)]
  | holdDuration =>
    refine changes_single rfl (by decide) ⟨nofun, nofun⟩ (fun _ high => ?_) rfl rfl
    simp [Params.single, replaceAt, Nat.mod_eq_of_lt (Nat.lt_succ_of_le high)]
  | hOn =>
    by_cases below : v < p.hOff
    · rw [show p.change 8 v = inRange 0 2047 v { p with hOn := v } from if_pos below]
      exact changes_single rfl (by decide) ⟨fun _ => below, nofun⟩ (fun _ _ => rfl) rfl rfl
    · exact .inr ⟨fun h => below (h.2.1 rfl), if_neg below⟩
  | hOff =>
    by_cases above : p.hOn < v
    · rw [show p.change 9 v = inRange 1 2048 v { p with hOff := v } from if_pos above]
      exact changes_single rfl (by decide) ⟨nofun, fun _ => above⟩ (fun _ _ => rfl) rfl rfl
    · exact .inr ⟨fun h => above (h.2.2 rfl), if_neg above⟩
  | weight q =>
    rw [change_weight]
    exact changes_inRange (paramRange_weight q) ⟨by omega, by omega⟩ fun _ _ => p.map_replaceAt_listed_weight q v
  | blockLimit q =>
    rw [change_blockLimit]
    exact changes_inRange (paramRange_blockLimit q) ⟨by omega, by omega⟩ fun _ _ => p.map_replaceAt_listed_limit q v
  | unused _ none =>
    refine .inr ⟨fun ⟨⟨lo, hi, range, _⟩, _⟩ => ?_, p.change_unused v none⟩
    rw [paramRange_unused none] at range
    nomatch range
  | _ => exact changes_single rfl (by decide) ⟨nofun, nofun⟩ (fun _ _ => rfl) rfl rfl

theorem mem_listed_replaced (listed : x.listed = p.listed.map (replaceAt n v)) {a : Nat} (h : x.value n = some a) :
    a = v := by
  have mem := mem_of_value h
  rw [listed] at mem
  obtain ⟨y, -, e⟩ := List.mem_map.1 mem
  by_cases same : y.1 = n
  · exact (Prod.mk.inj ((if_pos same).symm.trans e)).2.symm
  · exact absurd (congrArg Prod.fst ((if_neg same).symm.trans e)) same

end Params

/-! ### The two requests -/

namespace State

variable {s : State} {t : Fin 4} {r : Request} {n v : Nat} {p : Params}

theorem getParam_of_some (h : s.params.value (r.byte 0).toNat = some v) :
    State.getParam t r s = s.reply .ok (r.byte 0 :: natBe16 v) := by
  simp only [State.getParam, h]

theorem getParam_of_none (h : s.params.value (r.byte 0).toNat = none) :
    State.getParam t r s = s.reply .badValue := by
  simp only [State.getParam, h]

theorem setParam_of_some (h : s.params.change (r.byte 0).toNat (r.word 1).toNat = some p) :
    State.setParam t r s = ((s.withParams p).handParam (r.byte 0).toNat).reply .ok := by
  simp only [State.setParam, h]

theorem setParam_of_none (h : s.params.change (r.byte 0).toNat (r.word 1).toNat = none) :
    State.setParam t r s = s.reply .badValue := by
  simp only [State.setParam, h]

/-- R172, R173: the test of a new coalesce count. -/
theorem testCount_eq (e : EventUnit) (p : Params) :
    e.testCount p = if p.coalesceCount ≤ e.sum then { e with due := true } else e := by
  rw [EventUnit.testCount]
  split
  · next low => rw [decide_eq_true low, Bool.or_true]
  · next low => rw [decide_eq_false low, Bool.or_false]

/-- R141, R162, R173: what an accepted change is handed to. -/
theorem handParam_eq (count : n = 11 → s.params.coalesceCount = v) : s.handParam n =
    if n = 8 ∨ n = 9 ∨ n = 10 then s.evaluateHold
    else if n = 11 ∧ s.uplink.lane.isEvent = false ∧ v ≤ s.events.sum then s.withEvents { s.events with due := true }
    else s := by
  by_cases hold : n = 8 ∨ n = 9 ∨ n = 10
  · simp only [handParam, hold, if_true]
  by_cases coalesce : n = 11
  · cases lane : s.uplink.lane.isEvent
    · by_cases low : v ≤ s.events.sum
      · simp [handParam, coalesce, lane, testCount_eq, count coalesce, low]
      · simp [handParam, coalesce, lane, testCount_eq, count coalesce, low]
    · simp [handParam, coalesce, lane]
  · simp only [handParam, hold, coalesce, if_false, false_and]

theorem handParam_withManagement (m : Management) (n : Nat) (s : State) :
    (s.withManagement m).handParam n = (s.handParam n).withManagement m := by
  rw [handParam, handParam, withManagement_uplink]
  by_cases hold : n = 8 ∨ n = 9 ∨ n = 10
  · rw [if_pos hold, if_pos hold, evaluateHold_withManagement]
  rw [if_neg hold, if_neg hold]
  by_cases coalesce : n = 11
  · rw [if_pos coalesce, if_pos coalesce]
    split <;> rfl
  · rw [if_neg coalesce, if_neg coalesce]

end State

/-- Settles O10: a value that is admitted replaces that of its number, and the change is handed to the block that acts
on it. -/
theorem setParamReplacesOneValue : Obligations.SetParamReplacesOneValue := by
  intro s t r h n v
  obtain ⟨admits, p, change, listed⟩ | ⟨refused, change⟩ := s.params.changes_change n v
  · refine ⟨fun no => absurd admits no, fun _ => ⟨p, listed, congrArg Host.Outcome.next ?_⟩⟩
    have count : n = 11 → (s.withParams p).params.coalesceCount = v := fun e =>
      Params.mem_listed_replaced listed (e ▸ rfl)
    rw [State.take_of_reply_withManagement (u := (s.withParams p).handParam n) h (fun m => ?_) (by simp),
      State.handParam_eq count]
    · rfl
    · rw [State.setParam_of_some (by exact change), ← State.handParam_withManagement]
      rfl
  · exact ⟨fun _ => congrArg Host.Outcome.next (State.take_of_reply h (State.setParam_of_none change)),
      fun yes => absurd yes refused⟩

end Sys2Proof.Machine
end

section
/-! GET_STATUS, GET_PARAM and READ_POOL (R160, R161, R47), and the requests that change the Station Table (R26 to
R29). -/

namespace Sys2Proof.Machine

variable {s : State} {t : Fin 4} {r : Request}

/-! ### Status, parameters and pool -/

/-- R160: what GET_STATUS reports of a queue. -/
theorem QueueState.code_eq (x : QueueState) : x.code = match x with | .running => 0 | .halted _ => 1 := by
  cases x <;> rfl

theorem TrunkLink.code_eq (x : TrunkLink) : x.code = match x with | .down => 0 | .up => 1 := by
  cases x <;> rfl

theorem HoldMode.code_eq (x : HoldMode) : x.code = match x with | .quiet => 0 | .holding _ => 1 := by
  cases x <;> rfl

/-- R160: whether a commit is pending, as a byte. -/
theorem State.boolByte_commitPending (s : State) : boolByte s.commitPending =
    match s.program.edit with | .none => 0 | .editing _ _ _ => 0 | .committing _ _ _ => 1 := by
  rw [State.commitPending]
  cases s.program.edit <;> rfl

/-- R47: the blocks that a context holds. -/
theorem ContextState.count_chain (x : ContextState) : (x.chain.map Chain.count).getD 0 =
    match x with
    | .opened m _ _ => m.chain.count
    | .complete m => m.chain.count
    | .free => 0
    | .discarding _ _ _ => 0 := by
  cases x <;> rfl

/-- Settles O9: each of the three is one reply, whose items are told block by block. -/
theorem statusParametersAndPoolAreReported : Obligations.StatusParametersAndPoolAreReported := by
  refine ⟨fun s t r h => congrArg Host.Outcome.next ((State.take_of_reply h rfl).trans ?_),
    fun s t r h => ⟨fun v mem => ?_, fun absent => ?_⟩,
    fun s t r h => congrArg Host.Outcome.next ((State.take_of_reply h rfl).trans ?_)⟩
  · show s.answered t r .ok s.statusBytes = _
    simp only [State.statusBytes, State.boolByte_commitPending, QueueState.code_eq, HoldMode.code_eq, TrunkLink.code_eq,
      toList_eq_finRange, List.flatMap_map]
    rfl
  · exact congrArg Host.Outcome.next (State.take_of_reply h (State.getParam_of_some (Params.value_of_mem mem)))
  · have none : s.params.value (r.byte 0).toNat = none :=
      Option.eq_none_iff_forall_ne_some.2 fun v value => absent v (Params.mem_of_value value)
    exact congrArg Host.Outcome.next (State.take_of_reply h (State.getParam_of_none none))
  · show s.answered t r .ok s.poolBytes = _
    simp only [State.poolBytes, State.contextBlocks, State.queuedBlocks, ContextState.count_chain, toList_eq_finRange,
      List.flatMap_map, List.map_map]
    rfl

/-! ### Pinning and unpinning -/

theorem admissionOf_of_code {b : Byte} {adm : Admission}
    (h : b = 0 ∧ adm = .admits ∨ b = 1 ∧ adm = .blocks) : admissionOf b = some adm := by
  obtain ⟨rfl, rfl⟩ | ⟨rfl, rfl⟩ := h <;> rfl

theorem admissionOf_of_gt {b : Byte} (h : 1 < b.toNat) : admissionOf b = none := by
  have h0 : b ≠ 0 := by rintro rfl; exact absurd h (by decide)
  have h1 : b ≠ 1 := by rintro rfl; exact absurd h (by decide)
  simp only [admissionOf, h0, h1, if_false]

namespace State

variable {a : Addr} {adm : Admission} {i : Fin 64} {e : StationEntry}

theorem pinStation_of_has (names : r.Names 0 a) (code : admissionOf (r.byte 2) = some adm) (h : s.stations.Has a i e) :
    State.pinStation t r s = (s.withStations (s.stations.put i
      (some { e with origin := .pinned, admission := adm, tag := r.byte 3 }))).reply .ok [natByte i.val] := by
  simp only [State.pinStation, Request.station_of_names names, code, findStation_of_has h, h.1, Option.map_some]
  rfl

theorem pinStation_of_room (names : r.Names 0 a) (code : admissionOf (r.byte 2) = some adm) (h : s.stations.Lacks a)
    (room : s.stations.Room i) : State.pinStation t r s = (s.withStations (s.stations.put i
      (some (pinnedEntry a adm (r.byte 3))))).reply .ok [natByte i.val] := by
  simp only [State.pinStation, Request.station_of_names names, code, findStation_of_lacks h, emptyPosition_of_room room]
  rfl

theorem pinStation_of_full (names : r.Names 0 a) (code : admissionOf (r.byte 2) = some adm) (h : s.stations.Lacks a)
    (full : ∀ i : Fin 64, s.stations.entries[i] ≠ none) : State.pinStation t r s = s.reply .tableFull := by
  simp only [State.pinStation, Request.station_of_names names, code, findStation_of_lacks h, emptyPosition_of_full full]

theorem pinStation_of_bad (bad : r.NamesNone 0 ∨ 1 < (byteAt r.args 2).toNat) :
    State.pinStation t r s = s.reply .badValue := by
  obtain names | code := bad
  · simp only [State.pinStation, Request.station_of_namesNone names]
  · simp only [State.pinStation, admissionOf_of_gt code]
    cases r.station 0 <;> rfl

theorem unpinStation_of_has (names : r.Names 0 a) (h : s.stations.Has a i e) :
    State.unpinStation t r s =
      (s.withStations (s.stations.put i (some { e with origin := .learned, age := 0 }))).reply .ok := by
  simp only [State.unpinStation, Request.station_of_names names, findStation_of_has h, h.1, Option.map_some]
  rfl

theorem unpinStation_of_lacks (names : r.Names 0 a) (h : s.stations.Lacks a) :
    State.unpinStation t r s = s.reply .notFound := by
  simp only [State.unpinStation, Request.station_of_names names, findStation_of_lacks h]

theorem unpinStation_of_namesNone (names : r.NamesNone 0) : State.unpinStation t r s = s.reply .badValue := by
  simp only [State.unpinStation, Request.station_of_namesNone names]

theorem removeStation_of_has (names : r.Names 0 a) (h : s.stations.Has a i e) :
    State.removeStation t r s = (s.setEntry i none).handRemoval t r .removeStation [a] := by
  simp only [State.removeStation, Request.station_of_names names, findStation_of_has h]

theorem removeStation_of_lacks (names : r.Names 0 a) (h : s.stations.Lacks a) :
    State.removeStation t r s = s.reply .notFound := by
  simp only [State.removeStation, Request.station_of_names names, findStation_of_lacks h]

theorem removeStation_of_namesNone (names : r.NamesNone 0) : State.removeStation t r s = s.reply .badValue := by
  simp only [State.removeStation, Request.station_of_namesNone names]

/-- R29: the addresses of the LEARNED entries. -/
theorem learnedAddresses_eq (s : State) : s.learnedAddresses = s.stations.entries.toList.filterMap fun x =>
    (x.filter fun e => decide (e.origin = .learned)).map StationEntry.address := by
  refine List.filterMap_congr fun x _ => ?_
  cases x with
  | none => rfl
  | some e =>
    by_cases learned : e.origin = .learned
    · simp [learned]
    · simp [learned]

end State

/-- Settles O14: each answer is one reply, and a pin or an unpin puts one entry in its place. -/
theorem stationsArePinnedAndUnpinned : Obligations.StationsArePinnedAndUnpinned := by
  refine ⟨fun s t r h => ⟨fun a adm names code => ⟨fun i e has => ?_, fun i lacks room => ?_, fun lacks full => ?_⟩,
      fun bad => ?_⟩,
    fun s t r h => ⟨fun a i e names has => ?_, fun a names lacks => ?_, fun names => ?_⟩⟩ <;>
    refine congrArg Host.Outcome.next ?_
  · exact State.take_of_reply_withManagement h
      (fun m => State.pinStation_of_has (s := s.withManagement m) names (admissionOf_of_code code) has) rfl
  · exact State.take_of_reply_withManagement h
      (fun m => State.pinStation_of_room (s := s.withManagement m) names (admissionOf_of_code code) lacks room) rfl
  · exact State.take_of_reply h (State.pinStation_of_full names (admissionOf_of_code code) lacks full)
  · exact State.take_of_reply h (State.pinStation_of_bad bad)
  · exact State.take_of_reply_withManagement h
      (fun m => State.unpinStation_of_has (s := s.withManagement m) names has) rfl
  · exact State.take_of_reply h (State.unpinStation_of_lacks names lacks)
  · exact State.take_of_reply h (State.unpinStation_of_namesNone names)

/-- Settles O15: a removal changes the table, and leaves its answer to the removal work that it hands on. -/
theorem stationsAreRemoved : Obligations.StationsAreRemoved := by
  refine ⟨fun s t r h => ⟨fun a i e names has => ?_, fun a names lacks => ?_, fun names => ?_⟩, fun s t r h => ?_⟩ <;>
    refine congrArg Host.Outcome.next ?_
  · exact State.take_later h (State.removeStation_of_has names has)
  · exact State.take_of_reply h (State.removeStation_of_lacks names lacks)
  · exact State.take_of_reply h (State.removeStation_of_namesNone names)
  · rw [← State.learnedAddresses_eq]
    exact State.take_later h rfl

end Sys2Proof.Machine
end

section
/-! Reading programs and hits (R97, R98, R107), the checks of R101, the edit session (R102, R108, R109), COMMIT and the
swap (R110 to R114). -/

namespace Sys2Proof.Machine

/-! ### READ_CLAUSE and READ_HITS -/

/-- R97: the bytes of a clause, written out kind by kind. -/
def clauseData : Clause → List Byte
  | .testAnd p q o => [0, p, q] ++ be16 o ++ [0, 0, 0, 0, 0, 0, 0]
  | .testEnd p q o .none => [0, p, q] ++ be16 o ++ [1, 0, 0, 0, 0, 0, 0]
  | .testEnd p q o (.deliver x m) => [0, p, q] ++ be16 o ++ [1, 1, x, 0, if m then 1 else 0, 0, 0]
  | .testEnd p q o (.mirror x y m) => [0, p, q] ++ be16 o ++ [1, 2, x, y, if m then 1 else 0, 0, 0]
  | .testEnd p q o (.discard m) => [0, p, q] ++ be16 o ++ [1, 3, 0, 0, if m then 1 else 0, 0, 0]
  | .care m => [1, 0, 0] ++ be16 m ++ [0, 0, 0, 0, 0, 0, 0]
  | .gate p q o i => [2, p, q] ++ be16 o ++ [0, 0, 0, 0, 0] ++ be16 i

theorem Clause.bytes_eq (c : Clause) : c.bytes = clauseData c := by
  cases c with
  | testEnd p q o a => cases a <;> rfl
  | _ => rfl

theorem Program.clause_of_byte (g : Program) (b : Byte) : g.clause b.toNat = g.clauses[b.toNat]'b.isLt := by
  have h : b.toNat < g.clauses.toList.length := by
    rw [Vector.length_toList]
    exact b.isLt
  rw [Program.clause, List.getD_eq_getElem _ _ h, Vector.getElem_toList]

/-- R97: the bytes of READ_CLAUSE, the probes place by place. -/
theorem Program.clauseBytes_eq (g : Program) (selector : Byte) (generation : U16) (pos : Byte) :
    g.clauseBytes selector generation pos = [selector] ++ be16 generation ++ natBe16 g.count ++ g.default.bytes
      ++ (List.finRange 4).flatMap (fun i => be16 (g.probes[i].getD 0xFFFF)) ++ [pos]
      ++ clauseData (g.clauses[pos.toNat]'pos.isLt) := by
  rw [Program.clauseBytes, Program.clause_of_byte, Clause.bytes_eq, toList_eq_finRange, List.flatMap_map]

/-- A stretch of a list, place by place. -/
theorem take_drop_eq_map_range {α : Type} (l : List α) (a k : Nat) (d : α) :
    (l.drop a).take k = (List.range (min k (l.length - a))).map fun i => l.getD (a + i) d := by
  refine List.ext_getElem (by simp) fun i h _ => ?_
  have inside : a + i < l.length := by
    simp only [List.length_take, List.length_drop] at h
    omega
  simp [List.getD_eq_getElem?_getD, inside]

namespace State

variable {s : State} {t : Fin 4} {r : Request} {g : Program} {z : U32} {q : U16}

/-- R155, R156: a row whose block only replies changes nothing but the Management Unit. -/
theorem takeRequest_of_reply {k : RequestKind} {applies : Request → Bool} {body : Execution} {st : Status}
    {data : List Byte} (h : s.Passes t k r) (ha : applies r = true)
    (hb : body t r (s.withManagement (s.management.accepted t r)) =
      (s.withManagement (s.management.accepted t r)).reply st data) :
    s.takeRequest k applies body = s.answered t r st data := by
  rw [takeRequest_now h ha hb rfl]
  rfl

theorem selectsStaging_eq (r : Request) : r.selectsStaging = decide (r.byte 0 = 1) := rfl

theorem exec_readClauseActive (h : s.Passes t .readClause r) (active : r.byte 0 = 0) :
    exec .readClauseActive s =
      .next (s.answered t r .ok (s.program.active.clauseBytes (r.byte 0) s.program.generation (r.byte 1))) :=
  congrArg Host.Outcome.next (takeRequest_of_reply h (by simp [selectsStaging_eq, active])
    ((if_pos active).trans (by rw [active]; rfl)))

theorem exec_readClauseActive_of_bad (h : s.Passes t .readClause r) (bad : 1 < (r.byte 0).toNat) :
    exec .readClauseActive s = .next (s.answered t r .badValue []) := by
  have h0 : r.byte 0 ≠ 0 := fun e => absurd bad (by rw [e]; decide)
  have h1 : r.byte 0 ≠ 1 := fun e => absurd bad (by rw [e]; decide)
  exact congrArg Host.Outcome.next (takeRequest_of_reply h (by rw [selectsStaging_eq, decide_eq_false h1]; rfl)
    (if_neg h0))

theorem exec_readClauseStaging_of_none (h : s.Passes t .readClause r) (staging : r.byte 0 = 1)
    (edit : s.program.edit = .none) : exec .readClauseStaging s = .next (s.answered t r .noEdit []) :=
  congrArg Host.Outcome.next (takeRequest_of_reply h (decide_eq_true staging)
    (by simp only [readClauseStaging, withManagement_program, edit]))

theorem exec_readClauseStaging (h : s.Passes t .readClause r) (staging : r.byte 0 = 1)
    (edit : (∃ u z, s.program.edit = .editing u g z) ∨ ∃ u q, s.program.edit = .committing u g q) :
    exec .readClauseStaging s =
      .next (s.answered t r .ok (g.clauseBytes (r.byte 0) s.program.generation (r.byte 1))) := by
  refine congrArg Host.Outcome.next (takeRequest_of_reply h (decide_eq_true staging) ?_)
  rw [staging]
  obtain ⟨u, z, edit⟩ | ⟨u, q, edit⟩ := edit <;> simp only [readClauseStaging, withManagement_program, edit]

end State

/-- Settles O18: READ_CLAUSE replies with the bytes of the program that its selector names, READ_HITS with a stretch of
the counters. -/
theorem programsAndHitsAreReported : Obligations.ProgramsAndHitsAreReported := by
  refine ⟨fun s t r h => ?_, fun s t r h => ?_⟩
  · intro clause data
    have bytes : ∀ g : Program, g.clauseBytes (r.byte 0) s.program.generation (r.byte 1) = data g := fun g => by
      rw [Program.clauseBytes_eq]
      rfl
    simp only [← bytes]
    exact ⟨State.exec_readClauseActive h, fun staging => ⟨State.exec_readClauseStaging_of_none h staging,
      fun u g z edit => State.exec_readClauseStaging h staging (.inl ⟨u, z, edit⟩),
      fun u g q edit => State.exec_readClauseStaging h staging (.inr ⟨u, q, edit⟩)⟩,
      State.exec_readClauseActive_of_bad h⟩
  · refine congrArg Host.Outcome.next ((State.take_of_reply h rfl).trans ?_)
    rw [State.withManagement_program, take_drop_eq_map_range _ _ _ 0, List.flatMap_map, List.length_map,
      List.length_range, Vector.length_toList]

/-! ### The checks of an editing request -/

namespace Request

variable {r : Request}

theorem clause_of_bad (bad : ¬ r.ValuesGood .writeClause) : r.clause = none := if_neg bad

theorem exists_clause (good : r.ValuesGood .writeClause) : ∃ c, r.clause = some c := by
  have bounds : (r.byte 1).toNat ≤ 2 ∧ (r.byte 6).toNat ≤ 1 := ⟨good.1, good.2.1⟩
  obtain kind | kind | kind : r.byte 1 = 0 ∨ r.byte 1 = 1 ∨ r.byte 1 = 2 := by bv_omega
  · obtain link | link : r.byte 6 = 0 ∨ r.byte 6 = 1 := by bv_omega
    · exact ⟨_, clause_testAnd good kind link⟩
    · exact ⟨_, clause_testEnd good kind link⟩
  · exact ⟨_, clause_care good kind⟩
  · exact ⟨_, clause_gate good kind⟩

theorem exists_defaultAction (good : r.ValuesGood .setDefault) : ∃ d, r.defaultAction = some d := by
  obtain deliver | discard := good.1
  · exact ⟨_, defaultAction_deliver good deliver (q := ⟨(r.byte 1).toNat, Nat.lt_succ_of_le good.2.1⟩) rfl⟩
  · exact ⟨_, defaultAction_discard good discard⟩

theorem defaultAction_of_bad (bad : ¬ r.ValuesGood .setDefault) : r.defaultAction = none := by
  by_cases queue : (r.byte 1).toNat ≤ 7
  · by_cases mark : (r.byte 2).toNat ≤ 1
    · have deliver : r.byte 0 ≠ 1 := fun e => bad ⟨.inl e, queue, mark⟩
      have discard : r.byte 0 ≠ 3 := fun e => bad ⟨.inr e, queue, mark⟩
      simp only [defaultAction, Request.queue_of_eq (q := ⟨(r.byte 1).toNat, Nat.lt_succ_of_le queue⟩) rfl, mark,
        deliver, discard, if_true, if_false]
    · simp only [defaultAction, Request.queue_of_eq (q := ⟨(r.byte 1).toNat, Nat.lt_succ_of_le queue⟩) rfl, mark,
        if_false]
  · simp only [defaultAction, Request.queue_of_gt (Nat.lt_of_not_le queue)]

end Request

/-- R101: the three checks of an editing request: its values are refused, or it goes to the holder's session. -/
theorem editingRequest {k : RequestKind}
    (hk : k ∈ [.writeClause, .writeProbes, .setDefault, .setCount, .abortEdit, .commit]) (r : Request) :
    ∃ body : Execution, (∀ s, exec (k.command r) s = .next (s.take k body)) ∧
      (¬ r.ValuesGood k → ∀ t s, body t r s = s.reply .badValue) ∧
      (r.ValuesGood k → ∀ t s, ∃ f, body t r s = s.forHolder t f) := by
  obtain rfl | rfl | rfl | rfl | rfl | rfl : k = .writeClause ∨ k = .writeProbes ∨ k = .setDefault ∨ k = .setCount ∨
    k = .abortEdit ∨ k = .commit := by simpa using hk
  · refine ⟨State.writeClause, fun _ => rfl, fun bad t s => ?_, fun good t s => ?_⟩
    · simp only [State.writeClause, Request.clause_of_bad bad]
    · obtain ⟨c, hc⟩ := Request.exists_clause good
      exact ⟨_, by simp only [State.writeClause, hc, State.writeStaging]; rfl⟩
  · exact ⟨State.writeProbes, fun _ => rfl, fun bad => absurd trivial bad,
      fun _ t s => ⟨_, by rw [State.writeProbes, State.writeStaging]⟩⟩
  · refine ⟨State.setDefault, fun _ => rfl, fun bad t s => ?_, fun good t s => ?_⟩
    · simp only [State.setDefault, Request.defaultAction_of_bad bad]
    · obtain ⟨d, hd⟩ := Request.exists_defaultAction good
      exact ⟨_, by simp only [State.setDefault, hd, State.writeStaging]; rfl⟩
  · exact ⟨State.setCount, fun _ => rfl, fun bad t s => if_neg bad, fun good t s => ⟨_, if_pos good⟩⟩
  · exact ⟨State.abortEdit, fun _ => rfl, fun bad => absurd trivial bad, fun _ t s => ⟨_, rfl⟩⟩
  · exact ⟨State.commit, fun _ => rfl, fun bad => absurd trivial bad, fun _ t s => ⟨_, rfl⟩⟩

namespace State

variable {s : State} {t : Fin 4} {r : Request} {g : Program} {z : U32} {q : U16}
  {f : Program → State → State × Reply}

theorem forHolder_of_other (other : s.program.edit.holder ≠ some t) : s.forHolder t f = s.reply .noEdit := by
  rw [forHolder]
  cases edit : s.program.edit with
  | none => rfl
  | editing h _ _ =>
    rw [edit] at other
    exact if_neg fun e => other (congrArg some e)
  | committing h _ _ =>
    rw [edit] at other
    exact if_neg fun e => other (congrArg some e)

theorem forHolder_of_committing (edit : s.program.edit = .committing t g q) :
    s.forHolder t f = s.reply .commitPending := by
  simp only [forHolder, edit, if_true]

theorem forHolder_of_editing (edit : s.program.edit = .editing t g z) : s.forHolder t f = f g s := by
  simp only [forHolder, edit, if_true]

theorem openEdit_of_none (edit : s.program.edit = .none) : State.openEdit t r s =
    (s.restaged t s.program.active).reply .ok (be16 s.program.generation) := by
  simp only [openEdit, edit]
  rfl

theorem openEdit_of_open (edit : s.program.edit ≠ .none) : State.openEdit t r s = s.reply .busyEdit := by
  rw [openEdit]
  cases h : s.program.edit with
  | none => exact absurd h edit
  | editing _ _ _ => rfl
  | committing _ _ _ => rfl

end State

/-- Settles O19: the checks are those of `editingRequest`, and OPEN_EDIT and ABORT_EDIT are one change of the edit state
each. -/
theorem editingIsCheckedAndSessionsOpenAndClose : Obligations.EditingIsCheckedAndSessionsOpenAndClose := by
  refine ⟨fun s t k r hk h => ?_, fun s t r h => ⟨fun edit => ?_, fun edit => ?_⟩, fun s t r g z h edit => ?_⟩
  · obtain ⟨body, row, bad, good⟩ := editingRequest hk r
    rw [row]
    refine ⟨fun values => ?_, fun values other => ?_, fun g q values edit => ?_⟩ <;>
      refine congrArg Host.Outcome.next (State.take_of_reply h ?_)
    · exact bad values t _
    · obtain ⟨f, hf⟩ := good values t (s.withManagement (s.management.accepted t r))
      exact hf.trans (State.forHolder_of_other other)
    · obtain ⟨f, hf⟩ := good values t (s.withManagement (s.management.accepted t r))
      exact hf.trans (State.forHolder_of_committing edit)
  · exact congrArg Host.Outcome.next (State.take_of_reply_withManagement h
      (fun m => State.openEdit_of_none (s := s.withManagement m) edit) rfl)
  · exact congrArg Host.Outcome.next (State.take_of_reply h (State.openEdit_of_open edit))
  · exact congrArg Host.Outcome.next (State.take_of_reply_withManagement h
      (fun m => State.forHolder_of_editing (s := s.withManagement m) edit) rfl)

/-! ### COMMIT and the swap -/

namespace State

variable {s : State} {t : Fin 4} {r : Request} {g : Program} {z : U32} {q : U16}

theorem commit_of_fault {item : Nat} {reason : Byte} (edit : s.program.edit = .editing t g z)
    (fault : g.fault = some (item, reason)) :
    State.commit t r s = (s.restaged t g).reply .invalidProgram (natBe16 item ++ [reason]) := by
  rw [State.commit, forHolder_of_editing edit, fault]
  rfl

theorem commit_of_valid (edit : s.program.edit = .editing t g z) (fault : g.fault = none) :
    State.commit t r s = (((s.setEdit (.committing t g r.sequence)).awaitSwap t).swap, .later) := by
  rw [State.commit, forHolder_of_editing edit, fault]

theorem swap_of_classifying (busy : s.classifier.state ≠ .idle) : s.swap = s := by
  rw [State.swap]
  cases classifier : s.classifier.state with
  | idle => exact absurd classifier busy
  | classifying _ _ => cases s.program.edit <;> rfl

/-- R113, R114: the swap of a pending commit with the Classifier IDLE. -/
theorem swap_of_committing (edit : s.program.edit = .committing t g q) (idle : s.classifier.state = .idle) :
    s.swap = ((s.withProgram (s.program.swapped g)).post .commitDone (s.program.generation + 1)).respondDeferred t q
      (be16 (s.program.generation + 1)) := by
  simp only [State.swap, edit, idle]
  rfl

theorem cacheEntry_be16 (kind : Byte) (st : Status) (x : U16) : cacheEntry kind st (be16 x) = .whole kind st (be16 x) :=
  if_pos (Nat.le_of_ble_eq_true rfl)

theorem idleTimerExpiry_of_reached (edit : s.program.edit = .editing t g z) (h : reached s.events.timebase z = true) :
    s.idleTimerExpiry = (s.withProgram { s.program with edit := .none }).post .editTimeout (BitVec.ofNat 16 t.val) := by
  simp only [State.idleTimerExpiry, edit, State.now, h, if_true]
  rfl

theorem idleTimerExpiry_of_early (edit : s.program.edit = .editing t g z) (h : reached s.events.timebase z = false) :
    s.idleTimerExpiry = s := by
  simp only [State.idleTimerExpiry, edit, State.now, h, Bool.false_eq_true, if_false]

/-- R114, R159: the deferred answer of a COMMIT that is swapped in the step that accepted it is the answer of the
request. -/
theorem respondDeferred_awaitSwap {u : State} (tag : r.tag.toNat = t.val) (kind : r.kind = 0x27)
    (hu : u.management = ((s.withManagement (s.management.accepted t r)).awaitSwap t).management) (x : U16) :
    u.respondDeferred t r.sequence (be16 x) = u.withManagement (s.management.answered t r .ok (be16 x)) := by
  simp only [respondDeferred_eq, cacheEntry_be16, hu, natByte_tag tag, ← kind]
  simp [awaitSwap, setSession, session, Management.accepted, Management.answered, cachedForm]

/-- R110, R113, R114: with the Classifier IDLE the swap is in the step that accepts the COMMIT. -/
theorem swap_of_accepted (tag : r.tag.toNat = t.val) (kind : r.kind = 0x27) (idle : s.classifier.state = .idle) :
    (((s.withManagement (s.management.accepted t r)).setEdit (.committing t g r.sequence)).awaitSwap t).swap =
      ((s.withProgram (s.program.swapped g)).post .commitDone (s.program.generation + 1)).answered t r .ok
        (be16 (s.program.generation + 1)) := by
  rw [swap_of_committing (t := t) (g := g) (q := r.sequence) rfl (by exact idle),
    respondDeferred_awaitSwap tag kind (s := s) (by simp [setEdit, awaitSwap, setSession, session]), ← post_withManagement]
  rfl

end State

/-- Settles O21: the first failing check refuses the program; a valid one waits for the swap, which the same step makes
if the Classifier is IDLE. -/
theorem commitValidatesTheProgram : Obligations.CommitValidatesTheProgram := by
  refine fun s t r g z h edit small => ⟨fun item reason refused => ?_, fun valid busy => ?_, fun valid idle => ?_⟩ <;>
    refine congrArg Host.Outcome.next ?_
  · exact State.take_of_reply_withManagement h
      (fun m => State.commit_of_fault (s := s.withManagement m) edit (Program.fault_of_refused small refused)) rfl
  · have fault := (Program.fault_eq_none_iff small).2 valid
    exact (State.take_later h (State.commit_of_valid edit fault)).trans (State.swap_of_classifying busy)
  · have fault := (Program.fault_eq_none_iff small).2 valid
    exact (State.take_later h (State.commit_of_valid edit fault)).trans
      (State.swap_of_accepted h.due.tag h.due.kind idle)

/-- Settles O22: the swap and the idle timer, in each case of their condition. -/
theorem sessionsEndBySwapOrTimeout : Obligations.SessionsEndBySwapOrTimeout := by
  refine ⟨fun s h g q edit idle => ?_, fun s h g z edit => ⟨fun due => ?_, fun early => ?_⟩⟩
  · refine congrArg Host.Outcome.next ?_
    rw [State.swap_of_committing edit idle, State.respondDeferred_eq, State.cacheEntry_be16]
    rfl
  · exact congrArg Host.Outcome.next (State.idleTimerExpiry_of_reached edit due)
  · exact congrArg Host.Outcome.next (State.idleTimerExpiry_of_early edit early)

end Sys2Proof.Machine
end

section
/-! READ_COUNTERS and CLEAR_COUNTERS (R177 to R179): the group that a number names, its data, and its counters at 0. -/

namespace Sys2Proof.Machine

theorem groupOf_zero {b : Byte} (h : b = 0) : groupOf b = none := by
  rw [h]
  rfl

theorem groupOf_of_gt {b : Byte} (h : 7 < b.toNat) : groupOf b = none := by
  rw [groupOf]
  generalize b.toNat = n at h
  match n, h with
  | _ + 8, _ => rfl

namespace State

variable {s : State} {t : Fin 4} {r : Request} {g : Group}

/-! ### The data of a group -/

/-- R136, R177: the counters of the queues, queue by queue. -/
theorem flatMap_counterList_queue (s : State) : (s.counterList .queue).flatMap be32 =
    (List.finRange 8).flatMap fun q => s.delivery.queues[q].counters.list.flatMap be32 := by
  rw [counterList, toList_eq_finRange, List.flatMap_map, List.flatMap_assoc]

/-- R178: what a report of the entries present says of position `i`. -/
def ofPosition {β : Type} (f : Fin 64 → StationEntry → List β) (i : Fin 64) : Option StationEntry → List β
  | some e => f i e
  | none => []

/-- R178: a report of the entries present is one of the positions that hold an entry. -/
theorem flatMap_presentEntries {β : Type} (f : Fin 64 → StationEntry → List β) (s : State) :
    s.presentEntries.flatMap (fun x => f x.1 x.2) =
      ((List.finRange 64).filter fun i => s.stations.entries[i].isSome).flatMap fun i =>
        ofPosition f i s.stations.entries[i] := by
  rw [presentEntries]
  induction List.finRange 64 with
  | nil => rfl
  | cons i l ih =>
    cases h : s.stations.entries[i] with
    | none => rw [List.filterMap_cons, List.filter_cons_of_neg (by rw [h]; nofun), h, Option.map_none, ih]
    | some e =>
      rw [List.filterMap_cons, List.filter_cons_of_pos (by rw [h]; rfl), h, Option.map_some, List.flatMap_cons, ih,
        List.flatMap_cons, h]
      rfl

theorem length_presentEntries (s : State) : s.presentEntries.length =
    ((List.finRange 64).filter fun i => s.stations.entries[i].isSome).length := by
  rw [presentEntries]
  induction List.finRange 64 with
  | nil => rfl
  | cons i l ih =>
    cases h : s.stations.entries[i] with
    | none => rw [List.filterMap_cons, List.filter_cons_of_neg (by rw [h]; nofun), h, Option.map_none, ih]
    | some e =>
      rw [List.filterMap_cons, List.filter_cons_of_pos (by rw [h]; rfl), h, Option.map_some, List.length_cons, ih,
        List.length_cons]

/-! ### The two requests -/

/-- R155, R156: a request whose block goes to `u`, with the acceptance behind it, and replies. -/
theorem take_of_reply_accepted {u : State} {k : RequestKind} {body : Execution} {st : Status} {data : List Byte}
    (h : s.Passes t k r) (hb : body t r (s.withManagement (s.management.accepted t r)) =
      (u.withManagement (u.management.accepted t r)).reply st data) : s.take k body = u.answered t r st data := by
  rw [State.take, takeRequest_of_passes h rfl, acceptRequest_eq, hb]
  exact acceptRequest_respond (s := u) h.due.tag st data

theorem clearGroup_accepted (g : Group) (s : State) (t : Fin 4) (r : Request) :
    (s.withManagement (s.management.accepted t r)).clearGroup g =
      (s.clearGroup g).withManagement ((s.clearGroup g).management.accepted t r) := by
  cases g <;> rfl

theorem counterData_withManagement_accepted (g : Group) (s : State) (t : Fin 4) (r : Request) :
    (s.withManagement (s.management.accepted t r)).counterData g = s.counterData g := by
  cases g <;> rfl

/-- R179. -/
theorem exec_clearCounters (h : s.Passes t .clearCounters r) (group : groupOf (r.byte 0) = some g) :
    exec .clearCounters s = .next ((s.clearGroup g).answered t r .ok []) :=
  congrArg Host.Outcome.next (take_of_reply_accepted h (by simp only [clearCounters, group, clearGroup_accepted]))

/-- R178, with the clear option 0. -/
theorem exec_readCounters_keep (h : s.Passes t .readCounters r) (group : groupOf (r.byte 0) = some g)
    (option : r.byte 1 = 0) :
    exec .readCounters s = .next (s.answered t r .ok (r.byte 0 :: s.counterData g)) :=
  congrArg Host.Outcome.next (take_of_reply h
    (by simp only [readCounters, group, option, if_true, counterData_withManagement_accepted]))

/-- R178, with the clear option 1. -/
theorem exec_readCounters_clear (h : s.Passes t .readCounters r) (group : groupOf (r.byte 0) = some g)
    (option : r.byte 1 = 1) :
    exec .readCounters s = .next ((s.clearGroup g).answered t r .ok (r.byte 0 :: s.counterData g)) := by
  have notKeep : (1 : Byte) ≠ 0 := by decide
  exact congrArg Host.Outcome.next (take_of_reply_accepted h (by
    simp only [readCounters, group, option, notKeep, if_true, if_false, counterData_withManagement_accepted,
      clearGroup_accepted]))

theorem readCounters_of_bad (bad : groupOf (r.byte 0) = none ∨ 1 < (r.byte 1).toNat) :
    State.readCounters t r s = s.reply .badValue := by
  cases group : groupOf (r.byte 0) with
  | none => simp only [State.readCounters, group]
  | some g =>
    have option : 1 < (r.byte 1).toNat := bad.resolve_left (by rw [group]; nofun)
    have h0 : r.byte 1 ≠ 0 := fun e => absurd option (by rw [e]; decide)
    have h1 : r.byte 1 ≠ 1 := fun e => absurd option (by rw [e]; decide)
    simp only [State.readCounters, group, h0, h1, if_false]

theorem clearCounters_of_bad (bad : groupOf (r.byte 0) = none) : State.clearCounters t r s = s.reply .badValue := by
  simp only [State.clearCounters, bad]

end State

/-- Settles O27: the number names the group, whose data and whose clearing the two requests share. -/
theorem counterGroupsAreReadAndCleared : Obligations.CounterGroupsAreReadAndCleared := by
  refine ⟨fun s t r k hk h data cleared named => ?_, fun s t r h bad => ?_, fun s t r h bad => ?_⟩
  · have group : ∃ g, groupOf (byteAt r.args 0) = some g ∧ data = s.counterData g ∧ cleared = s.clearGroup g := by
      split at named
      next n => exact ⟨.receive, by simp only [groupOf, n], named⟩
      next n => exact ⟨.lookup, by simp only [groupOf, n], named⟩
      next n => exact ⟨.reassembly, by simp only [groupOf, n], named⟩
      next n => exact ⟨.classifier, by simp only [groupOf, n], named⟩
      next n =>
        refine ⟨.queue, by simp only [groupOf, n], named.1.trans ?_, named.2⟩
        exact (State.flatMap_counterList_queue s).symm
      next n => exact ⟨.link, by simp only [groupOf, n], named⟩
      next n =>
        refine ⟨.station, by simp only [groupOf, n], named.1.trans ?_, named.2⟩
        rw [State.counterData, State.length_presentEntries,
          State.flatMap_presentEntries fun i e => e.counterBytes i]
        rfl
      next => exact named.elim
    obtain ⟨g, group, rfl, rfl⟩ := group
    refine ⟨?_, ?_, ?_⟩
    · rintro rfl
      exact State.exec_clearCounters h group
    · rintro rfl option
      exact State.exec_readCounters_keep h group option
    · rintro rfl option
      exact State.exec_readCounters_clear h group option
  · refine congrArg Host.Outcome.next (State.take_of_reply h (State.readCounters_of_bad ?_))
    obtain zero | above | option := bad
    · exact .inl (groupOf_zero zero)
    · exact .inl (groupOf_of_gt above)
    · exact .inr option
  · refine congrArg Host.Outcome.next (State.take_of_reply h (State.clearCounters_of_bad ?_))
    obtain zero | above := bad
    · exact groupOf_zero zero
    · exact groupOf_of_gt above

end Sys2Proof.Machine
end

section
/-! SOFT_RESTART (R165 with R33, R48, R74, R99, R116, R130, R138, R151, R159, R166, R180): what the restart leaves in
each block, and that it does not disturb the acceptance of the request that asks for it. -/

namespace Sys2Proof.Machine

/-- What a test of the front of a list keeps is an initial part of it, and so is what it carries. -/
theorem flatMap_takeWhile_prefix {α β : Type} (p : α → Bool) (f : α → List β) (l : List α) :
    (l.takeWhile p).flatMap f <+: l.flatMap f :=
  ⟨(l.dropWhile p).flatMap f, by rw [← List.flatMap_append, List.takeWhile_append_dropWhile]⟩

namespace State

variable {s : State} {t h : Fin 4} {r : Request} {g : Program} {q : U16}

/-! ### The frame in flight -/

/-- R130: the bytes of the frame in flight that have left the lane. -/
def restartSent (s : State) : List Byte :=
  match s.uplink.lane with
  | .delivery f => s.sentAtCut f
  | .idle => []
  | .response _ => []
  | .event _ => []

/-- R130: the lane after the restart. -/
def restartedLane (s : State) : Lane :=
  match s.uplink.lane with
  | .delivery f => if f.payload = .streaming then .delivery { f with payload := .cut s.restartSent .abortedRestart }
      else .delivery f
  | .idle => .idle
  | .response x => .response x
  | .event x => .event x

theorem sentAtCut_prefix (f : DeliveryFrame) (s : State) :
    s.sentAtCut f <+: s.pool.payload (s.pool.chainOf f.header.chain) := by
  refine (List.take_prefix _ _).trans ?_
  cases damaged : s.pool.damagedAfter (s.pool.chainOf f.header.chain) with
  | none => exact List.take_prefix _ _
  | some sent =>
    rw [BlockPool.damagedAfter] at damaged
    split at damaged
    · nomatch damaged
    · obtain rfl := Option.some.inj damaged
      exact flatMap_takeWhile_prefix _ _ _

/-- R130: only a streaming frame is cut, for one free value. -/
theorem cutFrame_eq (s : State) : s.cutFrame = (s.setLane s.restartedLane).withFreeDraws
    (if s.uplink.lane.streamingQueue = none then s.freeDraws else s.freeDraws + 1) := by
  obtain ⟨_, _, _, _, _, _, _, _, _, ⟨link, lane, errors⟩, _, _, _, _, _, _, _⟩ := s
  cases lane with
  | delivery f =>
    obtain ⟨queue, header, payload⟩ := f
    cases payload <;> rfl
  | _ => rfl

/-! ### Hold, pool and edit session -/

/-- R151: the Trunk Transmitter `x` after the restart, which ends a hold. -/
def restartedTx (mode : HoldMode) (link : TrunkLink) (a : Addr) (x : TrunkTransmitter) : TrunkTransmitter :=
  match mode, link with
  | .holding _, .up =>
    if x.inFlight = none then { x with inFlight := some (.release a) } else { x with slot := some (.release a) }
  | .holding _, .down => x
  | .quiet, _ => x

theorem restartHold_eq (s : State) :
    s.restartHold = (s.withHold { s.hold with mode := .quiet }).withTrunkTx
      (restartedTx s.hold.mode s.trunkRx.link s.params.trunkAddress s.trunkTx) := by
  cases mode : s.hold.mode with
  | quiet =>
    simp only [restartHold, restartedTx, mode]
    rw [← mode]
    rfl
  | holding z =>
    cases link : s.trunkRx.link with
    | down =>
      simp only [restartHold, restartedTx, mode, requestRelease]
      rw [transmit_of_down (by exact link)]
      rfl
    | up =>
      simp only [restartHold, restartedTx, mode, requestRelease]
      by_cases idle : s.trunkTx.inFlight = none
      · rw [transmit_of_idle (by exact link) (by exact idle), if_pos idle]
        rfl
      · rw [transmit_of_busy (by exact link) (by exact idle), if_neg idle]
        rfl

/-- R48: with every block free the hand-over of the free count starts no hold. -/
theorem rebuildPool_eq (quiet : s.hold.mode = .quiet) (enough : s.params.hOn ≤ 2048) : s.rebuildPool =
    (s.withPool { s.pool with free := List.range 2048, chains := [] }).withHold { mode := .quiet, lastFree := 2048 } := by
  have count : (List.range 2048).length = 2048 := List.length_range
  rw [rebuildPool, handFreeCount, withPool_pool, count, evaluateHold_of_enough (by exact quiet) (by exact enough)]
  rw [← quiet]
  rfl

/-- R116, R159: the Management Unit `m` after the restart: a COMMIT that was pending is recorded as RESTARTED. -/
def restartedManagement (e : EditState) (m : Management) : Management :=
  match e with
  | .committing h _ q =>
    if m.sessions[h].awaitsSwap = true ∧ m.sessions[h].lastSequence = some q then
      { m with sessions := m.sessions.set h { m.sessions[h] with
          inProgress := false, cached := some (.whole 0x27 .restarted []), awaitsSwap := false } }
    else m
  | .editing _ _ _ => m
  | .none => m

theorem restartProgram_eq (s : State) : s.restartProgram =
    (s.setEdit .none).withManagement (restartedManagement s.program.edit s.management) := by
  cases edit : s.program.edit with
  | none =>
    simp only [restartProgram, restartedManagement, edit, setEdit]
    rw [← edit]
    rfl
  | editing _ _ _ =>
    simp only [restartProgram, restartedManagement, edit]
    rfl
  | committing h g q =>
    simp only [restartProgram, restartedManagement, edit, cacheDeferred_eq]
    by_cases waits : s.management.sessions[h].awaitsSwap = true ∧ s.management.sessions[h].lastSequence = some q
    · exact (if_pos waits).trans (congrArg (s.setEdit .none).withManagement (if_pos waits).symm)
    · exact (if_neg waits).trans (congrArg (s.setEdit .none).withManagement (if_neg waits).symm)

/-- R116, R159: the Management Unit `m` after a restart that tag `t` has asked for: a COMMIT of that tag is not its
newest request any more. -/
def restartedFor (t : Fin 4) (e : EditState) (m : Management) : Management :=
  match e with
  | .committing h _ q =>
    if h ≠ t ∧ m.sessions[h].awaitsSwap = true ∧ m.sessions[h].lastSequence = some q then
      { m with sessions := m.sessions.set h { m.sessions[h] with
          inProgress := false, cached := some (.whole 0x27 .restarted []), awaitsSwap := false } }
    else m
  | .editing _ _ _ => m
  | .none => m

/-- R159: the acceptance of a request writes the session of its own tag alone. -/
theorem accepted_session_ne (m : Management) (r : Request) (ne : h ≠ t) :
    (m.accepted t r).sessions[h] = m.sessions[h] := by
  have hv : t.val ≠ h.val := fun e => ne (Fin.ext e.symm)
  simp [Management.accepted, Vector.getElem_set_ne, hv]

theorem accepted_set_session (m : Management) (r : Request) (ne : h ≠ t) (x : Session) :
    { m.accepted t r with sessions := (m.accepted t r).sessions.set h x } =
      ({ m with sessions := m.sessions.set h x } : Management).accepted t r := by
  have hv : h.val ≠ t.val := fun e => ne (Fin.ext e)
  simp [Management.accepted, Vector.getElem_set_ne, hv, Vector.set_comm _ _ hv.symm]

theorem restartedManagement_accepted (e : EditState) (m : Management) (t : Fin 4) (r : Request) :
    restartedManagement e (m.accepted t r) = (restartedFor t e m).accepted t r := by
  cases e with
  | none => rfl
  | editing _ _ _ => rfl
  | committing h g q =>
    simp only [restartedManagement, restartedFor]
    by_cases same : h = t
    · subst same
      have none : (m.accepted h r).sessions[h].awaitsSwap = false := by simp [Management.accepted]
      rw [if_neg fun waits => Bool.false_ne_true (none.symm.trans waits.1), if_neg fun c => c.1 rfl]
    · rw [accepted_session_ne _ _ same]
      by_cases waits : m.sessions[h].awaitsSwap = true ∧ m.sessions[h].lastSequence = some q
      · rw [if_pos waits, if_pos ⟨same, waits⟩, accepted_set_session _ _ same]
      · rw [if_neg waits, if_neg fun c => waits c.2]

/-! ### The restart -/

/-- R165: the state after a restart that leaves the Management Unit as `m`. -/
def restarted (m : Management) (s : State) : State :=
  { s with
    trunkTx := restartedTx s.hold.mode s.trunkRx.link s.params.trunkAddress s.trunkTx,
    stations := { s.stations with
      entries := mapTable (Option.map fun e : StationEntry => { e with openCount := 0 }) s.stations.entries },
    pool := { s.pool with free := List.range 2048, chains := [] },
    reassembly := { s.reassembly with contexts := mapTable Context.restart s.reassembly.contexts, pendingList := [] },
    classifier := { s.classifier with state := .idle, messageId := 0 },
    program := { s.program with edit := .none },
    delivery := { queues := mapTable Queue.restart s.delivery.queues, current := 7, turns := 0 },
    uplink := { s.uplink with lane := s.restartedLane },
    hold := { mode := .quiet, lastFree := 2048 },
    management := m,
    events := { s.events with
      slots := mapTable EventSlot.restart s.events.slots, due := false, timer := none, flushNote := false },
    freeDraws := if s.uplink.lane.streamingQueue = none then s.freeDraws else s.freeDraws + 1 }

theorem restartParts_eq (enough : s.params.hOn ≤ 2048) :
    s.restartParts = s.restarted (restartedManagement s.program.edit s.management) := by
  rw [restartParts, restartHold_eq, restartProgram_eq, cutFrame_eq,
    rebuildPool_eq (by simp) (by simpa [restartReassembly] using enough)]
  refine State.ext_fields ?_ ?_ ?_ ?_ ?_ ?_ ?_ ?_ ?_ ?_ ?_ ?_ ?_ ?_ ?_ ?_ ?_ <;>
    simp [restartReassembly, restartDelivery, restartEvents, setEdit, setLane, restarted]

theorem restarted_withManagement (m m' x : Management) :
    (s.withManagement m).restarted m' = (s.restarted x).withManagement m' := rfl

/-- R159, R165: the restart and its answer, told from the state before the take. -/
theorem take_softRestart (passes : s.Passes t .softRestart r) (enough : s.params.hOn ≤ 2048) :
    s.take .softRestart State.softRestart =
      (s.restarted (restartedFor t s.program.edit s.management)).answered t r .ok [] := by
  refine take_of_reply_accepted passes ?_
  rw [State.softRestart, restartParts_eq (by exact enough), withManagement_management, withManagement_program,
    restartedManagement_accepted, restarted_withManagement]
  rfl

end State

/-- Settles O12: the blocks after the restart one by one; the bytes that were sent are those at the cut. -/
theorem softRestartClearsTheTraffic : Obligations.SoftRestartClearsTheTraffic := by
  refine fun s t r h enough => ⟨s.restartSent, fun f lane => ?_, congrArg Host.Outcome.next ?_⟩
  · simp only [State.restartSent, lane]
    exact s.sentAtCut_prefix f
  · exact State.take_softRestart h enough

end Sys2Proof.Machine
end

section
/-! The trunk receiver and the lookup (R5 to R11, R18 to R21): the five admission steps one by one, and what the lookup
does with an admitted cell. -/

namespace Sys2Proof.Machine

/-! ### The admission steps -/

/-- R5. -/
theorem cellCheckGood_iff {u : LaneUnit} : cellCheckGood u = true ↔ 9 ≤ u.bytes.length ∧ u.codingError = false ∧
    crc16 (u.bytes.take (u.bytes.length - 2)) = word16At u.bytes (u.bytes.length - 2) := by
  simp [cellCheckGood, and_assoc]

/-- Section 1.2: the code of a kind of data cell. -/
def DataKind.code (k : DataKind) : Nat := match k with | .only => 1 | .first => 2 | .middle => 3 | .last => 4

/-- R6: what a data cell of kind `k` looks like. -/
def IsData (bytes : List Byte) (k : DataKind) : Prop :=
  (cellCode bytes).toNat = k.code ∧ 1 ≤ cellPayloadLength bytes ∧ cellPayloadLength bytes ≤ 56 ∧
    bytes.length = 9 + cellPayloadLength bytes

/-- R6: what a HOLD or RELEASE cell looks like. -/
def IsControl (bytes : List Byte) : Prop :=
  ((cellCode bytes).toNat = 8 ∨ (cellCode bytes).toNat = 9) ∧ bytes.length = 9

theorem cellKind_of_code {c : BitVec 4} {k : DataKind} (h : c.toNat = k.code) : cellKind c = some (.data k) := by
  cases k <;> simp only [cellKind, h, DataKind.code]

theorem cellFormat_of_data {bytes : List Byte} {k : DataKind} (h : IsData bytes k) :
    cellFormat bytes = some (.data k) := by
  obtain ⟨code, shape⟩ := h
  simp only [cellFormat, cellKind_of_code code]
  exact if_pos shape

theorem cellFormat_of_control {bytes : List Byte} (h : IsControl bytes) :
    cellFormat bytes = some .hold ∨ cellFormat bytes = some .release := by
  obtain ⟨code | code, length⟩ := h
  · exact .inl (by simp only [cellFormat, cellKind, code, length, if_true])
  · exact .inr (by simp only [cellFormat, cellKind, code, length, if_true])

/-- R6: every other unit fails the second step. -/
theorem cellFormat_of_neither {bytes : List Byte} (notData : ∀ k, ¬ IsData bytes k) (notControl : ¬ IsControl bytes) :
    cellFormat bytes = none := by
  have noData (k : DataKind) (code : (cellCode bytes).toNat = k.code) : cellFormat bytes = none := by
    simp only [cellFormat, cellKind_of_code code]
    exact if_neg fun shape => notData k ⟨code, shape⟩
  have noControl (code : (cellCode bytes).toNat = 8 ∨ (cellCode bytes).toNat = 9) : cellFormat bytes = none := by
    have length : bytes.length ≠ 9 := fun h => notControl ⟨code, h⟩
    obtain code | code := code <;> simp only [cellFormat, cellKind, code, length, if_false]
  by_cases control : (cellCode bytes).toNat = 8 ∨ (cellCode bytes).toNat = 9
  · exact noControl control
  by_cases only : (cellCode bytes).toNat = 1
  · exact noData .only only
  by_cases first : (cellCode bytes).toNat = 2
  · exact noData .first first
  by_cases middle : (cellCode bytes).toNat = 3
  · exact noData .middle middle
  by_cases last : (cellCode bytes).toNat = 4
  · exact noData .last last
  have unknown : cellKind (cellCode bytes) = none := by
    rw [cellKind]
    split
    · exact absurd ‹_› only
    · exact absurd ‹_› first
    · exact absurd ‹_› middle
    · exact absurd ‹_› last
    · exact absurd (.inl ‹_›) control
    · exact absurd (.inr ‹_›) control
    · rfl
  simp only [cellFormat, unknown]

/-- R8: a cell is for the part. -/
def ForPart (a : Addr) (bytes : List Byte) : Prop :=
  a = 0 ∨ cellDestination bytes = a ∨ cellDestination bytes = 4095

variable {u : LaneUnit} {a : Addr} {k : DataKind}

theorem admission_of_badCheck (h : cellCheckGood u ≠ true) : admission a u = .badCheck := if_neg h

theorem admission_of_badFormat (good : cellCheckGood u = true) (format : cellFormat u.bytes = none) :
    admission a u = .badFormat := by
  simp only [admission, good, format, if_true]

theorem admission_of_control (good : cellCheckGood u = true) (control : IsControl u.bytes) :
    admission a u = .notData := by
  obtain format | format := cellFormat_of_control control <;> simp only [admission, good, format, if_true]

theorem admission_of_other (good : cellCheckGood u = true) (data : IsData u.bytes k) (other : ¬ ForPart a u.bytes) :
    admission a u = .notForPart := by
  have h : ¬ (cellDestination u.bytes = a ∨ cellDestination u.bytes = 4095 ∨ a = 0) := fun h =>
    other (by rw [ForPart]; tauto)
  simp only [admission, good, cellFormat_of_data data, h, if_true, if_false]

theorem admission_of_data (good : cellCheckGood u = true) (data : IsData u.bytes k) (part : ForPart a u.bytes) :
    admission a u = if cellSource u.bytes = 0 ∨ cellSource u.bytes = 4095 then .badSource else .admitted k := by
  have h : cellDestination u.bytes = a ∨ cellDestination u.bytes = 4095 ∨ a = 0 := by
    rw [ForPart] at part
    tauto
  simp only [admission, good, cellFormat_of_data data, h, if_true]

namespace State

variable {s : State}

/-! ### A received unit -/

/-- R11: every unit received is counted. -/
def counted (s : State) : State := s.withTrunkRx { s.trunkRx with received := satInc s.trunkRx.received }

theorem receivedCell_of_not (h : s.trunkRx.link = .down ∨ u.begunInUp = false) : s.receivedCell u = s := by
  obtain down | early := h
  · simp only [receivedCell, down]
  · cases link : s.trunkRx.link <;> simp only [receivedCell, link, early]

variable (up : s.trunkRx.link = .up) (begun : u.begunInUp = true)

include up begun

theorem receivedCell_of_badCheck (h : admission s.params.trunkAddress u = .badCheck) : s.receivedCell u =
    (s.counted.withTrunkRx { s.counted.trunkRx with badCheck := satInc s.counted.trunkRx.badCheck }).post
      .cellError 0 := by
  simp only [receivedCell, up, begun, h]
  rfl

theorem receivedCell_of_badFormat
    (h : admission s.params.trunkAddress u = .badFormat ∨ admission s.params.trunkAddress u = .badSource) :
    s.receivedCell u =
      (s.counted.withTrunkRx { s.counted.trunkRx with badFormat := satInc s.counted.trunkRx.badFormat }).post
        .cellError 0 := by
  obtain h | h := h <;>
  · simp only [receivedCell, up, begun, h]
    rfl

theorem receivedCell_of_notData (h : admission s.params.trunkAddress u = .notData) : s.receivedCell u =
    s.counted.withTrunkRx { s.counted.trunkRx with notData := satInc s.counted.trunkRx.notData } := by
  simp only [receivedCell, up, begun, h]
  rfl

theorem receivedCell_of_notForPart (h : admission s.params.trunkAddress u = .notForPart) : s.receivedCell u =
    s.counted.withTrunkRx { s.counted.trunkRx with notForPart := satInc s.counted.trunkRx.notForPart } := by
  simp only [receivedCell, up, begun, h]
  rfl

theorem receivedCell_of_admitted (h : admission s.params.trunkAddress u = .admitted k) :
    s.receivedCell u = s.counted.lookupCell k u.bytes := by
  simp only [receivedCell, up, begun, h]
  rfl

end State

/-- The four kinds by their codes 1 to 4. -/
theorem exists_isData {bytes : List Byte} (low : 1 ≤ (cellCode bytes).toNat) (high : (cellCode bytes).toNat ≤ 4)
    (shape : 1 ≤ cellPayloadLength bytes ∧ cellPayloadLength bytes ≤ 56 ∧
      bytes.length = 9 + cellPayloadLength bytes) : ∃ k, IsData bytes k := by
  obtain h | h | h | h : (cellCode bytes).toNat = 1 ∨ (cellCode bytes).toNat = 2 ∨ (cellCode bytes).toNat = 3 ∨
    (cellCode bytes).toNat = 4 := by omega
  · exact ⟨.only, h, shape⟩
  · exact ⟨.first, h, shape⟩
  · exact ⟨.middle, h, shape⟩
  · exact ⟨.last, h, shape⟩

theorem IsData.code_bounds {bytes : List Byte} (h : IsData bytes k) :
    1 ≤ (cellCode bytes).toNat ∧ (cellCode bytes).toNat ≤ 4 := by
  rw [h.1]
  cases k <;> decide

/-- Settles O37: the unit is dropped at the first admission step that it fails. -/
theorem cellsAreRefusedAtAdmission : Obligations.CellsAreRefusedAtAdmission := by
  refine fun s u => ⟨fun h => congrArg Host.Outcome.next (State.receivedCell_of_not h), fun up begun => ?_⟩
  intro n x checks code isData isControl forPart
  have good : checks ↔ cellCheckGood u = true := cellCheckGood_iff.symm
  have data : isData → ∃ k, IsData u.bytes k := fun h => exists_isData h.1 h.2.1 h.2.2
  refine ⟨fun bad => congrArg Host.Outcome.next ?_, fun pass notData notControl => congrArg Host.Outcome.next ?_,
    fun pass control => congrArg Host.Outcome.next ?_, fun pass isData other => congrArg Host.Outcome.next ?_,
    fun pass isData part source => congrArg Host.Outcome.next ?_⟩
  · exact State.receivedCell_of_badCheck up begun (admission_of_badCheck fun h => bad (good.2 h))
  · refine State.receivedCell_of_badFormat up begun (.inl (admission_of_badFormat (good.1 pass)
      (cellFormat_of_neither (fun k h => notData ?_) notControl)))
    exact ⟨h.code_bounds.1, h.code_bounds.2, h.2⟩
  · exact State.receivedCell_of_notData up begun (admission_of_control (good.1 pass) control)
  · obtain ⟨k, hk⟩ := data isData
    exact State.receivedCell_of_notForPart up begun (admission_of_other (good.1 pass) hk other)
  · obtain ⟨k, hk⟩ := data isData
    exact State.receivedCell_of_badFormat up begun (.inr ((admission_of_data (good.1 pass) hk part).trans
      (if_pos source)))

/-! ### The lookup -/

theorem post_timebase (b : Bool) (p : Params) (k : EventKind) (d : U16) (e : EventUnit) :
    (e.post b p k d).timebase = e.timebase := by
  rw [EventUnit.post]
  split
  · split
    · rfl
    · rw [EventUnit.testCount]
      split <;> rfl
  · rfl

/-- R10: the class of an admitted cell (log 24). -/
theorem admittedCell_eq (k : DataKind) (bytes : List Byte) (arrival : U32) (tag : Byte) :
    admittedCell k bytes arrival tag = {
      kind := k, source := cellSource bytes, channel := cellChannel bytes, sequence := cellSequence bytes,
      cls := if k = .only ∨ k = .first then cellClass bytes else 0,
      payload := (bytes.drop 7).take (cellPayloadLength bytes), arrival := arrival, tag := tag } := by
  cases k <;> rfl

namespace State

variable {s : State} {bytes : List Byte} {i : Fin 64} {e : StationEntry}

theorem lookupCell_of_admits (h : s.stations.Has (cellSource bytes) i e) (admits : e.admission = .admits) :
    s.lookupCell k bytes = s.acceptedCell i e k bytes := by
  simp only [lookupCell, findStation_of_has h, h.1, admits]

theorem lookupCell_of_blocks (h : s.stations.Has (cellSource bytes) i e) (blocks : e.admission = .blocks) :
    s.lookupCell k bytes = s.blockedCell i e := by
  simp only [lookupCell, findStation_of_has h, h.1, blocks]

theorem lookupCell_of_room (h : s.stations.Lacks (cellSource bytes)) (learning : s.params.learning = true)
    (room : s.stations.Room i) : s.lookupCell k bytes = (s.postStation .stationLearned (cellSource bytes)).acceptedCell
      i (s.learnedEntry (cellSource bytes)) k bytes := by
  simp only [lookupCell, findStation_of_lacks h, learning, emptyPosition_of_room room, if_true]

theorem lookupCell_of_foreign (h : s.stations.Lacks (cellSource bytes))
    (no : s.params.learning = false ∨ ∀ i : Fin 64, s.stations.entries[i] ≠ none) :
    s.lookupCell k bytes = s.foreignCell (cellSource bytes) := by
  obtain learning | full := no
  · simp only [lookupCell, findStation_of_lacks h, learning, Bool.false_eq_true, if_false]
  · cases learning : s.params.learning <;>
      simp only [lookupCell, findStation_of_lacks h, learning, emptyPosition_of_full full, Bool.false_eq_true, if_true,
        if_false]

end State

/-- Settles O38: the unit passes the five steps, and the lookup is by the entry of its source. -/
theorem admittedCellsAreLookedUp : Obligations.AdmittedCellsAreLookedUp := by
  intro s u k n a up begun long coding crc code low high length part nonzero small v handed
  have source : ¬ (cellSource u.bytes = 0 ∨ cellSource u.bytes = 4095) := by
    rintro (h | h)
    · exact absurd nonzero (by rw [show a = 0 from h]; decide)
    · exact absurd small (by rw [show a = 4095 from h]; decide)
  have data : IsData u.bytes k := ⟨code, low, high, length⟩
  have admitted := (admission_of_data (cellCheckGood_iff.2 ⟨long, coding, crc⟩) data part).trans (if_neg source)
  have cell : exec (.receivedCell u) s = .next (s.counted.lookupCell k u.bytes) :=
    congrArg Host.Outcome.next (State.receivedCell_of_admitted up begun admitted)
  rw [cell]
  refine ⟨fun i e has admits => ?_, fun i e has blocks => ?_, fun i lacks learning room => ?_, fun lacks no => ?_⟩ <;>
    refine congrArg Host.Outcome.next ?_
  · rw [State.lookupCell_of_admits (s := s.counted) has admits, State.acceptedCell, admittedCell_eq]
    rfl
  · have address : e.address = a := has.2.1
    rw [State.lookupCell_of_blocks (s := s.counted) has blocks, State.blockedCell, address]
    rfl
  · rw [State.lookupCell_of_room (s := s.counted) lacks learning room, State.acceptedCell, admittedCell_eq, State.now,
      State.postStation, State.post, State.withEvents_events, post_timebase]
    rfl
  · rw [State.lookupCell_of_foreign (s := s.counted) lacks no]
    rfl

end Sys2Proof.Machine
end

section
/-! The release of chains (R41, R43), and what the Classifier takes: the head of the pending list and the properties of
its message (R76 to R80). -/

namespace Sys2Proof.Machine

/-! ### Releasing a chain -/

/-- R41: the blocks of a linked chain join the tail of the free list. -/
theorem BlockPool.Forms.release_eq {p : BlockPool} {c : Chain} {l : List Nat} (h : p.Forms c l) :
    p.release c = { p with free := p.free ++ l } := by
  rw [BlockPool.release, h.chainBlocks]

/-- Settles O31: a release appends the chain's blocks, and a record that goes changes the one entry of its chain. -/
theorem chainsAreReleased : Obligations.ChainsAreReleased := by
  refine ⟨fun p c l h => h.release_eq, fun s h canonical => ?_⟩
  intro e
  refine ⟨fun many => ⟨s.pool.setChainEntry h { e with refs := e.refs - 1 }, if_pos many, rfl, rfl, rfl,
    fun j => BlockPool.chainEntry_setChainEntry canonical h _ j⟩, fun last l forms => ?_⟩
  have left : (s.pool.setChainEntry h .absent).Forms { head := h, tail := e.tail, count := e.count } l :=
    forms.congr fun _ _ => rfl
  have dropped : s.dropReference h = (s.withPool (s.pool.setChainEntry h .absent)).releaseChain (s.pool.chainOf h) :=
    if_neg (Nat.not_le.2 (Nat.lt_succ_of_le last))
  refine ⟨{ s.pool.setChainEntry h .absent with free := s.pool.free ++ l }, ?_, rfl, rfl, rfl,
    fun j => BlockPool.chainEntry_setChainEntry canonical h _ j⟩
  rw [dropped]
  exact congrArg (fun p => (s.withPool p).handFreeCount) left.release_eq

/-! ### The take -/

namespace State

variable {s : State} {i : Fin 48} {rest : List (Fin 48)} {m : Message}

theorem commitPending_of_committing {h : Fin 4} {g : Program} {q : U16} (edit : s.program.edit = .committing h g q) :
    s.commitPending = true := by
  simp only [commitPending, edit]

theorem commitPending_eq_false (none : ∀ h g q, s.program.edit ≠ .committing h g q) : s.commitPending = false := by
  rw [commitPending]
  cases edit : s.program.edit with
  | committing h g q => exact absurd edit (none h g q)
  | editing _ _ _ => rfl
  | none => rfl

theorem classifierTake_of_head (idle : s.classifier.state = .idle) (list : s.reassembly.pendingList = i :: rest)
    (none : ∀ h g q, s.program.edit ≠ .committing h g q) (complete : s.reassembly.contexts[i].body = .complete m) :
    s.classifierTake = (s.withReassembly { s.reassembly with pendingList := rest }).withClassifier
      { s.classifier with state := .classifying i (s.pool.gather s.program.active m) } := by
  simp only [classifierTake, idle, list, commitPending_eq_false none, context, complete, Bool.false_eq_true, if_false]

theorem classifierTake_of_not (no : s.classifier.state ≠ .idle ∨ (∃ h g q, s.program.edit = .committing h g q) ∨
    s.reassembly.pendingList = []) : s.classifierTake = s := by
  cases idle : s.classifier.state with
  | classifying _ _ => simp only [classifierTake, idle]
  | idle =>
    cases list : s.reassembly.pendingList with
    | nil => simp only [classifierTake, idle, list]
    | cons i rest =>
      obtain busy | ⟨h, g, q, edit⟩ | empty := no
      · exact absurd idle busy
      · simp only [classifierTake, idle, list, commitPending_of_committing edit, if_true]
      · rw [empty] at list
        nomatch list

end State

/-! ### The bytes of a message -/

namespace BlockPool

variable {p : BlockPool} {c : Chain} {l : List Nat} {n : Nat}

@[simp] theorem length_blockContent (p : BlockPool) (b : Nat) : (p.blockContent b).length = (p.fields b).fill := by
  rw [blockContent, Memory.read_eq_map, List.length_map, List.length_range]

theorem getElem?_blockContent {b o : Nat} (h : o < (p.fields b).fill) :
    (p.blockContent b)[o]? = some (Sparse.get 0 p.content (64 * b + o)) := by
  rw [blockContent, Memory.read_eq_map, List.getElem?_map, List.getElem?_range h]
  rfl

/-- R40: message byte `o` of blocks that are full but for the last is byte `o` modulo 64 of block `o` / 64. -/
theorem getElem?_flatMap_blockContent (o : Nat) (full : ∀ i, i + 1 < l.length → ∀ b, l[i]? = some b →
      (p.fields b).fill = 64) (room : ∀ b ∈ l, (p.fields b).fill ≤ 64) (h : o < (l.flatMap p.blockContent).length) :
    o / 64 < l.length ∧ (l.flatMap p.blockContent)[o]? = some (p.messageByte l o) := by
  induction l generalizing o with
  | nil => simp at h
  | cons b rest ih =>
    rw [List.flatMap_cons, List.length_append, length_blockContent] at h
    by_cases here : o < (p.fields b).fill
    · have small : o < 64 := Nat.lt_of_lt_of_le here (room b List.mem_cons_self)
      refine ⟨by simp only [List.length_cons]; omega, ?_⟩
      rw [List.flatMap_cons, List.getElem?_append_left (by rwa [length_blockContent]), getElem?_blockContent here,
        messageByte, Nat.div_eq_of_lt small, Nat.mod_eq_of_lt small]
      rfl
    · have more : rest ≠ [] := by
        rintro rfl
        simp only [List.flatMap_nil, List.length_nil] at h
        omega
      have first : (p.fields b).fill = 64 :=
        full 0 (Nat.succ_lt_succ (List.length_pos_iff.2 more)) b rfl
      obtain ⟨inside, byte⟩ := ih (o - 64)
        (fun i hi b' hb => full (i + 1) (Nat.succ_lt_succ hi) b' hb) (fun b' hb => room b' (List.mem_cons_of_mem b hb))
        (by omega)
      have place : o / 64 = (o - 64) / 64 + 1 := by omega
      refine ⟨by rw [place]; exact Nat.succ_lt_succ inside, ?_⟩
      rw [List.flatMap_cons, List.getElem?_append_right (by rw [length_blockContent]; omega), length_blockContent, first,
        byte, messageByte, messageByte, place, List.getD_cons_succ, show (o - 64) % 64 = o % 64 by omega]

/-- R40: a byte of the payload of a linked chain. -/
theorem Forms.payload_byte (h : p.Forms c l) {o : Nat} (inside : o < (p.payload c).length) :
    o / 64 < l.length ∧ byteAt (p.payload c) o = p.messageByte l o := by
  rw [h.payload_eq] at inside ⊢
  obtain ⟨place, byte⟩ := getElem?_flatMap_blockContent o h.full (fun b hb => h.fill_le hb) inside
  exact ⟨place, by rw [byteAt, List.getD_eq_getElem?_getD, byte]; rfl⟩

/-! ### The read of one probe -/

/-- R45, R79: the read of probe `o` comes upon a block that does not verify. -/
def DamagedAt (p : BlockPool) (l : List Nat) (n : Nat) (probe : Option U16) : Prop :=
  ∃ o b, probe = some o ∧ o.toNat + 2 ≤ n ∧ (l[o.toNat / 64]? = some b ∨ l[(o.toNat + 1) / 64]? = some b) ∧
    p.verifies b = false

/-- R79: the value of a probe that does not come upon one. -/
def probeValue (bytes : List Byte) (n : Nat) : Option U16 → U16
  | none => 0
  | some o => if n < o.toNat + 2 then 0 else word16At bytes o.toNat

/-- R78: the part of a probe in SHORTS. -/
def probeBit (n : Nat) (bit : U16) : Option U16 → U16
  | none => 0
  | some o => if n < o.toNat + 2 then bit else 0

theorem getD_eq_of_lt {l : List Nat} {i : Nat} (h : i < l.length) : l[i]? = some (l.getD i 0) := by
  rw [List.getD_eq_getElem _ _ h, List.getElem?_eq_getElem h]

/-- R79: what a probe within the message reads. -/
theorem Forms.readProbe_of_le (h : p.Forms c l) (length : (p.payload c).length = n) {o : U16} (le : o.toNat + 2 ≤ n) :
    p.readProbe l n (some o) =
      if p.verifies (l.getD (o.toNat / 64) 0) && p.verifies (l.getD ((o.toNat + 1) / 64) 0) then
        .value (word16At (p.payload c) o.toNat)
      else .damaged := by
  have first := (h.payload_byte (o := o.toNat) (by omega)).2
  have second := (h.payload_byte (o := o.toNat + 1) (by omega)).2
  rw [readProbe]
  simp only [Nat.not_lt.2 le, if_false, word16At, first, second]

theorem Forms.readProbe_damaged_iff (h : p.Forms c l) (length : (p.payload c).length = n) (probe : Option U16) :
    p.readProbe l n probe = .damaged ↔ p.DamagedAt l n probe := by
  cases probe with
  | none => exact ⟨nofun, fun ⟨_, _, absent, _⟩ => nomatch absent⟩
  | some o =>
    by_cases le : o.toNat + 2 ≤ n
    · have first := getD_eq_of_lt (h.payload_byte (o := o.toNat) (by omega)).1
      have second := getD_eq_of_lt (h.payload_byte (o := o.toNat + 1) (by omega)).1
      rw [h.readProbe_of_le length le]
      by_cases good : p.verifies (l.getD (o.toNat / 64) 0) && p.verifies (l.getD ((o.toNat + 1) / 64) 0)
      · rw [if_pos good, Bool.and_eq_true] at *
        refine ⟨nofun, ?_⟩
        rintro ⟨x, b, same, -, place, bad⟩
        obtain rfl := Option.some.inj same
        obtain at1 | at2 := place
        · rw [first, Option.some.injEq] at at1
          rw [← at1, good.1] at bad
          nomatch bad
        · rw [second, Option.some.injEq] at at2
          rw [← at2, good.2] at bad
          nomatch bad
      · rw [if_neg good]
        refine ⟨fun _ => ?_, fun _ => rfl⟩
        rw [Bool.and_eq_true, not_and_or, Bool.not_eq_true, Bool.not_eq_true] at good
        obtain bad | bad := good
        · exact ⟨o, _, rfl, le, .inl first, bad⟩
        · exact ⟨o, _, rfl, le, .inr second, bad⟩
    · have short : p.readProbe l n (some o) = .short := if_pos (Nat.lt_of_not_le le)
      rw [short]
      refine ⟨nofun, ?_⟩
      rintro ⟨x, _, same, inside, -⟩
      obtain rfl := Option.some.inj same
      exact absurd inside le

theorem Forms.number_readProbe (h : p.Forms c l) (length : (p.payload c).length = n) {probe : Option U16}
    (whole : p.readProbe l n probe ≠ .damaged) :
    (p.readProbe l n probe).number = probeValue (p.payload c) n probe := by
  cases probe with
  | none => rfl
  | some o =>
    by_cases le : o.toNat + 2 ≤ n
    · rw [h.readProbe_of_le length le] at whole ⊢
      rw [probeValue, if_neg (Nat.not_lt.2 le)]
      split
      · rfl
      · next bad => exact absurd (if_neg bad) whole
    · have short : p.readProbe l n (some o) = .short := if_pos (Nat.lt_of_not_le le)
      rw [short, probeValue, if_pos (Nat.lt_of_not_le le)]
      rfl

theorem shortBit_readProbe (p : BlockPool) (l : List Nat) (n : Nat) (bit : U16) (probe : Option U16) :
    (p.readProbe l n probe).shortBit bit = probeBit n bit probe := by
  cases probe with
  | none => rfl
  | some o =>
    by_cases le : n < o.toNat + 2
    · have short : p.readProbe l n (some o) = .short := if_pos le
      rw [short, probeBit, if_pos le]
      rfl
    · rw [readProbe, probeBit]
      simp only [le, if_false, ProbeRead.shortBit]
      split <;> rfl

/-! ### The properties -/

theorem Forms.gather_of_damaged {g : Program} {m : Message} (h : p.Forms m.chain l)
    (length : (p.payload m.chain).length = m.byteCount) {k : Fin 4} (damaged : p.DamagedAt l m.byteCount g.probes[k]) :
    p.gather g m = .memoryError := by
  have read := (h.readProbe_damaged_iff length _).2 damaged
  rw [gather, h.chainBlocks]
  refine if_pos ?_
  match k, read with
  | 0, read => exact .inl read
  | 1, read => exact .inr (.inl read)
  | 2, read => exact .inr (.inr (.inl read))
  | 3, read => exact .inr (.inr (.inr read))

theorem Forms.gather_of_whole {g : Program} {m : Message} (h : p.Forms m.chain l)
    (length : (p.payload m.chain).length = m.byteCount) (whole : ∀ k : Fin 4, ¬ p.DamagedAt l m.byteCount g.probes[k]) :
    p.gather g m = .properties {
      station := m.station.zeroExtend 16, channel := m.channel.zeroExtend 16, cls := m.cls.zeroExtend 16,
      length := BitVec.ofNat 16 m.byteCount, tag := m.tag.zeroExtend 16,
      probe0 := probeValue (p.payload m.chain) m.byteCount g.probes[(0 : Fin 4)],
      probe1 := probeValue (p.payload m.chain) m.byteCount g.probes[(1 : Fin 4)],
      probe2 := probeValue (p.payload m.chain) m.byteCount g.probes[(2 : Fin 4)],
      probe3 := probeValue (p.payload m.chain) m.byteCount g.probes[(3 : Fin 4)],
      shorts := probeBit m.byteCount 1 g.probes[(0 : Fin 4)] + probeBit m.byteCount 2 g.probes[(1 : Fin 4)]
        + probeBit m.byteCount 4 g.probes[(2 : Fin 4)] + probeBit m.byteCount 8 g.probes[(3 : Fin 4)] } := by
  have read (k : Fin 4) : p.readProbe l m.byteCount g.probes[k] ≠ .damaged := fun e =>
    whole k ((h.readProbe_damaged_iff length _).1 e)
  rw [gather, h.chainBlocks]
  refine (if_neg ?_).trans ?_
  · rintro (e | e | e | e)
    · exact read 0 e
    · exact read 1 e
    · exact read 2 e
    · exact read 3 e
  · simp only [shortBit_readProbe, ← h.number_readProbe length (read 0), ← h.number_readProbe length (read 1),
      ← h.number_readProbe length (read 2), ← h.number_readProbe length (read 3)]
    rfl

end BlockPool

/-- Settles O39: the take in each case of its conditions, and the properties probe by probe. -/
theorem classifierTakesTheHeadAndItsProperties : Obligations.ClassifierTakesTheHeadAndItsProperties := by
  refine ⟨fun s => ⟨fun i rest m idle list none complete =>
      congrArg Host.Outcome.next (State.classifierTake_of_head idle list none complete),
    fun no => congrArg Host.Outcome.next (State.classifierTake_of_not no)⟩, fun p g m l h length => ?_⟩
  intro read damaged value bit
  have damaged_iff : damaged ↔ ∃ k : Fin 4, p.DamagedAt l m.byteCount g.probes[k] := by
    refine ⟨fun ⟨k, o, b, hr, place, bad⟩ => ⟨k, o, b, hr.1, hr.2, place, bad⟩,
      fun ⟨k, o, b, probe, le, place, bad⟩ => ⟨k, o, b, ⟨probe, le⟩, place, bad⟩⟩
  refine ⟨fun h' => ?_, fun h' => ?_⟩
  · obtain ⟨k, hk⟩ := damaged_iff.1 h'
    exact h.gather_of_damaged length hk
  · exact h.gather_of_whole length fun k hk => h' (damaged_iff.2 ⟨k, hk⟩)

end Sys2Proof.Machine
end

section
/-! The end step of the Classifier (R80, R90 to R96, R42): the hits that an evaluation earns are of different clauses,
the two queues of a MIRROR differ, and the step from an offer of copies on is the same for every action. -/

namespace Sys2Proof.Machine

/-! ### What an evaluation decides -/

namespace Program

variable {g : Program} {x : Properties} {pos : Nat} {mask : U16} {hits : List Nat} {a : Option ClauseAction}

/-- R85 to R89: evaluation moves forward, so that it earns a hit counter at most once. -/
theorem Decides.hits_forward (valid : g.Valid) (d : g.Decides x pos mask hits a) :
    (∀ n ∈ hits, pos ≤ n) ∧ hits.Nodup := by
  induction d with
  | default pos mask h => exact ⟨nofun, List.nodup_nil⟩
  | care pos mask m hits a h _ ih => exact ⟨fun n hn => Nat.le_of_succ_le (ih.1 n hn), ih.2⟩
  | andPasses pos mask p c o hits a h passes _ ih =>
    exact ⟨fun n hn => Nat.le_of_succ_le (ih.1 n hn), ih.2⟩
  | andFails pos mask p c o k hits a h fails ends _ ih =>
    exact ⟨fun n hn => (Nat.le_of_lt ends.1).trans (ih.1 n hn), ih.2⟩
  | endPassesNone pos mask p c o hits a h passes _ ih =>
    refine ⟨fun n hn => ?_, List.nodup_cons.2 ⟨fun again => ?_, ih.2⟩⟩
    · obtain rfl | hn := List.mem_cons.1 hn
      · exact Nat.le_refl _
      · exact Nat.le_of_succ_le (ih.1 n hn)
    · exact absurd (ih.1 pos again) (Nat.not_succ_le_self pos)
  | endPasses pos mask p c o a h acts passes =>
    exact ⟨fun n hn => Nat.le_of_eq (List.mem_singleton.1 hn).symm, List.nodup_singleton _⟩
  | endFails pos mask p c o b hits a h fails _ ih =>
    exact ⟨fun n hn => Nat.le_of_succ_le (ih.1 n hn), ih.2⟩
  | gatePasses pos mask p c o i hits a h passes _ ih =>
    exact ⟨fun n hn => Nat.le_of_succ_le (ih.1 n hn), ih.2⟩
  | gateFails pos mask p c o i hits a h fails _ ih =>
    exact ⟨fun n hn => (Nat.le_of_lt (valid.lt_resume h)).trans (ih.1 n hn), ih.2⟩

/-- R86: an action that is decided is that of a clause of the program. -/
theorem Decides.action_held {b : ClauseAction} (d : g.Decides x pos mask hits (some b)) :
    ∃ n p c o, g.Holds n (.testEnd p c o b) := by
  generalize decided : some b = a at d
  induction d with
  | default _ _ _ => nomatch decided
  | endPasses pos mask p c o a h acts passes =>
    obtain rfl := Option.some.inj decided
    exact ⟨pos, p, c, o, h⟩
  | _ => exact ‹_ → _› decided

/-- R111 check 4: the two queues of a MIRROR of a valid program differ. -/
theorem Valid.mirror_ne (valid : g.Valid) {n : Nat} {p c q q2 : Byte} {o : U16} {m : Bool}
    (h : g.Holds n (.testEnd p c o (.mirror q q2 m))) : q ≠ q2 := by
  rintro rfl
  exact valid.1 n 4 h.lt ⟨p, c, o, q, m, h⟩

end Program

/-- R90: one counter after the hits of a message, each at most once. -/
theorem getElem_foldl_satInc {hits : List Nat} (once : hits.Nodup) (v : Vector Counter 256) (j : Fin 256) :
    (hits.foldl (fun v i => if h : i < 256 then v.set i (satInc v[i]) else v) v)[j] =
      if j.val ∈ hits then satInc v[j] else v[j] := by
  induction hits generalizing v with
  | nil => rfl
  | cons i rest ih =>
    obtain ⟨fresh, once⟩ := List.nodup_cons.1 once
    rw [List.foldl_cons, ih once]
    by_cases same : j.val = i
    · subst same
      simp [fresh]
    · have apart : i ≠ j.val := fun e => same e.symm
      by_cases inside : i < 256
      · simp [inside, same, Vector.getElem_set_ne, apart]
      · simp [inside, same]

/-! ### Offering the copies -/

theorem offerTo_of_eq {b : Byte} {q : Fin 8} (h : b.toNat = q.val) (mirrored : Bool) :
    offerTo b mirrored = [{ queue := q, mirrored := mirrored }] := by
  have inside : b.toNat < 8 := h ▸ q.isLt
  have place : (⟨b.toNat, inside⟩ : Fin 8) = q := Fin.ext h
  rw [offerTo, dif_pos inside, place]

theorem toNat_natByte_queue (q : Fin 8) : (natByte q.val).toNat = q.val := by
  rw [natByte, BitVec.toNat_ofNat]
  omega

namespace State

variable {s u : State} {i : Fin 48} {m : Message} {x : Properties} {hits : List Nat} {a : Option ClauseAction}
  {q q2 : Fin 8} {n copies : Nat} {r : Record} {mark : Bool}

@[simp] theorem offered_frame (q : Fin 8) (n : Nat) (r : Record) (s : State) :
    (s.offered q n r).pool = s.pool ∧ (s.offered q n r).classifier = s.classifier ∧
    (s.offered q n r).reassembly = s.reassembly ∧ (s.offered q n r).program = s.program ∧
    (s.offered q n r).params = s.params := by
  by_cases accepts : s.Accepts q n <;> simp [offered, accepts]

theorem offered_queue_ne (ne : q2 ≠ q) (n : Nat) (r : Record) (s : State) :
    (s.offered q n r).delivery.queues[q2] = s.delivery.queues[q2] := by
  have hv : q.val ≠ q2.val := fun e => ne (Fin.ext e.symm)
  by_cases accepts : s.Accepts q n <;> simp [offered, accepts, Vector.getElem_set_ne, hv]

/-- R119: whether a queue accepts a copy does not depend on an offer to another queue. -/
theorem accepts_offered_ne (ne : q2 ≠ q) (n n' : Nat) (r : Record) (s : State) :
    (s.offered q n r).Accepts q2 n' = s.Accepts q2 n' := by
  obtain ⟨-, -, -, -, params⟩ := offered_frame q n r s
  rw [Accepts, Accepts, offered_queue_ne ne, params]

/-- R92, R119: one offer. -/
theorem offerCopy_eq (m : Message) (mark : Bool) (o : Offer) (n : Nat) (s : State) : offerCopy m mark o (n, s) =
    (n + (if s.Accepts o.queue m.chain.count then 1 else 0),
      s.offered o.queue m.chain.count (s.messageRecord m mark o.mirrored)) := by
  by_cases accepts : s.Accepts o.queue m.chain.count
  · exact (if_pos accepts).trans (Prod.ext (congrArg (n + ·) (if_pos accepts).symm) (if_pos accepts).symm)
  · exact (if_neg accepts).trans (Prod.ext (by rw [if_neg accepts, Nat.add_zero]) (if_neg accepts).symm)

theorem messageRecord_congr (classifier : u.classifier = s.classifier) (program : u.program = s.program)
    (mirrored : Bool) : u.messageRecord m mark mirrored = s.messageRecord m mark mirrored := by
  rw [messageRecord, messageRecord, classifier, program]

theorem offerCopies_deliver {b : Byte} (h : b.toNat = q.val) : s.offerCopies m (.deliver b mark) =
    (if s.Accepts q m.chain.count then 1 else 0, s.offered q m.chain.count (s.messageRecord m mark false)) := by
  rw [offerCopies, ClauseAction.offers, offerTo_of_eq h, List.foldl_cons, List.foldl_nil, offerCopy_eq, Nat.zero_add]
  rfl

theorem offerCopies_mirror {b b2 : Byte} (h : b.toNat = q.val) (h2 : b2.toNat = q2.val) (ne : q2 ≠ q) :
    s.offerCopies m (.mirror b b2 mark) =
      ((if s.Accepts q m.chain.count then 1 else 0) + (if s.Accepts q2 m.chain.count then 1 else 0),
        (s.offered q m.chain.count (s.messageRecord m mark false)).offered q2 m.chain.count
          (s.messageRecord m mark true)) := by
  obtain ⟨-, classifier, -, program, -⟩ := offered_frame q m.chain.count (s.messageRecord m mark false) s
  rw [offerCopies, ClauseAction.offers, offerTo_of_eq h, offerTo_of_eq h2, List.singleton_append, List.foldl_cons,
    List.foldl_cons, List.foldl_nil, offerCopy_eq, offerCopy_eq, Nat.zero_add]
  simp only [accepts_offered_ne ne, ClauseAction.mark, messageRecord_congr classifier program]

/-! ### The rest of the step -/

/-- R42, R95, R96: the state after the end step of a message of context `i` whose action left `u` and `copies` copies. -/
def finished (s : State) (i : Fin 48) (m : Message) (a : Option ClauseAction) (u : State) (copies : Nat)
    (discards : Bool) : State :=
  ((if copies = 0 then (u.withPool (s.pool.release m.chain)).handFreeCount
    else u.withPool (s.pool.setChainEntry m.chain.head
      { tail := m.chain.tail, count := m.chain.count, refs := copies })).contextPut i
    { s.reassembly.contexts[i] with body := .free } s.reassembly.counters).withClassifier
    { s.classifier with
      state := .idle,
      messageId := if copies = 0 then s.classifier.messageId else s.classifier.messageId + 1,
      classified := satInc s.classifier.classified,
      discarded := if discards then satInc s.classifier.discarded else s.classifier.discarded,
      byDefault := if a = none then satInc s.classifier.byDefault else s.classifier.byDefault }

theorem setBody_eq (same : u.reassembly = s.reassembly) (b : ContextState) : u.setBody i b =
    u.contextPut i { s.reassembly.contexts[i] with body := b } s.reassembly.counters := by
  rw [setBody, setContext, context, contextPut, same]

/-- R91: the step from the offers on. -/
theorem endEvaluated_eq {b : ClauseAction} (verdict : s.program.active.evaluate x = { hits := hits, action := a })
    (action : a.getD s.program.active.default.action = b)
    (offers : (s.countHits hits).offerCopies m b = (copies, u)) (pool : u.pool = s.pool)
    (classifier : u.classifier = s.classifier) (reassembly : u.reassembly = s.reassembly) :
    s.endEvaluated i m x = s.finished i m a u copies b.isDiscard := by
  have byDefault : (if a.isNone then satInc s.classifier.byDefault else s.classifier.byDefault) =
      if a = none then satInc s.classifier.byDefault else s.classifier.byDefault := by
    cases a <;> rfl
  simp only [endEvaluated, verdict, action, offers, finished, countClassified, idleClassifier, ← byDefault]
  by_cases none : copies = 0
  · have chain : ((u.takeMessageId copies).disposeChain m.chain copies) =
        (u.withPool (s.pool.release m.chain)).handFreeCount := by
      rw [takeMessageId, disposeChain, if_pos none, if_pos none, releaseChain, pool]
    rw [chain, setBody_eq (by simpa using reassembly), if_pos none, if_pos none]
    simp [contextPut, classifier]
  · have chain : ((u.takeMessageId copies).disposeChain m.chain copies) =
        (u.withClassifier { s.classifier with messageId := s.classifier.messageId + 1 }).withPool
          (s.pool.setChainEntry m.chain.head { tail := m.chain.tail, count := m.chain.count, refs := copies }) := by
      rw [takeMessageId, disposeChain, if_neg none, if_neg none, adoptChain, classifier, withClassifier_pool, pool]
    rw [chain, setBody_eq (by simpa using reassembly), if_neg none, if_neg none]
    rfl

theorem classificationEnd_of_properties (state : s.classifier.state = .classifying i (.properties x))
    (complete : s.reassembly.contexts[i].body = .complete m) : s.classificationEnd = s.endEvaluated i m x := by
  simp only [classificationEnd, state, context, complete]

theorem classificationEnd_of_memoryError (state : s.classifier.state = .classifying i .memoryError)
    (complete : s.reassembly.contexts[i].body = .complete m) : s.classificationEnd = s.endDamaged i m := by
  simp only [classificationEnd, state, context, complete]

theorem endDamaged_eq : s.endDamaged i m =
    (((s.withPool (s.pool.release m.chain)).handFreeCount.contextPut i
      { s.reassembly.contexts[i] with body := .free } s.reassembly.counters).post .memoryError 0xFFFF).withClassifier
      { s.classifier with state := .idle, memoryErrors := satInc s.classifier.memoryErrors } := by
  rw [endDamaged, releaseChain, setBody_eq (s := s) (by simp)]
  simp [idleClassifier, contextPut]

end State

/-- Settles O42: the offers of each action, and then the rest of the step, which is the same for all. -/
theorem endStepCarriesOutTheAction : Obligations.EndStepCarriesOutTheAction := by
  refine ⟨fun s i m x hits a state complete small valid verdict => ?_, fun s i m state complete => ?_⟩
  · have decides := (evaluationFollowsTheTerms _ x small valid hits a).2 verdict
    have step : exec .classificationEnd s = .next (s.endEvaluated i m x) :=
      congrArg Host.Outcome.next (State.classificationEnd_of_properties state complete)
    refine ⟨_, getElem_foldl_satInc (decides.hits_forward valid).2 s.program.hits, ?_⟩
    intro n v record finish delivers
    have delivered (q : Fin 8) (b : Byte) (mark : Bool) (hq : b.toNat = q.val)
        (action : a.getD s.program.active.default.action = .deliver b mark) : delivers q mark := by
      refine step.trans (congrArg Host.Outcome.next (State.endEvaluated_eq verdict action
        (State.offerCopies_deliver hq) ?_ ?_ ?_)) <;> simp [v]
    have discarded (mark : Bool) (action : a.getD s.program.active.default.action = .discard mark) :
        exec .classificationEnd s = .next (finish v 0 true) :=
      step.trans (congrArg Host.Outcome.next (State.endEvaluated_eq verdict action rfl rfl rfl rfl))
    refine ⟨fun mark action => discarded mark (by rw [action]; rfl),
      fun action default => discarded false (by rw [action, default]; rfl),
      fun q b mark action hq => delivered q b mark hq (by rw [action]; rfl),
      fun q mark action default => delivered q (natByte q.val) mark (toNat_natByte_queue q)
        (by rw [action, default]; rfl),
      fun q q2 b b2 mark action hq hq2 => ?_⟩
    obtain ⟨_, _, _, _, held⟩ := (action ▸ decides).action_held
    have ne : q2 ≠ q := fun e => valid.mirror_ne held (BitVec.eq_of_toNat_eq (by rw [hq, hq2, e]))
    refine step.trans (congrArg Host.Outcome.next (State.endEvaluated_eq verdict (by rw [action]; rfl)
      (State.offerCopies_mirror hq hq2 ne) ?_ ?_ ?_)) <;> simp
  · exact congrArg Host.Outcome.next ((State.classificationEnd_of_memoryError state complete).trans
      State.endDamaged_eq)

end Sys2Proof.Machine
end

section
/-! Reassembly, step by step (R54 to R73): the hand-over of the free count commutes with changes of the stream, the
contexts and the Station Table; with unique addresses, an abort and a completion are one change of each block. -/

namespace Sys2Proof.Machine

namespace State

variable {s u : State} {i : Fin 48} {m : Message} {r : AbortReason} {a : Addr} {ch : Chan}

/-! ### What the Hold Controller does not see -/

/-- The stream, the Reassembly Unit and the Station Table, replaced together. -/
def withCells (s : State) (x : List StreamItem) (y : Reassembly) (z : StationTable) : State :=
  ((s.withStream x).withReassembly y).withStations z

section Cells

variable (x : List StreamItem) (y : Reassembly) (z : StationTable)

theorem transmit_withCells (c : TxCell) (s : State) :
    (s.withCells x y z).transmit c = (s.transmit c).withCells x y z := by
  cases link : s.trunkRx.link with
  | down =>
    rw [transmit_of_down link]
    exact transmit_of_down (s := s.withCells x y z) link c
  | up =>
    by_cases idle : s.trunkTx.inFlight = none
    · rw [transmit_of_idle link idle]
      exact transmit_of_idle (s := s.withCells x y z) link idle c
    · rw [transmit_of_busy link idle]
      exact transmit_of_busy (s := s.withCells x y z) link idle c

theorem beginHold_withCells (s : State) : (s.withCells x y z).beginHold = s.beginHold.withCells x y z :=
  congrArg (State.postNat .holdOn s.hold.lastFree) (transmit_withCells x y z _
    (s.withHold { s.hold with mode := .holding (s.refreshExpiry s.params.holdDuration) }))

theorem endHold_withCells (s : State) : (s.withCells x y z).endHold = s.endHold.withCells x y z :=
  congrArg (State.postNat .holdOff s.hold.lastFree) (transmit_withCells x y z _
    (s.withHold { s.hold with mode := .quiet }))

theorem evaluateHold_withCells (s : State) : (s.withCells x y z).evaluateHold = s.evaluateHold.withCells x y z := by
  cases link : s.trunkRx.link with
  | down =>
    cases mode : s.hold.mode with
    | quiet =>
      rw [evaluateHold_of_quiet_down mode link]
      exact evaluateHold_of_quiet_down (s := s.withCells x y z) mode link
    | holding t =>
      rw [evaluateHold_of_holding_down mode link]
      exact evaluateHold_of_holding_down (s := s.withCells x y z) mode link
  | up =>
    cases mode : s.hold.mode with
    | quiet =>
      by_cases below : s.hold.lastFree < s.params.hOn
      · rw [evaluateHold_of_below mode link below, ← beginHold_withCells]
        exact evaluateHold_of_below (s := s.withCells x y z) mode link below
      · rw [evaluateHold_of_enough mode (Nat.not_lt.1 below)]
        exact evaluateHold_of_enough (s := s.withCells x y z) mode (Nat.not_lt.1 below)
    | holding t =>
      by_cases low : s.hold.lastFree < s.params.hOff
      · rw [evaluateHold_of_still_low mode link low]
        exact evaluateHold_of_still_low (s := s.withCells x y z) mode link low
      · rw [evaluateHold_of_above mode link (Nat.not_lt.1 low), ← endHold_withCells]
        exact evaluateHold_of_above (s := s.withCells x y z) mode link (Nat.not_lt.1 low)

theorem handFreeCount_withCells (s : State) : (s.withCells x y z).handFreeCount = s.handFreeCount.withCells x y z :=
  evaluateHold_withCells x y z (s.withHold { s.hold with lastFree := s.pool.free.length })

end Cells

theorem handFreeCount_withReassembly (y : Reassembly) (s : State) :
    (s.withReassembly y).handFreeCount = s.handFreeCount.withReassembly y := by
  refine (handFreeCount_withCells s.stream y s.stations s).trans ?_
  simp [withCells, withStations, withStream, withReassembly]

theorem handFreeCount_withStream (x : List StreamItem) (s : State) :
    (s.withStream x).handFreeCount = s.handFreeCount.withStream x := by
  refine (handFreeCount_withCells x s.reassembly s.stations s).trans ?_
  simp [withCells, withStations, withStream, withReassembly]

theorem releaseChain_withReassembly (y : Reassembly) (c : Chain) (s : State) :
    (s.withReassembly y).releaseChain c = (s.releaseChain c).withReassembly y :=
  handFreeCount_withReassembly y (s.withPool (s.pool.release c))

theorem releaseChain_withStream (x : List StreamItem) (c : Chain) (s : State) :
    (s.withStream x).releaseChain c = (s.releaseChain c).withStream x :=
  handFreeCount_withStream x (s.withPool (s.pool.release c))

/-! ### Reports -/

theorem report_self (x : StationTable) (a : Addr) : x.report a (fun e => e) = x := by
  have entry (y : Option StationEntry) : (y.map fun e => if e.address = a then e else e) = y := by
    cases y <;> simp
  rw [StationTable.report]
  congr 1
  exact Vector.ext fun i hi => (getElem_mapTable _ _ i hi).trans (entry _)

theorem countClosed_eq (h : s.stations.Unique) (a : Addr) :
    s.countClosed a = s.withStations (s.stations.report a fun e => { e with openCount := e.openCount - 1 }) :=
  reportStation_eq h a _

theorem countError_eq (h : s.stations.Unique) (a : Addr) :
    s.countError a = s.withStations (s.stations.report a fun e => { e with errors := satInc e.errors }) :=
  reportStation_eq h a _

/-! ### The abort of an OPEN context -/

/-- R69: what an abort with reason `r` posts. -/
def postAbort (r : AbortReason) (a : Addr) (s : State) : State :=
  match r.event with
  | some k => s.postStation k a
  | none => s

theorem postAbort_withStations (r : AbortReason) (a : Addr) (z : StationTable) (s : State) :
    (s.postAbort r a).withStations z = (s.withStations z).postAbort r a := by
  cases r <;> rfl

@[simp] theorem postAbort_stations (r : AbortReason) (a : Addr) (s : State) :
    (s.postAbort r a).stations = s.stations := by
  cases r <;> rfl

/-- R69: the Reassembly Unit after the abort. -/
def afterAbort (s : State) (i : Fin 48) (r : AbortReason) (left : ContextState) : Reassembly :=
  { s.reassembly with
    contexts := s.reassembly.contexts.set i { body := left, lastAbort := r },
    counters := r.count s.reassembly.counters }

/-- R23, R53, R69: the report of the abort to the station's entry. -/
def abortReport (r : AbortReason) (left : ContextState) (e : StationEntry) : StationEntry :=
  { e with
    errors := if r.isError then satInc e.errors else e.errors,
    openCount := if left = .free then e.openCount - 1 else e.openCount }

theorem abortReport_free (r : AbortReason) : abortReport r .free = fun e => { e with
    errors := if r.isError then satInc e.errors else e.errors, openCount := e.openCount - 1 } := by
  funext e
  simp [abortReport]

theorem abortReport_discarding (r : AbortReason) (a : Addr) (ch : Chan) (z : U32) :
    abortReport r (.discarding a ch z) = fun e => { e with
      errors := if r.isError then satInc e.errors else e.errors } := by
  funext e
  simp [abortReport]

theorem aborted_eq (s : State) (i : Fin 48) (m : Message) (r : AbortReason) (left : ContextState) :
    s.aborted i m r left = (((s.releaseChain m.chain).withReassembly (s.afterAbort i r left)).withStations
      (s.stations.report m.station (abortReport r left))).postAbort r m.station := by
  have freed (k : ReassemblyCounters) :
      ((s.contextPut i { body := left, lastAbort := r } k).withPool (s.pool.release m.chain)).handFreeCount =
        (s.releaseChain m.chain).withReassembly { s.reassembly with
          contexts := s.reassembly.contexts.set i { body := left, lastAbort := r }, counters := k } :=
    releaseChain_withReassembly _ m.chain s
  cases r <;>
  · simp only [aborted, freed]
    rfl

theorem accountAbort_eq (h : s.stations.Unique) (r : AbortReason) (a : Addr) : s.accountAbort r a =
    ((s.countReassembly r.count).withStations (s.stations.report a fun e =>
      { e with errors := if r.isError then satInc e.errors else e.errors })).postAbort r a := by
  have error (counted : State) (same : counted.stations = s.stations) :
      (if r.isError then counted.countError a else counted) = counted.withStations (s.stations.report a fun e =>
        { e with errors := if r.isError then satInc e.errors else e.errors }) := by
    cases r.isError with
    | true => exact (countError_eq (same ▸ h) a).trans (by rw [same]; rfl)
    | false => exact Eq.trans (by rw [← same]; rfl) (congrArg counted.withStations (report_self s.stations a).symm)
  rw [accountAbort, ← error (s.countReassembly r.count) rfl]
  rfl

theorem releaseChain_setContext (i : Fin 48) (c : Context) (x : Chain) (s : State) :
    (s.setContext i c).releaseChain x = (s.releaseChain x).withReassembly
      { s.reassembly with contexts := s.reassembly.contexts.set i c } :=
  releaseChain_withReassembly _ x s

/-- R65 to R73: an abort that frees its context. -/
theorem abortToFree_eq (h : s.stations.Unique) (i : Fin 48) (m : Message) (r : AbortReason) :
    s.abortToFree i m r = s.aborted i m r .free := by
  have unique : ((s.setContext i { body := .free, lastAbort := r }).releaseChain m.chain).stations.Unique := by
    simpa using h
  have counted : ((s.stations.report m.station fun e =>
      { e with errors := if r.isError then satInc e.errors else e.errors })).Unique := h.report _ fun _ => rfl
  rw [abortToFree, accountAbort_eq unique, countClosed_eq (by simpa using counted), postAbort_withStations,
    postAbort_stations, withStations_stations, withStations_withStations, releaseChain_setContext, aborted_eq,
    abortReport_free, StationTable.report_report]
  · simp [countReassembly, afterAbort]
  · exact fun _ => rfl

/-- R57, R61, R62: an abort that leaves its context DISCARDING. -/
theorem abortToDiscarding_eq (h : s.stations.Unique) (i : Fin 48) (m : Message) (r : AbortReason) :
    s.abortToDiscarding i m r = s.aborted i m r (.discarding m.station m.channel s.gapExpiry) := by
  have unique : ((s.setContext i { body := .discarding m.station m.channel s.gapExpiry, lastAbort := r }).releaseChain
      m.chain).stations.Unique := by simpa using h
  rw [abortToDiscarding, accountAbort_eq unique, releaseChain_setContext, aborted_eq, abortReport_discarding]
  simp [countReassembly, afterAbort]

end State
end Sys2Proof.Machine
end

section
/-! The Reassembly Unit's steps (R54 to R73), each written as one change per block. -/

namespace Sys2Proof.Machine

namespace State

variable {s u : State} {i : Fin 48} {m : Message} {r : AbortReason} {a : Addr} {ch : Chan} {e : Seq} {z : U32}
  {c : AdmittedCell} {rest : List StreamItem} {last : Bool}

/-! ### The end of a context -/

theorem endContext_of_opened (h : s.stations.Unique) (body : s.reassembly.contexts[i].body = .opened m e z) :
    s.endContext r i = s.aborted i m r .free := by
  simp only [endContext, context, body, abortToFree_eq h]

theorem endDiscarding_eq (h : s.stations.Unique) (i : Fin 48) (a : Addr) (r : AbortReason) : s.endDiscarding i a r =
    (s.contextPut i { body := .free, lastAbort := r } (r.count s.reassembly.counters)).withStations
      (s.stations.report a fun e => { e with openCount := e.openCount - 1 }) := by
  exact countClosed_eq (s := (s.setContext i { body := .free, lastAbort := r }).countReassembly r.count) h a

theorem endContext_of_discarding (h : s.stations.Unique)
    (body : s.reassembly.contexts[i].body = .discarding a ch z) : s.endContext r i =
      (s.contextPut i { body := .free, lastAbort := r } (r.count s.reassembly.counters)).withStations
        (s.stations.report a fun e => { e with openCount := e.openCount - 1 }) := by
  simp only [endContext, context, body, endDiscarding_eq h]

theorem endContext_of_free (body : s.reassembly.contexts[i].body = .free) : s.endContext r i = s := by
  simp only [endContext, context, body]

theorem endContext_of_complete (body : s.reassembly.contexts[i].body = .complete m) : s.endContext r i = s := by
  simp only [endContext, context, body]

theorem reportStation_withStream (x : List StreamItem) (a : Addr) (f : StationEntry → StationEntry) (s : State) :
    (s.withStream x).reportStation a f = (s.reportStation a f).withStream x := by
  have found : (s.withStream x).findStation a = s.findStation a := rfl
  rw [reportStation, reportStation, found]
  cases s.findStation a <;> rfl

theorem accountAbort_withStream (x : List StreamItem) (r : AbortReason) (a : Addr) (s : State) :
    (s.withStream x).accountAbort r a = (s.accountAbort r a).withStream x := by
  have error := reportStation_withStream x a (fun e => { e with errors := satInc e.errors }) (s.countReassembly r.count)
  rw [accountAbort, accountAbort]
  cases r with
  | restart => exact error
  | sequence => exact congrArg (State.postStation .sequenceError a) error
  | timeout => exact congrArg (State.postStation .reassemblyTimeout a) error
  | oversize => exact congrArg (State.postStation .oversize a) error
  | noBuffer => exact congrArg (State.postStation .noBuffer a) error
  | none => rfl
  | flushed => rfl
  | trunkLoss => rfl

theorem endContext_withStream (x : List StreamItem) (r : AbortReason) (i : Fin 48) (s : State) :
    (s.withStream x).endContext r i = (s.endContext r i).withStream x := by
  cases body : s.reassembly.contexts[i].body with
  | free => rw [endContext_of_free body, endContext_of_free (by exact body)]
  | complete m => rw [endContext_of_complete body, endContext_of_complete (by exact body)]
  | discarding a ch z =>
    simp only [endContext, context, withStream_reassembly, body]
    exact reportStation_withStream x a _ ((s.setContext i { body := .free, lastAbort := r }).countReassembly r.count)
  | opened m e z =>
    have released := releaseChain_withStream x m.chain (s.setContext i { body := .free, lastAbort := r })
    simp only [endContext, context, withStream_reassembly, body, abortToFree]
    rw [countClosed, countClosed, ← reportStation_withStream, ← accountAbort_withStream, ← released]
    rfl

/-! ### The context of a key -/

theorem keyContext_of_held (h : s.KeyHeld a ch i) : s.keyContext a ch = some i :=
  firstPlace_unique ((h i).2 rfl) fun j hj => (h j).1 hj

theorem keyContext_of_free (h : s.KeyFree a ch) : s.keyContext a ch = none := firstPlace_eq_none.2 h

theorem endKeyContext_of_free (h : s.KeyFree a ch) : s.endKeyContext a ch = s := by
  simp only [endKeyContext, keyContext_of_free h]

theorem endKeyContext_of_held (h : s.KeyHeld a ch i) : s.endKeyContext a ch = s.endContext .restart i := by
  simp only [endKeyContext, keyContext_of_held h]

/-- R56: with its only context ended, the key is free. -/
theorem keyFree_endContext (h : s.KeyHeld a ch i) (r : AbortReason) : (s.endContext r i).KeyFree a ch := by
  have others (c : Context) (free : c.body = .free) (j : Fin 48) :
      (s.reassembly.contexts.set i c)[j].body.hasKey a ch = false := by
    rw [getElem_set_fin]
    split
    · rw [free]
      rfl
    · next ne => exact Bool.eq_false_iff.2 fun key => ne ((h j).1 key)
  have key := (h i).2 rfl
  intro j
  cases body : s.reassembly.contexts[i].body with
  | free =>
    rw [body] at key
    nomatch key
  | complete m =>
    rw [body] at key
    nomatch key
  | opened m e z =>
    simp only [endContext, context, body, abortToFree_reassembly]
    exact others ⟨.free, r⟩ rfl j
  | discarding a ch z =>
    simp only [endContext, context, body, endDiscarding_reassembly]
    exact others ⟨.free, r⟩ rfl j

/-! ### The cell at the head of the stream -/

theorem dataOnly_of_head (head : s.stream = .cell c :: rest) (kind : c.kind = .only) : s.dataOnly =
    ((s.withStream rest).endKeyContext c.source c.channel).startMessage c true := by
  simp only [dataOnly, takeCell, head, kind, if_true]

theorem dataFirst_of_head (head : s.stream = .cell c :: rest) (kind : c.kind = .first) : s.dataFirst =
    ((s.withStream rest).endKeyContext c.source c.channel).startMessage c false := by
  simp only [dataFirst, takeCell, head, kind, if_true]

theorem dataMiddle_of_head (head : s.stream = .cell c :: rest) (kind : c.kind = .middle) :
    s.dataMiddle = (s.withStream rest).continueMessage false c := by
  simp only [dataMiddle, takeCell, head, kind, if_true]

theorem dataLast_of_head (head : s.stream = .cell c :: rest) (kind : c.kind = .last) :
    s.dataLast = (s.withStream rest).continueMessage true c := by
  simp only [dataLast, takeCell, head, kind, if_true]

/-- R56: a start on a key that has a context is the start after the end of that context. -/
theorem endKeyContext_endContext (h : s.KeyHeld a ch i) : (s.withStream rest).endKeyContext a ch =
    ((s.endContext .restart i).withStream rest).endKeyContext a ch := by
  have free : ((s.endContext .restart i).withStream rest).KeyFree a ch := keyFree_endContext h .restart
  rw [endKeyContext_of_free free, endKeyContext_of_held (s := s.withStream rest) h, endContext_withStream]

/-! ### The gap timer -/

theorem gapTimerExpiry_of_opened (h : s.stations.Unique) (body : s.reassembly.contexts[i].body = .opened m e z)
    (due : reached s.events.timebase z = true) : s.gapTimerExpiry i = s.aborted i m .timeout .free := by
  simp only [gapTimerExpiry, context, body, now, due, if_true, abortToFree_eq h]

theorem gapTimerExpiry_of_discarding (h : s.stations.Unique)
    (body : s.reassembly.contexts[i].body = .discarding a ch z) (due : reached s.events.timebase z = true) :
    s.gapTimerExpiry i = (s.contextPut i { s.reassembly.contexts[i] with body := .free }
      { s.reassembly.counters with timeout := satInc s.reassembly.counters.timeout }).withStations
        (s.stations.report a fun e => { e with openCount := e.openCount - 1 }) := by
  simp only [gapTimerExpiry, context, body, now, due, if_true]
  exact countClosed_eq (s := (s.setBody i .free).countReassembly (AbortReason.count .timeout)) h a

theorem gapTimerExpiry_of_early_opened (body : s.reassembly.contexts[i].body = .opened m e z)
    (early : reached s.events.timebase z = false) : s.gapTimerExpiry i = s := by
  simp only [gapTimerExpiry, context, body, now, early, Bool.false_eq_true, if_false]

theorem gapTimerExpiry_of_early_discarding (body : s.reassembly.contexts[i].body = .discarding a ch z)
    (early : reached s.events.timebase z = false) : s.gapTimerExpiry i = s := by
  simp only [gapTimerExpiry, context, body, now, early, Bool.false_eq_true, if_false]

end State

/-- Settles O33: the end of a context by its state, and the gap timer by the state and the expiry. -/
theorem contextsEndByReasonOrTimer : Obligations.ContextsEndByReasonOrTimer := by
  refine ⟨⟨fun s i r unique _ => ⟨fun m e z body => State.endContext_of_opened unique body,
      fun a ch z body => State.endContext_of_discarding unique body, fun body => State.endContext_of_free body,
      fun m body => State.endContext_of_complete body⟩, fun s c rest i head held => ⟨fun kind => ?_, fun kind => ?_⟩⟩,
    fun s i unique => ⟨fun m e z body due => ?_, fun a ch z body due => ?_, fun m e z body early => ?_,
      fun a ch z body early => ?_⟩⟩ <;> refine congrArg Host.Outcome.next ?_
  · have head' : (s.endContext .restart i).stream = .cell c :: rest := by simpa using head
    rw [State.dataOnly_of_head head kind, State.dataOnly_of_head head' kind, State.endKeyContext_endContext held]
  · have head' : (s.endContext .restart i).stream = .cell c :: rest := by simpa using head
    rw [State.dataFirst_of_head head kind, State.dataFirst_of_head head' kind, State.endKeyContext_endContext held]
  · exact State.gapTimerExpiry_of_opened unique body due
  · exact State.gapTimerExpiry_of_discarding unique body due
  · exact State.gapTimerExpiry_of_early_opened body early
  · exact State.gapTimerExpiry_of_early_discarding body early

namespace State

variable {s u : State} {i : Fin 48} {m : Message} {r : AbortReason} {a : Addr} {ch : Chan} {e : Seq} {z : U32}
  {c : AdmittedCell} {rest : List StreamItem} {last : Bool} {p : BlockPool} {x : Chain}

/-! ### The time does not pass -/

@[simp] theorem post_now (k : EventKind) (d : U16) (s : State) : (s.post k d).now = s.now :=
  post_timebase _ _ _ _ _

theorem transmit_now (c : TxCell) (s : State) : (s.transmit c).now = s.now := by
  simp [now]

@[simp] theorem evaluateHold_now (s : State) : s.evaluateHold.now = s.now := by
  rw [evaluateHold]
  split
  · split
    · exact (post_now _ _ _).trans (transmit_now _ _)
    · rfl
  · split
    · exact (post_now _ _ _).trans (transmit_now _ _)
    · rfl
  · rfl
  · rfl

@[simp] theorem handFreeCount_now (s : State) : s.handFreeCount.now = s.now := evaluateHold_now _

/-- R64: the gap timer of a step that has stored a payload starts at the time of the step. -/
theorem gapExpiry_storedPool (p : BlockPool) (s : State) : (s.storedPool p).gapExpiry = s.gapEnd := by
  have time : (s.storedPool p).now = s.now := by
    rw [storedPool]
    split
    · rfl
    · exact handFreeCount_now _
  have params : (s.storedPool p).params = s.params := by simp
  rw [gapExpiry, time, params]
  rfl

/-! ### Completion -/

theorem completeContext_eq (h : s.stations.Unique) (i : Fin 48) (m : Message) :
    s.completeContext i m = s.completed i m false :=
  reportStation_eq (s := (((s.setBody i (.complete m)).withReassembly { (s.setBody i (.complete m)).reassembly with
    pendingList := s.reassembly.pendingList ++ [i] }).countReassembly fun c =>
      { c with completed := satInc c.completed })) h m.station _

theorem completeContext_countClosed_eq (h : s.stations.Unique) (i : Fin 48) (m : Message) :
    (s.completeContext i m).countClosed m.station = s.completed i m true := by
  have unique : (s.completed i m false).stations.Unique := h.report _ fun _ => rfl
  rw [completeContext_eq h, countClosed_eq unique]
  exact congrArg _ (StationTable.report_report _ _ _ _ fun _ => rfl)

/-! ### A cell for an OPEN context -/

theorem continueMessage_of_opened (held : s.KeyHeld c.source c.channel i)
    (body : s.reassembly.contexts[i].body = .opened m e z) :
    s.continueMessage last c = s.continueOpen last c i m e := by
  simp only [continueMessage, keyContext_of_held held, context, body]

/-- R51: the message of the context of a key is of that key. -/
theorem key_of_held (held : s.KeyHeld a ch i) (body : s.reassembly.contexts[i].body = .opened m e z) :
    m.station = a ∧ m.channel = ch := by
  have key := (held i).2 rfl
  rw [body] at key
  simpa [ContextState.hasKey] using key

theorem continueOpen_of_stored (seq : c.sequence = e) (fits : m.byteCount + c.payload.length ≤ s.params.maxLength)
    (stored : s.pool.store c.payload (some m.chain) = some (x, p)) : s.continueOpen last c i m e =
      (s.poolStored p).extendMessage last i m e c.payload.length x := by
  simp only [continueOpen, seq, Nat.not_lt.2 fits, stored, if_true, if_false]
  rfl

theorem extendMessage_middle (p : BlockPool) (i : Fin 48) (m : Message) (e : Seq) (n : Nat) (x : Chain) (s : State) :
    (s.poolStored p).extendMessage false i m e n x = (s.poolStored p).contextPut i
      { body := .opened { m with byteCount := m.byteCount + n, chain := x } (e + 1) s.gapEnd,
        lastAbort := s.reassembly.contexts[i].lastAbort } s.reassembly.counters := by
  have gap : (s.poolStored p).gapExpiry = s.gapEnd := gapExpiry_storedPool p s
  have same : (s.poolStored p).reassembly = s.reassembly := (storedPool_frame p s).2.2.2.1
  exact (congrArg (fun z => (s.poolStored p).setBody i
    (.opened { m with byteCount := m.byteCount + n, chain := x } (e + 1) z)) gap).trans (setBody_eq same _)

theorem extendMessage_last (h : s.stations.Unique) (p : BlockPool) (i : Fin 48) (m : Message) (e : Seq) (n : Nat)
    (x : Chain) : (s.poolStored p).extendMessage true i m e n x =
      (s.poolStored p).completed i { m with byteCount := m.byteCount + n, chain := x } true := by
  have same : (s.poolStored p).stations = s.stations := (storedPool_frame p s).2.1
  exact completeContext_countClosed_eq (same ▸ h) i { m with byteCount := m.byteCount + n, chain := x }

/-! ### A cell that is not stored -/

theorem orphanCell_eq (h : s.stations.Unique) (a : Addr) : s.orphanCell a =
    ((s.withReassembly { s.reassembly with
      counters := { s.reassembly.counters with orphan := satInc s.reassembly.counters.orphan } }).withStations
      (s.stations.report a fun e => { e with errors := satInc e.errors })).post .orphanCell (a.zeroExtend 16) :=
  congrArg (State.postStation .orphanCell a) (countError_eq
    (s := s.countReassembly fun c => { c with orphan := satInc c.orphan }) h a)

/-- R57, R58, R61, R62: what the abort of the message of cell `c` leaves. -/
def leftBy (s : State) (last : Bool) (c : AdmittedCell) : ContextState :=
  if last then .free else .discarding c.source c.channel s.gapEnd

theorem abortAtCell_eq (h : s.stations.Unique) (key : m.station = c.source ∧ m.channel = c.channel) (last : Bool)
    (i : Fin 48) (r : AbortReason) : s.abortAtCell last i m r = s.aborted i m r (s.leftBy last c) := by
  cases last with
  | true => exact abortToFree_eq h i m r
  | false =>
    refine (abortToDiscarding_eq h i m r).trans ?_
    rw [key.1, key.2]
    rfl

theorem seq_sub_one_iff {x y : Seq} : x = y - 1 ↔ x + 1 = y := eq_sub_iff_add_eq

theorem seq_succ_ne (x : Seq) : x ≠ x + 1 := by
  bv_omega

theorem continueOpen_of_duplicate (seq : c.sequence + 1 = e) : s.continueOpen last c i m e =
    s.contextPut i { body := .opened m e s.gapEnd, lastAbort := s.reassembly.contexts[i].lastAbort }
      { s.reassembly.counters with duplicate := satInc s.reassembly.counters.duplicate } := by
  have ne : c.sequence ≠ e := seq ▸ seq_succ_ne c.sequence
  have before : c.sequence = e - 1 := seq_sub_one_iff.2 seq
  rw [continueOpen, if_neg ne, if_pos before]
  rfl

theorem continueOpen_of_sequence (ne : c.sequence ≠ e) (notBefore : c.sequence + 1 ≠ e) :
    s.continueOpen last c i m e = s.abortAtCell last i m .sequence := by
  rw [continueOpen, if_neg ne, if_neg fun before => notBefore (seq_sub_one_iff.1 before)]

theorem continueOpen_of_oversize (seq : c.sequence = e)
    (long : s.params.maxLength < m.byteCount + c.payload.length) :
    s.continueOpen last c i m e = s.abortAtCell last i m .oversize := by
  rw [continueOpen, if_pos seq, if_pos long]

theorem continueOpen_of_noBuffer (seq : c.sequence = e) (fits : m.byteCount + c.payload.length ≤ s.params.maxLength)
    (full : s.pool.store c.payload (some m.chain) = none) :
    s.continueOpen last c i m e = s.abortAtCell last i m .noBuffer := by
  rw [continueOpen, if_pos seq, if_neg (Nat.not_lt.2 fits), full]

theorem continueMessage_of_discarding (held : s.KeyHeld c.source c.channel i)
    (body : s.reassembly.contexts[i].body = .discarding a ch z) :
    s.continueMessage last c = s.continueDiscarding last i a ch := by
  simp only [continueMessage, keyContext_of_held held, context, body]

theorem continueDiscarding_middle (i : Fin 48) (a : Addr) (ch : Chan) (s : State) :
    s.continueDiscarding false i a ch = s.contextPut i
      { body := .discarding a ch s.gapEnd, lastAbort := s.reassembly.contexts[i].lastAbort }
      { s.reassembly.counters with discarded := satInc s.reassembly.counters.discarded } := rfl

theorem continueDiscarding_last (h : s.stations.Unique) (i : Fin 48) (a : Addr) (ch : Chan) :
    s.continueDiscarding true i a ch = (s.contextPut i
      { body := .free, lastAbort := s.reassembly.contexts[i].lastAbort }
      { s.reassembly.counters with discarded := satInc s.reassembly.counters.discarded }).withStations
        (s.stations.report a fun e => { e with openCount := e.openCount - 1 }) :=
  countClosed_eq (s := (s.countReassembly fun c => { c with discarded := satInc c.discarded }).setBody i .free) h a

theorem leftBy_eq (kind : c.kind = .middle ∨ c.kind = .last) (s : State) : s.leftBy (decide (c.kind = .last)) c =
    if c.kind = .middle then .discarding c.source c.channel s.gapEnd else .free := by
  obtain kind | kind := kind <;> rw [kind] <;> rfl

/-- R57, R58, R60: a cell of an OPEN key's message that `continueOpen` aborts. -/
theorem continueMessage_of_aborted {r : AbortReason} (kind : c.kind = .middle ∨ c.kind = .last) (h : s.stations.Unique)
    (held : s.KeyHeld c.source c.channel i) (body : s.reassembly.contexts[i].body = .opened m e z)
    (abort : s.continueOpen (decide (c.kind = .last)) c i m e = s.abortAtCell (decide (c.kind = .last)) i m r) :
    s.continueMessage (decide (c.kind = .last)) c =
      s.aborted i m r (if c.kind = .middle then .discarding c.source c.channel s.gapEnd else .free) :=
  calc s.continueMessage (decide (c.kind = .last)) c
    _ = s.abortAtCell (decide (c.kind = .last)) i m r := (continueMessage_of_opened held body).trans abort
    _ = s.aborted i m r (s.leftBy (decide (c.kind = .last)) c) := abortAtCell_eq h (key_of_held held body) _ i r
    _ = _ := congrArg (s.aborted i m r) (leftBy_eq kind s)

theorem continueMessage_of_free (h : s.stations.Unique) (free : s.KeyFree c.source c.channel) :
    s.continueMessage last c = ((s.withReassembly { s.reassembly with
      counters := { s.reassembly.counters with orphan := satInc s.reassembly.counters.orphan } }).withStations
      (s.stations.report c.source fun e => { e with errors := satInc e.errors })).post .orphanCell
        (c.source.zeroExtend 16) := by
  have orphan : s.continueMessage last c = s.orphanCell c.source := by
    simp only [continueMessage, keyContext_of_free free]
  exact orphan.trans (orphanCell_eq h c.source)

end State

/-- Settles O34: the payload is stored, and the message goes on or is complete. -/
theorem inOrderCellsExtendTheMessage : Obligations.InOrderCellsExtendTheMessage := by
  intro s c rest i m e z ch p head held unique body seq fits stored m' u
  have grows (last : Bool) : (s.withStream rest).continueMessage last c =
      ((s.withStream rest).poolStored p).extendMessage last i m e c.payload.length ch :=
    (State.continueMessage_of_opened (s := s.withStream rest) held body).trans
      (State.continueOpen_of_stored (s := s.withStream rest) seq fits stored)
  refine ⟨fun kind => congrArg Host.Outcome.next ?_, fun kind => congrArg Host.Outcome.next ?_⟩
  · rw [State.dataMiddle_of_head head kind, grows, State.extendMessage_middle]
    rfl
  · rw [State.dataLast_of_head head kind, grows, State.extendMessage_last (by exact unique)]

/-- R57 to R60: the row of a DATA_MIDDLE or a DATA_LAST at the head of the stream. -/
theorem exec_continue {s : State} {c : AdmittedCell} {rest : List StreamItem} (head : s.stream = .cell c :: rest)
    (kind : c.kind = .middle ∨ c.kind = .last) :
    exec (if c.kind = .middle then .dataMiddle else .dataLast) s =
      .next ((s.withStream rest).continueMessage (decide (c.kind = .last)) c) := by
  obtain kind | kind := kind
  · rw [if_pos kind, kind]
    exact congrArg Host.Outcome.next (State.dataMiddle_of_head head kind)
  · rw [kind]
    exact congrArg Host.Outcome.next (State.dataLast_of_head head kind)

/-- Settles O35: the cell's fate by the state of its key's context, and in an OPEN one by its sequence number and its
length. -/
theorem otherCellsAreDropped : Obligations.OtherCellsAreDropped := by
  intro s c rest head kind unique row u k
  have step {v : State} (h : u.continueMessage (decide (c.kind = .last)) c = v) : exec row s = .next v :=
    (exec_continue head kind).trans (congrArg Host.Outcome.next h)
  refine ⟨fun free => step (State.continueMessage_of_free (s := s.withStream rest) unique free),
    fun i held => ⟨fun m e z body => ⟨fun seq => ?_, fun ne notBefore => ?_, fun seq long => ?_,
      fun seq fits full => ?_⟩, fun a ch z body => ⟨fun middle => ?_, fun last => ?_⟩⟩⟩
  · exact step ((State.continueMessage_of_opened (s := s.withStream rest) held body).trans
      (State.continueOpen_of_duplicate seq))
  · exact step (State.continueMessage_of_aborted (s := s.withStream rest) kind unique held body
      (State.continueOpen_of_sequence ne notBefore))
  · exact step (State.continueMessage_of_aborted (s := s.withStream rest) kind unique held body
      (State.continueOpen_of_oversize seq long))
  · exact step (State.continueMessage_of_aborted (s := s.withStream rest) kind unique held body
      (State.continueOpen_of_noBuffer (s := s.withStream rest) seq fits full))
  · refine congrArg Host.Outcome.next ((State.dataMiddle_of_head head middle).trans ?_)
    exact (State.continueMessage_of_discarding (s := s.withStream rest) held body).trans
      (State.continueDiscarding_middle i a ch u)
  · refine congrArg Host.Outcome.next ((State.dataLast_of_head head last).trans ?_)
    exact (State.continueMessage_of_discarding (s := s.withStream rest) held body).trans
      (State.continueDiscarding_last (s := s.withStream rest) unique i a ch)

end Sys2Proof.Machine
end

section
/-! The starts of a message (R54 to R56), the loss of the trunk, and the removal of stations (R28, R29, R70, R73). -/

namespace Sys2Proof.Machine

namespace State

variable {s u : State} {i : Fin 48} {m : Message} {r : AbortReason} {a : Addr} {ch : Chan} {n : Nat}
  {c : AdmittedCell} {rest : List StreamItem} {p : BlockPool} {x : Chain}

/-! ### The context that a start takes -/

theorem openCountOf_eq (h : s.stations.OpenCount a n) : s.openCountOf a = n := by
  obtain ⟨i, e, has, count⟩ | ⟨lacks, zero⟩ := h
  · have entry : s.stations.entries[i] = some e := has.1
    rw [openCountOf, stationEntry, findStation_of_has has, Option.bind_some, entry]
    exact count
  · rw [openCountOf, stationEntry, findStation_of_lacks lacks, zero]
    rfl

theorem freeContext_of_lowest (h : s.LowestFree i) : s.freeContext = some i :=
  firstPlace_eq_some.2 ⟨decide_eq_true h.1, fun j below => decide_eq_false (h.2 j below)⟩

theorem freeContext_of_full (h : ∀ i : Fin 48, s.reassembly.contexts[i].body ≠ .free) : s.freeContext = none :=
  firstPlace_eq_none.2 fun j => decide_eq_false (h j)

theorem availableContext_of_lowest (count : s.stations.OpenCount a n) (few : n < s.params.contextsPerStation)
    (h : s.LowestFree i) : s.availableContext a = some i := by
  rw [availableContext, openCountOf_eq count, if_pos few, freeContext_of_lowest h]

theorem availableContext_of_none (count : s.stations.OpenCount a n)
    (h : s.params.contextsPerStation ≤ n ∨ ∀ i : Fin 48, s.reassembly.contexts[i].body ≠ .free) :
    s.availableContext a = none := by
  rw [availableContext, openCountOf_eq count]
  obtain many | full := h
  · exact if_neg (Nat.not_lt.2 many)
  · rw [freeContext_of_full full, ite_self]

/-! ### A start -/

theorem reportStation_of_same (same : u.stations = s.stations) (h : s.stations.Unique) (a : Addr)
    (f : StationEntry → StationEntry) : u.reportStation a f = u.withStations (s.stations.report a f) :=
  same ▸ reportStation_eq (same ▸ h) a f

/-- R62, R63: a start that is refused, counted in the counters `k` and posted as event `e`. -/
def startRefused (s : State) (k : ReassemblyCounters) (e : EventKind) (a : Addr) : State :=
  ((s.withReassembly { s.reassembly with counters := k }).withStations
    (s.stations.report a fun x => { x with errors := satInc x.errors })).post e (a.zeroExtend 16)

theorem startMessage_of_noContext (h : s.stations.Unique) (none : s.availableContext c.source = none) (whole : Bool) :
    s.startMessage c whole = s.startRefused
      { s.reassembly.counters with noContext := satInc s.reassembly.counters.noContext } .noContext c.source := by
  simp only [startMessage, none]
  exact congrArg (State.postStation .noContext c.source)
    (countError_eq (s := s.countReassembly fun c => { c with noContext := satInc c.noContext }) h c.source)

theorem startMessage_of_noBuffer (h : s.stations.Unique) (available : s.availableContext c.source = some i)
    (empty : s.pool.free = []) (whole : Bool) : s.startMessage c whole = s.startRefused
      { s.reassembly.counters with noBuffer := satInc s.reassembly.counters.noBuffer } .noBuffer c.source := by
  simp only [startMessage, available, BlockPool.store_start_of_free_nil empty]
  exact congrArg (State.postStation .noBuffer c.source)
    (countError_eq (s := s.countReassembly fun c => { c with noBuffer := satInc c.noBuffer }) h c.source)

/-- R38, R39: a start takes the head of the free list, so the free count changes. -/
theorem storedPool_of_start (stored : s.pool.store c.payload none = some (x, p)) :
    s.storedPool p = (s.withPool p).handFreeCount := by
  cases free : s.pool.free with
  | nil => exact absurd (stored.symm.trans (BlockPool.store_start_of_free_nil free)) nofun
  | cons b blocks =>
    have taken := Option.some.inj (stored.symm.trans (BlockPool.store_start_of_free_cons free))
    have shorter : p.free = blocks := congrArg (fun y => y.2.free) taken
    rw [storedPool, free, shorter, if_neg]
    exact Nat.ne_of_lt (Nat.lt_succ_self _)

theorem startMessage_whole (h : s.stations.Unique) (available : s.availableContext c.source = some i)
    (stored : s.pool.store c.payload none = some (x, p)) :
    s.startMessage c true = (s.withPool p).handFreeCount.completed i (startedMessage c x) false := by
  have same : (s.withPool p).handFreeCount.stations = s.stations := by simp
  simp only [startMessage, available, stored, storedPool_of_start stored, if_true]
  exact completeContext_eq (same ▸ h) i _

theorem startMessage_opens (h : s.stations.Unique) (available : s.availableContext c.source = some i)
    (stored : s.pool.store c.payload none = some (x, p)) :
    s.startMessage c false = ((s.withPool p).handFreeCount.contextPut i
      { body := .opened (startedMessage c x) (c.sequence + 1) s.gapEnd,
        lastAbort := s.reassembly.contexts[i].lastAbort } s.reassembly.counters).withStations
      (s.stations.report c.source fun e => { e with openCount := e.openCount + 1 }) := by
  have table : (s.withPool p).handFreeCount.stations = s.stations := by simp
  have contexts : (s.withPool p).handFreeCount.reassembly = s.reassembly := by simp
  have gap : (s.withPool p).handFreeCount.gapExpiry = s.gapEnd :=
    (congrArg gapExpiry (storedPool_of_start stored).symm).trans (gapExpiry_storedPool p s)
  simp only [startMessage, available, stored, storedPool_of_start stored, gap, Bool.false_eq_true, if_false,
    setBody_eq contexts]
  exact reportStation_of_same (u := contextPut _ _ _ _) table h _ _

end State

/-- R54 to R56: the row of a DATA_ONLY or a DATA_FIRST at the head of the stream, where its key is free. -/
theorem exec_start {s : State} {c : AdmittedCell} {rest : List StreamItem} (head : s.stream = .cell c :: rest)
    (kind : c.kind = .only ∨ c.kind = .first) (free : s.KeyFree c.source c.channel) :
    exec (if c.kind = .only then .dataOnly else .dataFirst) s =
      .next ((s.withStream rest).startMessage c (decide (c.kind = .only))) := by
  have noEnd := State.endKeyContext_of_free (s := s.withStream rest) free
  obtain kind | kind := kind
  · rw [if_pos kind, kind]
    exact congrArg Host.Outcome.next ((State.dataOnly_of_head head kind).trans (by rw [noEnd]; rfl))
  · rw [kind]
    exact congrArg Host.Outcome.next ((State.dataFirst_of_head head kind).trans (by rw [noEnd]; rfl))

/-- Settles O32: a start by the contexts and the blocks there are. -/
theorem messagesStart : Obligations.MessagesStart := by
  intro s c rest head kind free unique n count row u k refused
  have step {v : State} (h : u.startMessage c (decide (c.kind = .only)) = v) : exec row s = .next v :=
    (exec_start head kind free).trans (congrArg Host.Outcome.next h)
  refine ⟨fun none => ?_, fun i few lowest => ?_⟩
  · exact step (State.startMessage_of_noContext (s := u) unique (State.availableContext_of_none (s := u) count none) _)
  · have available : u.availableContext c.source = some i :=
      State.availableContext_of_lowest (s := u) count few lowest
    refine ⟨fun empty => step (State.startMessage_of_noBuffer (s := u) unique available empty _),
      fun b blocks p _ stored => ⟨fun only => ?_, fun first => ?_⟩⟩
    · refine congrArg Host.Outcome.next ((State.dataOnly_of_head head only).trans ?_)
      rw [State.endKeyContext_of_free (s := s.withStream rest) free]
      exact State.startMessage_whole (s := u) unique available stored
    · refine congrArg Host.Outcome.next ((State.dataFirst_of_head head first).trans ?_)
      rw [State.endKeyContext_of_free (s := s.withStream rest) free]
      exact State.startMessage_opens (s := u) unique available stored

/-! ### The loss of the trunk -/

namespace State

variable {s : State} {i : Fin 48} {r : AbortReason}

/-- R142, R149: with the trunk DOWN the Hold Controller sends nothing. -/
theorem evaluateHold_trunkTx_of_down (down : s.trunkRx.link = .down) : s.evaluateHold.trunkTx = s.trunkTx := by
  rw [evaluateHold, down]
  cases s.hold.mode <;> rfl

theorem releaseChain_trunkTx_of_down (down : s.trunkRx.link = .down) (x : Chain) :
    (s.releaseChain x).trunkTx = s.trunkTx :=
  evaluateHold_trunkTx_of_down (s := (s.withPool _).withHold _) down

theorem endContext_trunkTx_of_down (down : s.trunkRx.link = .down) (r : AbortReason) (i : Fin 48) :
    (s.endContext r i).trunkTx = s.trunkTx := by
  cases body : s.reassembly.contexts[i].body with
  | free => rw [endContext_of_free body]
  | complete m => rw [endContext_of_complete body]
  | discarding a ch z =>
    simp only [endContext, context, body]
    simp [endDiscarding]
  | opened m e z =>
    simp only [endContext, context, body]
    have sent := releaseChain_trunkTx_of_down (s := s.setContext i { body := .free, lastAbort := r }) down m.chain
    simpa [abortToFree] using sent

theorem endContexts_trunkTx_of_down (r : AbortReason) : ∀ (l : List (Fin 48)) {s : State}, s.trunkRx.link = .down →
    (s.endContexts r l).trunkTx = s.trunkTx
  | [], _, _ => rfl
  | i :: l, s, down => (endContexts_trunkTx_of_down r l (s := s.endContext r i) (by simpa using down)).trans
    (endContext_trunkTx_of_down down r i)

theorem dropTransmission_of_same {x : TrunkTransmitter} (same : s.trunkTx = x) :
    s.dropTransmission = s.withTrunkTx { x with inFlight := none, slot := none } := by
  rw [dropTransmission, same]

theorem endContexts_eq (r : AbortReason) (l : List (Fin 48)) (s : State) :
    s.endContexts r l = l.foldl (fun v i => v.endContext r i) s := rfl

theorem trunkLoss_of_down (link : s.trunkRx.link = .down) : s.trunkLoss = s := by
  rw [trunkLoss, link]

theorem trunkLoss_of_up {u : State} (link : s.trunkRx.link = .up)
    (ended : ((s.withTrunkRx { s.trunkRx with link := .down }).post .trunkDown 0).endContexts .trunkLoss
      (List.finRange 48) = u) : s.trunkLoss =
    (u.withTrunkTx { s.trunkTx with inFlight := none, slot := none }).withHold { u.hold with mode := .quiet } := by
  have sent := endContexts_trunkTx_of_down .trunkLoss (List.finRange 48)
    (s := (s.withTrunkRx { s.trunkRx with link := .down }).post .trunkDown 0) (by simp)
  have same : ((s.withTrunkRx { s.trunkRx with link := .down }).post .trunkDown 0).trunkTx = s.trunkTx := by simp
  have dropped := dropTransmission_of_same ((congrArg State.trunkTx ended.symm).trans (sent.trans same))
  have loss : s.trunkLoss = u.dropTransmission.quietHold := by
    simp only [trunkLoss, link, ← ended]
    rfl
  rw [loss, dropped]
  rfl

end State

/-! ### The removal of stations -/

/-- R28, R29, R155, R159: the Management Unit after it has answered the removal that request `q` of tag `t` began. -/
def Management.removalAnswered (m : Management) (t : Fin 4) (q : U16) (k : RequestKind) (data : List Byte) :
    Management :=
  let m' := { m with
    unit := .idle,
    responses := m.responses ++ [{ tag := natByte t.val, sequence := q, kind := k.code, status := .ok, data := data }] }
  if m.sessions[t].lastSequence = some q then
    { m' with sessions := m'.sessions.set t { m'.sessions[t] with
        inProgress := false, cached := some (.whole k.code .ok data), awaitsSwap := false } }
  else m'

namespace State

variable {s : State} {t : Fin 4} {q : U16} {k : RequestKind}

theorem length_removalData (k : RequestKind) (stations : List Addr) (n : Nat) :
    (removalData k stations n).length ≤ 64 := by
  rw [removalData]
  split <;> simp

theorem answerRemoval_of_idle (unit : s.management.unit = .idle) (stations : List Addr) (n : Nat) :
    s.answerRemoval stations n = s := by
  simp only [answerRemoval, unit]

theorem answerRemoval_of_executing (unit : s.management.unit = .executing t q k) (stations : List Addr) (n : Nat) :
    s.answerRemoval stations n =
      s.withManagement (s.management.removalAnswered t q k (removalData k stations n)) := by
  simp only [answerRemoval, unit, respond, cacheEntry, if_pos (length_removalData k stations n), cacheResponse]
  exact (apply_ite s.withManagement _ _ _).symm

end State

/-- Settles O36: the loss by the link, and the removal work by what waits for it. -/
theorem trunkLossAndRemovalsEndContexts : Obligations.TrunkLossAndRemovalsEndContexts := by
  refine ⟨fun s => ⟨fun down => congrArg Host.Outcome.next (State.trunkLoss_of_down down),
    fun up => congrArg Host.Outcome.next (State.trunkLoss_of_up up (State.endContexts_eq _ _ _))⟩,
    fun s stations rest head => ?_⟩
  intro ends u
  have which : ends = s.removedContexts stations := by
    refine List.filter_congr fun i _ => ?_
    simp only [State.context]
    cases s.reassembly.contexts[i].body with
    | opened m e z => exact (List.contains_eq_mem m.station stations).symm
    | discarding a ch z => exact (List.contains_eq_mem a stations).symm
    | free => rfl
    | complete m => rfl
  have work : s.removalWork = u.answerRemoval stations ends.length := by
    simp only [State.removalWork, head, ← which]
    rfl
  have same : u.management = s.management :=
    (State.endContexts_frame .flushed ends (s.withStream rest)).2.2.2.2.2.2.1
  refine ⟨fun idle => congrArg Host.Outcome.next ?_, fun t q k executing removes => ?_⟩
  · exact work.trans (State.answerRemoval_of_idle (same ▸ idle) stations ends.length)
  · intro data m
    refine congrArg Host.Outcome.next (work.trans ?_)
    refine ((State.answerRemoval_of_executing (same ▸ executing) stations ends.length).trans ?_)
    exact congrArg (fun x => u.withManagement (Management.removalAnswered x t q k data)) same

end Sys2Proof.Machine
end

section
/-! The side that Hold Control and the Event Unit see of a step: most operations change it by postings (R171) and
evaluations of the hold (R142) only, so that an invariant of that side is kept once those two keep it. -/

namespace Sys2Proof.Machine

/-- What Hold Control, the Trunk Transmitter and the Event Unit read and write. -/
structure SideView where
  link : TrunkLink
  inFlight : Option TxCell
  slot : Option TxCell
  mode : HoldMode
  events : EventUnit
  params : Params
  isEvent : Bool

namespace State

def side (s : State) : SideView :=
  { link := s.trunkRx.link, inFlight := s.trunkTx.inFlight, slot := s.trunkTx.slot, mode := s.hold.mode,
    events := s.events, params := s.params, isEvent := s.uplink.lane.isEvent }

/-- The side of the second state comes from that of the first by postings and evaluations of the hold. -/
inductive Side : State → State → Prop
  | same {s u : State} (h : u.side = s.side) : Side s u
  | post {s u : State} (h : Side s u) (k : EventKind) (d : U16) : Side s (u.post k d)
  | evaluate {s u : State} (h : Side s u) : Side s u.evaluateHold
  | further {s u v : State} (h : Side s u) (same : v.side = u.side) : Side s v

namespace Side

variable {s u v : State}

theorem refl (s : State) : Side s s := .same rfl

theorem trans (h : Side s u) (h' : Side u v) : Side s v := by
  induction h' with
  | same same => exact h.further same
  | post _ k d ih => exact ih.post k d
  | evaluate _ ih => exact ih.evaluate
  | further _ same ih => exact ih.further same

/-- What reads the side only and is kept by postings and by evaluations of the hold is kept. -/
theorem keeps {P : State → Prop} (reads : ∀ {s u : State}, u.side = s.side → P s → P u)
    (post : ∀ (s : State) k d, P s → P (s.post k d)) (evaluate : ∀ s : State, P s → P s.evaluateHold)
    (h : Side s u) (hs : P s) : P u := by
  induction h with
  | same same => exact reads same hs
  | post _ k d ih => exact post _ k d ih
  | evaluate _ ih => exact evaluate _ ih
  | further _ same ih => exact reads same ih

end Side

variable {s u v : State}

/-! ### The shared operations -/

theorem side_handFreeCount (s : State) : s.Side s.handFreeCount :=
  (Side.same (s := s) (u := s.withHold { s.hold with lastFree := s.pool.free.length }) (by rfl)).evaluate

theorem side_releaseChain (c : Chain) (s : State) : s.Side (s.releaseChain c) :=
  (Side.same (s := s) (u := s.withPool (s.pool.release c)) (by rfl)).trans (side_handFreeCount _)

theorem side_dropReference (h : Nat) (s : State) : s.Side (s.dropReference h) := by
  unfold dropReference
  dsimp only
  split
  · exact .same rfl
  · exact (Side.same (s := s) (u := s.withPool _) (by rfl)).trans (side_releaseChain _ _)

theorem side_dropReferences (l : List Record) (s : State) : s.Side (s.dropReferences l) := by
  induction l generalizing s with
  | nil => exact .refl s
  | cons r l ih => exact (side_dropReference r.chain s).trans (ih _)

theorem side_disposeChain (c : Chain) (n : Nat) (s : State) : s.Side (s.disposeChain c n) := by
  unfold disposeChain
  split
  · exact side_releaseChain c s
  · exact .same rfl

/-! ### The contexts -/

theorem side_countError (a : Addr) (s : State) : (s.countError a).side = s.side := by
  simp [side]

theorem side_countClosed (a : Addr) (s : State) : (s.countClosed a).side = s.side := by
  simp [side]

theorem side_accountAbort (r : AbortReason) (a : Addr) (s : State) : s.Side (s.accountAbort r a) := by
  have error : s.Side ((s.countReassembly r.count).countError a) := .same (side_countError a _)
  cases r with
  | none => exact .same rfl
  | flushed => exact .same rfl
  | trunkLoss => exact .same rfl
  | restart => exact error
  | sequence => exact error.post _ _
  | timeout => exact error.post _ _
  | oversize => exact error.post _ _
  | noBuffer => exact error.post _ _

theorem side_abortToDiscarding (i : Fin 48) (m : Message) (r : AbortReason) (s : State) :
    s.Side (s.abortToDiscarding i m r) :=
  ((Side.same (s := s) (u := s.setContext i _) (by rfl)).trans
    (side_releaseChain m.chain _)).trans (side_accountAbort r m.station _)

theorem side_abortToFree (i : Fin 48) (m : Message) (r : AbortReason) (s : State) : s.Side (s.abortToFree i m r) :=
  (((Side.same (s := s) (u := s.setContext i _) (by rfl)).trans (side_releaseChain m.chain _)).trans
    (side_accountAbort r m.station _)).further (side_countClosed m.station _)

theorem side_endContext (r : AbortReason) (i : Fin 48) (s : State) : s.Side (s.endContext r i) := by
  unfold endContext
  split
  · exact side_abortToFree i _ r s
  · exact .same (by simp [side])
  · exact .refl s
  · exact .refl s

theorem side_endContexts (r : AbortReason) (l : List (Fin 48)) (s : State) : s.Side (s.endContexts r l) := by
  induction l generalizing s with
  | nil => exact .refl s
  | cons i l ih => exact (side_endContext r i s).trans (ih _)

theorem side_endKeyContext (a : Addr) (ch : Chan) (s : State) : s.Side (s.endKeyContext a ch) := by
  unfold endKeyContext
  split
  · exact .refl s
  · exact side_endContext _ _ s

theorem side_storedPool (p : BlockPool) (s : State) : s.Side (s.storedPool p) := by
  unfold storedPool
  split
  · exact .same rfl
  · exact (Side.same (s := s) (u := s.withPool p) (by rfl)).trans (side_handFreeCount _)

theorem side_startMessage (c : AdmittedCell) (whole : Bool) (s : State) : s.Side (s.startMessage c whole) := by
  unfold startMessage
  split
  · exact (Side.same (s := s) (by exact side_countError c.source _)).post _ _
  · split
    · exact (Side.same (s := s) (by exact side_countError c.source _)).post _ _
    · next p _ =>
      cases whole
      · exact (side_storedPool p s).further (by simp [side])
      · exact (side_storedPool p s).further (by simp [side])

theorem side_abortAtCell (last : Bool) (i : Fin 48) (m : Message) (r : AbortReason) (s : State) :
    s.Side (s.abortAtCell last i m r) := by
  cases last
  · exact side_abortToDiscarding i m r s
  · exact side_abortToFree i m r s

theorem side_continueOpen (last : Bool) (c : AdmittedCell) (i : Fin 48) (m : Message) (e : Seq) (s : State) :
    s.Side (s.continueOpen last c i m e) := by
  unfold continueOpen
  split
  · split
    · exact side_abortAtCell ..
    · split
      · exact side_abortAtCell ..
      · next p _ => exact (side_storedPool p s).further (by simp [side])
  · split
    · exact .same rfl
    · exact side_abortAtCell ..

theorem side_continueMessage (last : Bool) (c : AdmittedCell) (s : State) : s.Side (s.continueMessage last c) := by
  unfold continueMessage
  split
  · exact (Side.same (s := s) (by exact side_countError c.source _)).post _ _
  · split
    · exact side_continueOpen ..
    · exact .same (by simp [side])
    · exact .refl s
    · exact .refl s

theorem side_takeCell {k : DataKind} {act : AdmittedCell → State → State} (own : ∀ c u, Side u (act c u)) (s : State) :
    s.Side (s.takeCell k act) := by
  unfold takeCell
  split
  · split
    · exact (Side.same (s := s) (u := s.withStream _) (by rfl)).trans (own _ _)
    · exact .refl s
  · exact .refl s
  · exact .refl s

theorem side_startCell (c : AdmittedCell) (whole : Bool) (s : State) :
    s.Side ((s.endKeyContext c.source c.channel).startMessage c whole) :=
  (side_endKeyContext _ _ s).trans (side_startMessage c whole _)

theorem side_gapTimerExpiry (i : Fin 48) (s : State) : s.Side (s.gapTimerExpiry i) := by
  unfold gapTimerExpiry
  split
  · split
    · exact side_abortToFree i _ _ s
    · exact .refl s
  · split
    · exact .same (by simp [side])
    · exact .refl s
  · exact .refl s
  · exact .refl s

theorem side_answerRemoval (stations : List Addr) (n : Nat) (s : State) :
    (s.answerRemoval stations n).side = s.side := by
  simp [side]

theorem side_removalWork (s : State) : s.Side s.removalWork := by
  unfold removalWork
  split
  · next stations rest _ =>
    exact ((Side.same (s := s) (u := s.withStream rest) (by rfl)).trans (side_endContexts .flushed _ _)).further
      (side_answerRemoval stations _ _)
  · exact .refl s
  · exact .refl s

/-! ### The trunk receiver and the aging tick -/

theorem side_setEntry (i : Fin 64) (e : Option StationEntry) (s : State) : (s.setEntry i e).side = s.side := rfl

theorem side_lookupCell (k : DataKind) (bytes : List Byte) (s : State) : s.Side (s.lookupCell k bytes) := by
  have foreign : s.Side (s.foreignCell (cellSource bytes)) :=
    (Side.same (s := s) (u := s.withStations _) (by rfl)).post .foreignStation _
  unfold lookupCell
  dsimp only
  split
  · split
    · split
      · exact .same rfl
      · exact (Side.same (s := s) (u := (s.setEntry _ _).withStations _) (by rfl)).post .blockedStation _
    · exact .refl s
  · split
    · split
      · exact ((Side.refl s).post .stationLearned _).further rfl
      · exact foreign
    · exact foreign

theorem side_receivedCell (u : LaneUnit) (s : State) : s.Side (s.receivedCell u) := by
  unfold receivedCell
  split
  · exact .refl s
  · exact .refl s
  · dsimp only
    split
    · exact (Side.same (s := s) (u := (s.changeRx _).changeRx _) (by rfl)).post .cellError _
    · exact (Side.same (s := s) (u := (s.changeRx _).changeRx _) (by rfl)).post .cellError _
    · exact .same rfl
    · exact .same rfl
    · exact (Side.same (s := s) (u := (s.changeRx _).changeRx _) (by rfl)).post .cellError _
    · exact (Side.same (s := s) (u := s.changeRx _) (by rfl)).trans (side_lookupCell _ _ _)

theorem side_ageOut (i : Fin 64) (s : State) : s.Side (s.ageOut i) := by
  unfold ageOut
  split
  · split
    · exact (Side.same (side_setEntry i none s)).post .stationAged _
    · exact .refl s
  · exact .refl s

theorem side_ageOuts (l : List (Fin 64)) (s : State) : s.Side (l.foldl (fun t i => t.ageOut i) s) := by
  induction l generalizing s with
  | nil => exact .refl s
  | cons i l ih => exact (side_ageOut i s).trans (ih _)

theorem side_agingTick (s : State) : s.Side s.agingTick :=
  (Side.same (s := s) (u := s.withStations _) (by rfl)).trans (side_ageOuts _ _)

/-! ### The Classifier and the Program Store -/

theorem side_offerCopy (m : Message) (mark : Bool) (o : Offer) (st : Nat × State) :
    st.2.Side (offerCopy m mark o st).2 := by
  unfold offerCopy
  split
  · exact .same rfl
  · exact (Side.same (s := st.2) (u := st.2.setQueue _ _) (by rfl)).post .queueFull _

theorem side_offers (m : Message) (mark : Bool) (l : List Offer) (st : Nat × State) :
    st.2.Side (l.foldl (fun st o => offerCopy m mark o st) st).2 := by
  induction l generalizing st with
  | nil => exact .refl st.2
  | cons o l ih => exact (side_offerCopy m mark o st).trans (ih _)

theorem side_offerCopies (m : Message) (a : ClauseAction) (s : State) : s.Side (s.offerCopies m a).2 :=
  side_offers m a.mark a.offers (0, s)

theorem side_takeMessageId (n : Nat) (s : State) : (s.takeMessageId n).side = s.side := by
  simp [side]

theorem side_endEvaluated (i : Fin 48) (m : Message) (x : Properties) (s : State) : s.Side (s.endEvaluated i m x) := by
  have counted (hits : List Nat) : s.Side (s.countHits hits) := .same rfl
  exact (((counted _).trans (side_offerCopies m _ _)).further (side_takeMessageId _ _)).trans
    (side_disposeChain m.chain _ _) |>.further rfl

theorem side_endDamaged (i : Fin 48) (m : Message) (s : State) : s.Side (s.endDamaged i m) := by
  have freed : s.Side ((s.releaseChain m.chain).setBody i .free) := (side_releaseChain m.chain s).further rfl
  exact (freed.post .memoryError 0xFFFF).further rfl

theorem side_classificationEnd (s : State) : s.Side s.classificationEnd := by
  unfold classificationEnd
  split
  · exact .refl s
  · split
    · split
      · exact side_endEvaluated ..
      · exact side_endDamaged ..
    · exact .refl s
    · exact .refl s
    · exact .refl s

theorem side_respondDeferred (t : Fin 4) (q : U16) (data : List Byte) (s : State) :
    (s.respondDeferred t q data).side = s.side := by
  simp [side]

theorem side_swap (s : State) : s.Side s.swap := by
  have placed (x : ProgramStore) : s.Side (s.withProgram x) := .same rfl
  unfold swap
  split
  · exact ((placed _).post .commitDone _).further (side_respondDeferred _ _ _ _)
  · exact .refl s
  · exact .refl s
  · exact .refl s

theorem side_idleTimerExpiry (s : State) : s.Side s.idleTimerExpiry := by
  unfold idleTimerExpiry
  split
  · split
    · exact (Side.same (s := s) (u := s.setEdit .none) (by rfl)).post .editTimeout _
    · exact .refl s
  · exact .refl s
  · exact .refl s

theorem side_forHolder {t : Fin 4} {f : Program → State → State × Reply} (own : ∀ g u, Side u (f g u).1) (s : State) :
    s.Side (s.forHolder t f).1 := by
  unfold forHolder
  split
  · exact .refl s
  · split
    · exact own _ s
    · exact .refl s
  · split <;> exact .refl s

theorem side_commit (t : Fin 4) (r : Request) (s : State) : s.Side (State.commit t r s).1 := by
  refine side_forHolder (fun g u => ?_) s
  split
  · exact .same rfl
  · exact (Side.same (s := u) (u := (u.setEdit _).awaitSwap t) (by rfl)).trans (side_swap _)

/-! ### The Uplink Port and the Delivery Unit -/

theorem side_receiveUplinkUnit (u : LaneUnit) (s : State) : s.Side (s.receiveUplinkUnit u) := by
  rw [receiveUplinkUnit_eq]
  split
  · unfold takeInbound
    split
    · exact (Side.same (s := s) (u := s.withUplink _) (by rfl)).post .uplinkFrameError _
    · unfold arriveRequest
      split
      · exact .same rfl
      · exact (Side.same (s := s) (u := s.withManagement _) (by rfl)).post .requestDropped _
    · unfold arriveCredit
      split
      · unfold addCredit
        dsimp only
        split
        · exact .same rfl
        · exact (Side.same (s := s) (u := s.setQueue _ _) (by rfl)).post .creditOverflow _
      · exact (Side.same (s := s) (u := s.withUplink _) (by rfl)).post .uplinkFrameError _
  · exact .refl s

theorem lane_of_grant {o : Owner} (h : s.grant = some o) : s.uplink.link = .up ∧ s.uplink.lane = .idle := by
  rw [grant] at h
  split at h
  · next idle => exact idle
  · nomatch h

theorem isEvent_of_grant {o : Owner} (h : s.grant = some o) : s.uplink.lane.isEvent = false := by
  rw [(lane_of_grant h).2]
  rfl

theorem side_setLane {l : Lane} (h : l.isEvent = s.uplink.lane.isEvent) : (s.setLane l).side = s.side := by
  simp [side, setLane, h]

theorem side_finishFrame (bytes : List Byte) (h : s.uplink.lane.isEvent = false) :
    (s.finishFrame bytes).side = s.side := by
  rw [side, side, h]
  rfl

theorem side_responseFrameStart (s : State) : s.Side s.responseFrameStart := by
  unfold responseFrameStart
  split
  · next granted =>
    split
    · exact .same (side_setLane (isEvent_of_grant granted).symm)
    · exact .refl s
  · exact .refl s

theorem side_responseFrameEnd (s : State) : s.Side s.responseFrameEnd := by
  unfold responseFrameEnd
  split
  · next lane => exact .same ((side_finishFrame _ (by simp [lane, Lane.isEvent])).trans rfl)
  · exact .refl s
  · exact .refl s
  · exact .refl s

theorem side_deliveryFrameStart (s : State) : s.Side s.deliveryFrameStart := by
  unfold deliveryFrameStart
  split
  · next granted =>
    split
    · split
      · exact .same (side_setLane (isEvent_of_grant granted).symm)
      · exact .refl s
    · exact .refl s
  · exact .refl s

theorem side_removeHead (q : Fin 8) (s : State) : s.Side (s.removeHead q) := by
  unfold removeHead
  split
  · exact .refl s
  · exact (Side.same (s := s) (u := s.keepRecords q _ _) (by rfl)).trans (side_dropReferences _ _)

theorem side_closeHead (q : Fin 8) (f : QueueCounters → QueueCounters) (s : State) :
    s.Side ((s.closeFlight q f).removeHead q) :=
  (Side.same (s := s) (u := s.closeFlight q f) rfl).trans (side_removeHead q _)

theorem side_endStreamed {f : DeliveryFrame} (lane : s.uplink.lane = .delivery f) : s.Side (s.endStreamed f) := by
  unfold endStreamed
  dsimp only
  split
  · exact .refl s
  · exact (side_closeHead f.queue (countDelivered f.header.length) s).further
      (side_finishFrame _ (by simp [lane, Lane.isEvent]))

theorem side_deliveryFrameEnd (s : State) : s.Side s.deliveryFrameEnd := by
  unfold deliveryFrameEnd
  split
  · next f lane =>
    split
    · exact side_endStreamed lane
    · exact .same (side_finishFrame _ (by simp [lane, Lane.isEvent]))
  · exact .refl s
  · exact .refl s
  · exact .refl s

theorem side_haltOnDamage {f : DeliveryFrame} (lane : s.uplink.lane = .delivery f) (sent : List Byte) :
    s.Side (s.haltOnDamage f sent) := by
  have removed := side_closeHead f.queue (fun c => { c with memoryErrors := satInc c.memoryErrors }) s
  have halted (x : Queue) := removed.further (v := setQueue f.queue x _) rfl
  exact ((halted _).further (side_setLane (by simp [lane, Lane.isEvent]))).post .memoryError _

theorem side_deliveryMemoryError (s : State) : s.Side s.deliveryMemoryError := by
  unfold deliveryMemoryError
  split
  · next f lane =>
    split
    · split
      · exact side_haltOnDamage lane _
      · exact .refl s
    · exact .refl s
  · exact .refl s
  · exact .refl s
  · exact .refl s

theorem side_forQueue {r : Request} {f : Fin 8 → State → State × Reply} (own : ∀ q u, Side u (f q u).1) (s : State) :
    s.Side (s.forQueue r f).1 := by
  unfold forQueue
  split
  · exact .refl s
  · exact own _ s

theorem side_flushQueue (t : Fin 4) (r : Request) (s : State) : s.Side (State.flushQueue t r s).1 :=
  side_forQueue (fun q u =>
    (Side.same (s := u) (u := (u.keepRecords q _ _).setQueue q _) (by rfl)).trans (side_dropReferences _ _)) s

/-! ### The other commands -/

theorem side_clearGroup (g : Group) (s : State) : (s.clearGroup g).side = s.side := by
  cases g <;> rfl

theorem side_readCounters (t : Fin 4) (r : Request) (s : State) : s.Side (State.readCounters t r s).1 := by
  unfold State.readCounters
  split
  · exact .refl s
  · dsimp only
    split
    · exact .refl s
    · split
      · exact .same (side_clearGroup _ s)
      · exact .refl s

theorem side_clearCounters (t : Fin 4) (r : Request) (s : State) : s.Side (State.clearCounters t r s).1 := by
  unfold State.clearCounters
  split
  · exact .refl s
  · exact .same (side_clearGroup _ s)

theorem side_uplinkSignal (s : State) : s.Side s.uplinkSignal := by
  unfold uplinkSignal
  split <;> exact .same rfl

theorem side_trainingComplete (s : State) : s.Side s.trainingComplete := by
  unfold trainingComplete
  split <;> exact .same rfl

theorem side_take {body : Execution} (own : ∀ t r u, Side u (body t r u).1) (k : RequestKind)
    (applies : Request → Bool) (s : State) : s.Side (s.takeRequest k applies body) :=
  takeRequest_rel (R := Side) .refl .trans (fun _ _ => .same rfl) own k applies s

end State

/-- The commands that do more to the side than post and evaluate the hold. -/
def movesSide (c : Instr) : Bool :=
  c ∈ [.powerOn, .trunkUp, .trunkLoss, .cellTransmissionEnd, .refreshTimerExpiry, .coalescingTimerExpiry,
    .trainingFailure, .lossOfSignal, .eventFrameStart, .eventFrameEnd, .setParam, .softRestart, .sendHold,
    .sendRelease, .setEvents, .flushEvents]

theorem State.side_of_blocks {s u : State}
    (same : ∀ b ∈ [Block.trunkReceiver, .trunkTransmitter, .holdController, .eventUnit, .parameters, .uplinkPort],
      b.same s u) : u.side = s.side := by
  have rx : u.trunkRx = s.trunkRx := same .trunkReceiver (by simp)
  have tx : u.trunkTx = s.trunkTx := same .trunkTransmitter (by simp)
  have hold : u.hold = s.hold := same .holdController (by simp)
  have events : u.events = s.events := same .eventUnit (by simp)
  have params : u.params = s.params := same .parameters (by simp)
  have uplink : u.uplink = s.uplink := same .uplinkPort (by simp)
  rw [side, side, rx, tx, hold, events, params, uplink]

theorem State.side_after {c : Instr} (h : movesSide c = false) (s : State) : s.Side (s.after c) := by
  cases c with
  | receivedCell u => exact side_receivedCell u s
  | dataOnly => exact side_takeCell (fun c => side_startCell c true) s
  | dataFirst => exact side_takeCell (fun c => side_startCell c false) s
  | dataMiddle => exact side_takeCell (side_continueMessage false) s
  | dataLast => exact side_takeCell (side_continueMessage true) s
  | gapTimerExpiry i => exact side_gapTimerExpiry i s
  | agingTick => exact side_agingTick s
  | classificationEnd => exact side_classificationEnd s
  | swap => exact side_swap s
  | idleTimerExpiry => exact side_idleTimerExpiry s
  | uplinkSignal => exact side_uplinkSignal s
  | trainingComplete => exact side_trainingComplete s
  | requestFrame u => exact side_receiveUplinkUnit u s
  | creditFrame u => exact side_receiveUplinkUnit u s
  | uplinkFrameError u => exact side_receiveUplinkUnit u s
  | responseFrameStart => exact side_responseFrameStart s
  | responseFrameEnd => exact side_responseFrameEnd s
  | deliveryFrameStart => exact side_deliveryFrameStart s
  | deliveryFrameEnd => exact side_deliveryFrameEnd s
  | deliveryMemoryError => exact side_deliveryMemoryError s
  | removalWork => exact side_removalWork s
  | commit => exact side_take side_commit _ _ s
  | flushQueue => exact side_take side_flushQueue _ _ s
  | readCounters => exact side_take side_readCounters _ _ s
  | clearCounters => exact side_take side_clearCounters _ _ s
  | powerOn | trunkUp | trunkLoss | cellTransmissionEnd | refreshTimerExpiry | coalescingTimerExpiry | trainingFailure
  | lossOfSignal | eventFrameStart | eventFrameEnd | setParam | softRestart | sendHold | sendRelease | setEvents
  | flushEvents => exact absurd h (by decide)
  | _ =>
    exact keeps_after (P := fun u => s.Side u)
      [.trunkReceiver, .trunkTransmitter, .holdController, .eventUnit, .parameters, .uplinkPort]
      (fun u v same hu => hu.further (side_of_blocks same)) (by simp [reachOfAny, Instr.reach]) (.refl s)

end Sys2Proof.Machine
end

section
/-! Every step keeps the parameters in their ranges (R141, R161), and with the trunk DOWN no hold in force and no cell on
the lane (R12, R15, R140, R149). -/

namespace Sys2Proof.Machine

/-! ### The parameters -/

theorem Params.eq_of_inRange {lo hi v : Nat} {x p : Params} (h : Machine.inRange lo hi v x = some p) :
    (lo ≤ v ∧ v ≤ hi) ∧ p = x := by
  unfold Machine.inRange at h
  split at h
  · next within => exact ⟨within, (Option.some.inj h).symm⟩
  · nomatch h

/-- R162: an accepted value is in the range of its parameter, and the other parameters keep their values. -/
theorem Params.InRange.change {p q : Params} {n v : Nat} (h : p.InRange) (changed : p.change n v = some q) :
    q.InRange := by
  obtain ⟨address, gap, length, contexts, on, off, apart, duration, count, time, weights, limits⟩ := h
  cases paramNumber n with
  | trunkAddress =>
    obtain ⟨within, rfl⟩ := Params.eq_of_inRange changed
    refine ⟨?_, gap, length, contexts, on, off, apart, duration, count, time, weights, limits⟩
    exact Nat.le_trans (Nat.mod_le v _) within.2
  | learning =>
    obtain ⟨-, rfl⟩ := Params.eq_of_inRange changed
    exact ⟨address, gap, length, contexts, on, off, apart, duration, count, time, weights, limits⟩
  | defaultTag =>
    obtain ⟨-, rfl⟩ := Params.eq_of_inRange changed
    exact ⟨address, gap, length, contexts, on, off, apart, duration, count, time, weights, limits⟩
  | ageLimit =>
    obtain ⟨-, rfl⟩ := Params.eq_of_inRange changed
    exact ⟨address, gap, length, contexts, on, off, apart, duration, count, time, weights, limits⟩
  | gapLimit =>
    obtain ⟨within, rfl⟩ := Params.eq_of_inRange changed
    exact ⟨address, within, length, contexts, on, off, apart, duration, count, time, weights, limits⟩
  | maxLength =>
    obtain ⟨within, rfl⟩ := Params.eq_of_inRange changed
    exact ⟨address, gap, within, contexts, on, off, apart, duration, count, time, weights, limits⟩
  | contextsPerStation =>
    obtain ⟨within, rfl⟩ := Params.eq_of_inRange changed
    exact ⟨address, gap, length, within, on, off, apart, duration, count, time, weights, limits⟩
  | hOn =>
    obtain ⟨below, changed⟩ := Option.ite_none_right_eq_some.1 changed
    obtain ⟨within, rfl⟩ := Params.eq_of_inRange changed
    exact ⟨address, gap, length, contexts, within.2, off, below, duration, count, time, weights, limits⟩
  | hOff =>
    obtain ⟨above, changed⟩ := Option.ite_none_right_eq_some.1 changed
    obtain ⟨within, rfl⟩ := Params.eq_of_inRange changed
    exact ⟨address, gap, length, contexts, on, within, above, duration, count, time, weights, limits⟩
  | holdDuration =>
    obtain ⟨within, rfl⟩ := Params.eq_of_inRange changed
    refine ⟨address, gap, length, contexts, on, off, apart, ?_, count, time, weights, limits⟩
    exact within.1.trans_eq (Nat.mod_eq_of_lt (Nat.lt_succ_of_le within.2)).symm
  | coalesceCount =>
    obtain ⟨within, rfl⟩ := Params.eq_of_inRange changed
    exact ⟨address, gap, length, contexts, on, off, apart, duration, within, time, weights, limits⟩
  | coalesceTime =>
    obtain ⟨within, rfl⟩ := Params.eq_of_inRange changed
    exact ⟨address, gap, length, contexts, on, off, apart, duration, count, within, weights, limits⟩
  | weight q =>
    rw [change_weight] at changed
    obtain ⟨within, rfl⟩ := Params.eq_of_inRange changed
    refine ⟨address, gap, length, contexts, on, off, apart, duration, count, time, fun j => ?_, limits⟩
    dsimp only
    rw [getElem_set_fin]
    split
    · exact within
    · exact weights j
  | blockLimit q =>
    rw [change_blockLimit] at changed
    obtain ⟨within, rfl⟩ := Params.eq_of_inRange changed
    refine ⟨address, gap, length, contexts, on, off, apart, duration, count, time, weights, fun j => ?_⟩
    dsimp only
    rw [getElem_set_fin]
    split
    · exact within.2
    · exact limits j
  | unused _ none =>
    rw [p.change_unused v none] at changed
    nomatch changed

theorem Params.inRange_reset : State.reset.params.InRange := by
  refine ⟨by decide, by decide, by decide, by decide, by decide, by decide, by decide, by decide, by decide, by decide,
    fun q => ?_, fun q => ?_⟩
  · simp [State.reset, Params.defaults]
  · simp [State.reset, Params.defaults]

namespace State

variable {s u : State}

theorem inRange_setParam (t : Fin 4) (r : Request) (h : s.params.InRange) :
    (State.setParam t r s).1.params.InRange := by
  unfold State.setParam
  split
  · next changed => simpa [reply] using h.change changed
  · exact h

theorem inRange_after (h : s.params.InRange) (c : Instr) : (s.after c).params.InRange := by
  cases c with
  | powerOn => exact Params.inRange_reset
  | setParam =>
    exact takeRequest_rel (R := fun s u => s.params.InRange → u.params.InRange) (fun _ h => h)
      (fun h h' x => h' (h x)) (fun _ _ h => h) (fun t r u => inRange_setParam t r) .setParam _ s h
  | _ =>
    refine keeps_after (P := fun u => u.params.InRange) [.parameters] (fun u v same hu => ?_)
      (by simp [reachOfAny, Instr.reach, Block.hold, Block.uplinkLoss, Block.cell]) h
    have e : v.params = u.params := same .parameters (by simp)
    rwa [e]

/-! ### The trunk -/

theorem TrunkSound.of_side (same : u.side = s.side) (h : s.TrunkSound) : u.TrunkSound := by
  have link : u.trunkRx.link = s.trunkRx.link := congrArg SideView.link same
  have sending : u.trunkTx.inFlight = s.trunkTx.inFlight := congrArg SideView.inFlight same
  have slot : u.trunkTx.slot = s.trunkTx.slot := congrArg SideView.slot same
  have mode : u.hold.mode = s.hold.mode := congrArg SideView.mode same
  rw [TrunkSound, link, sending, slot, mode]
  exact h

theorem TrunkSound.post (h : s.TrunkSound) (k : EventKind) (d : U16) : (s.post k d).TrunkSound := by
  rw [TrunkSound] at h ⊢
  simpa using h

/-- R12: while the link is UP a cell may be on the lane, and only behind one does another wait. -/
theorem trunkSound_transmit (up : s.trunkRx.link = .up) (c : TxCell) : (s.transmit c).TrunkSound := by
  have link : (s.transmit c).trunkRx.link = .up := by simpa using up
  have busy : (s.transmit c).trunkTx.inFlight ≠ none := by
    by_cases idle : s.trunkTx.inFlight = none
    · rw [transmit_of_idle up idle]
      nofun
    · rw [transmit_of_busy up idle]
      exact idle
  exact ⟨fun down => absurd (link.symm.trans down) nofun, fun idle => absurd idle busy⟩

theorem trunkSound_transmit_withHold {x : HoldController} (up : s.trunkRx.link = .up) (c : TxCell) :
    ((s.withHold x).transmit c).TrunkSound :=
  trunkSound_transmit (by exact up) c

theorem TrunkSound.evaluateHold (h : s.TrunkSound) : s.evaluateHold.TrunkSound := by
  unfold State.evaluateHold
  split
  · next up _ =>
    split
    · exact (trunkSound_transmit_withHold up _).post .holdOn _
    · exact h
  · next up _ =>
    split
    · exact (trunkSound_transmit_withHold up _).post .holdOff _
    · exact h
  · exact h
  · exact ⟨fun down => ⟨rfl, (h.1 down).2⟩, h.2⟩

theorem TrunkSound.of_Side (h : s.TrunkSound) (along : s.Side u) : u.TrunkSound :=
  along.keeps (P := TrunkSound) TrunkSound.of_side (fun _ k d h => h.post k d) (fun _ h => h.evaluateHold) h

theorem TrunkSound.trunkUp (h : s.TrunkSound) : s.trunkUp.TrunkSound := by
  unfold State.trunkUp
  split
  · exact h
  · have linked : (s.changeRx fun x => { x with link := .up }).TrunkSound := ⟨nofun, h.2⟩
    exact (linked.post .trunkUp 0).evaluateHold

theorem TrunkSound.trunkLoss (h : s.TrunkSound) : s.trunkLoss.TrunkSound := by
  unfold State.trunkLoss
  split
  · exact h
  · exact ⟨fun _ => ⟨rfl, rfl⟩, fun _ => rfl⟩

theorem TrunkSound.cellTransmissionEnd (h : s.TrunkSound) : s.cellTransmissionEnd.TrunkSound := by
  unfold State.cellTransmissionEnd
  split
  · exact h
  · next c _ =>
    split
    · next up =>
      cases c with
      | hold a d => exact ⟨fun down => absurd (up.symm.trans down) nofun, fun _ => rfl⟩
      | release a => exact ⟨fun down => absurd (up.symm.trans down) nofun, fun _ => rfl⟩
    · exact ⟨fun down => ⟨(h.1 down).1, rfl⟩, fun _ => rfl⟩

/-- R149: a hold in force says that the trunk is UP. -/
theorem TrunkSound.up_of_holding (h : s.TrunkSound) {z : U32} (holding : s.hold.mode = .holding z) :
    s.trunkRx.link = .up := by
  cases link : s.trunkRx.link with
  | up => rfl
  | down => exact absurd (holding.symm.trans (h.1 link).1) nofun

theorem TrunkSound.refreshTimerExpiry (h : s.TrunkSound) : s.refreshTimerExpiry.TrunkSound := by
  unfold State.refreshTimerExpiry
  split
  · exact h
  · next holding =>
    split
    · exact trunkSound_transmit_withHold (h.up_of_holding holding) _
    · exact h

theorem TrunkSound.sendHold (h : s.TrunkSound) (t : Fin 4) (r : Request) : (State.sendHold t r s).1.TrunkSound := by
  unfold State.sendHold
  split
  · exact h
  · split
    · exact h
    · next up =>
      change (s.manualHold (r.word 0)).TrunkSound
      unfold manualHold
      split
      · exact trunkSound_transmit up _
      · exact trunkSound_transmit_withHold up _

theorem TrunkSound.sendRelease (h : s.TrunkSound) (t : Fin 4) (r : Request) :
    (State.sendRelease t r s).1.TrunkSound := by
  unfold State.sendRelease
  split
  · exact h
  · next up => exact trunkSound_transmit up _
  · exact h

theorem TrunkSound.setParam (h : s.TrunkSound) (t : Fin 4) (r : Request) : (State.setParam t r s).1.TrunkSound := by
  unfold State.setParam
  split
  · next p _ =>
    have placed : (s.withParams p).TrunkSound := h
    change ((s.withParams p).handParam (r.byte 0).toNat).TrunkSound
    unfold handParam
    split
    · exact placed.evaluateHold
    · split
      · split
        · exact placed
        · exact placed
      · exact placed
  · exact h

/-- R151: SOFT RESTART releases a hold in force. -/
theorem TrunkSound.restartHold (h : s.TrunkSound) : s.restartHold.TrunkSound := by
  unfold State.restartHold
  split
  · exact h
  · next holding => exact trunkSound_transmit_withHold (h.up_of_holding holding) _

theorem side_cutFrame (s : State) : s.cutFrame.side = s.side := by
  unfold cutFrame
  split
  · next f lane =>
    have isEvent : s.uplink.lane.isEvent = false := congrArg Lane.isEvent lane
    split
    · exact .trans (b := (s.setLane _).side) rfl (side_setLane (l := .delivery _) isEvent.symm)
    · rfl
  · rfl
  · rfl
  · rfl

theorem side_restartProgram (s : State) : s.restartProgram.side = s.side := by
  simp [side]

/-- R165: the parts of a restart that come before the Hold Controller's. -/
theorem side_restartQueues (s : State) :
    s.cutFrame.restartReassembly.restartDelivery.restartProgram.side = s.side :=
  (side_restartProgram _).trans (side_cutFrame s)

theorem TrunkSound.softRestart (h : s.TrunkSound) (t : Fin 4) (r : Request) :
    (State.softRestart t r s).1.TrunkSound := by
  have held := (TrunkSound.of_side (side_restartQueues s) h).restartHold
  let posted := s.cutFrame.restartReassembly.restartDelivery.restartProgram.restartHold.restartEvents
  have rebuilt (p : BlockPool) : (posted.withPool p).TrunkSound := held
  exact (rebuilt _).of_Side (side_handFreeCount _)

theorem TrunkSound.take (h : s.TrunkSound) {body : Execution}
    (own : ∀ t r (u : State), u.TrunkSound → (body t r u).1.TrunkSound) (k : RequestKind) :
    (s.take k body).TrunkSound :=
  takeRequest_rel (R := fun s u => s.TrunkSound → u.TrunkSound) (fun _ h => h) (fun h h' x => h' (h x))
    (fun _ _ h => h) own k _ s h

theorem trunkSound_reset : State.reset.TrunkSound := ⟨fun _ => ⟨rfl, rfl⟩, fun _ => rfl⟩

theorem TrunkSound.after (h : s.TrunkSound) (c : Instr) : (s.after c).TrunkSound := by
  by_cases stays : movesSide c = false
  · exact h.of_Side (side_after stays s)
  cases c with
  | powerOn => exact trunkSound_reset
  | trunkUp => exact h.trunkUp
  | trunkLoss => exact h.trunkLoss
  | cellTransmissionEnd => exact h.cellTransmissionEnd
  | refreshTimerExpiry => exact h.refreshTimerExpiry
  | setParam => exact h.take (fun t r u hu => hu.setParam t r) _
  | softRestart => exact h.take (fun t r u hu => hu.softRestart t r) _
  | sendHold => exact h.take (fun t r u hu => hu.sendHold t r) _
  | sendRelease => exact h.take (fun t r u hu => hu.sendRelease t r) _
  | coalescingTimerExpiry | trainingFailure | lossOfSignal | eventFrameStart | eventFrameEnd | setEvents
  | flushEvents =>
    refine keeps_after (P := TrunkSound) [.trunkReceiver, .trunkTransmitter, .holdController]
      (fun u v same hu => ?_) (by simp [reachOfAny, Instr.reach, Block.uplinkLoss]) h
    have rx : v.trunkRx = u.trunkRx := same .trunkReceiver (by simp)
    have tx : v.trunkTx = u.trunkTx := same .trunkTransmitter (by simp)
    have hold : v.hold = u.hold := same .holdController (by simp)
    rw [TrunkSound, rx, tx, hold]
    exact hu
  | _ => exact absurd rfl stays

end State

/-- Settles O52: a changed parameter is in its range, and whatever sends a cell or begins a hold finds the trunk UP. -/
theorem stepKeepsParametersAndTrunkSound : Obligations.StepKeepsParametersAndTrunkSound := by
  intro s t params trunk h
  refine step_keeps (P := fun s => s.params.InRange ∧ s.TrunkSound) (fun _ _ hs => hs) (fun _ hs => hs)
    (fun c s hs => ⟨State.inRange_after hs.1 c, hs.2.after c⟩) ⟨params, trunk⟩ h

end Sys2Proof.Machine
end

section
/-! Every step keeps the Event Unit sound (R170 to R176): a disabled slot counts nothing, and what the slots count is
reported by a frame that is due, by one that a running timer makes due, or at the end of the frame in flight. -/

namespace Sys2Proof.Machine

theorem Params.InRange.count_pos {p : Params} (h : p.InRange) : 1 ≤ p.coalesceCount := by
  obtain ⟨-, -, -, -, -, -, -, -, count, -⟩ := h
  exact count.1

namespace EventUnit

/-- The claim of `State.EventsSound` about the unit alone; `sending` says that its frame is on the lane. -/
structure Sound (sending : Bool) (e : EventUnit) : Prop where
  disabled : ∀ i : Fin 22, e.slots[i].enabled = false → e.slots[i].count = 0 ∧ e.slots[i].subPending = 0
  idle : sending = false → ∀ i : Fin 22, e.slots[i].subPending = 0
  waiting : e.due = true ∨ e.timer ≠ none → 0 < e.sum
  reported : sending = false → 0 < e.sum → e.due = true ∨ e.timer ≠ none
  inFlight : sending = true → e.due = false ∧ e.timer = none
  note : sending = false → e.flushNote = false

variable {e : EventUnit} {p : Params} {b : Bool}

theorem sum_eq_zero (zero : ∀ i : Fin 22, e.slots[i].count = 0) : e.sum = 0 := by
  refine List.sum_eq_zero fun n mem => ?_
  obtain ⟨x, hx, rfl⟩ := List.mem_map.1 mem
  obtain ⟨i, hi, rfl⟩ := List.mem_iff_getElem.1 hx
  exact congrArg BitVec.toNat (zero ⟨i, by simpa using hi⟩)

/-- R170, R180: a unit that has counted nothing. -/
theorem sound_of_empty (count : ∀ i : Fin 22, e.slots[i].count = 0) (sub : ∀ i : Fin 22, e.slots[i].subPending = 0)
    (due : e.due = false) (timer : e.timer = none) (note : e.flushNote = false) : e.Sound b := by
  refine ⟨fun i _ => ⟨count i, sub i⟩, fun _ => sub, fun waits => ?_, fun _ some => ?_, fun _ => ⟨due, timer⟩,
    fun _ => note⟩
  · obtain now | later := waits
    · exact absurd (due.symm.trans now) nofun
    · exact absurd timer later
  · exact absurd (sum_eq_zero count ▸ some) (Nat.lt_irrefl 0)

/-! ### Postings -/

theorem recorded_slot (k : EventKind) (d : U16) (e : EventUnit) (i : Fin 22) : (e.recorded k d).slots[i] =
    if i = k.slot then e.slots[k.slot].record e.timebase d else e.slots[i] :=
  getElem_set_fin ..

theorem disabled_recorded (h : e.Sound b) {k : EventKind} (on : e.slots[k.slot].enabled = true) (d : U16) (i : Fin 22)
    (off : (e.recorded k d).slots[i].enabled = false) :
    (e.recorded k d).slots[i].count = 0 ∧ (e.recorded k d).slots[i].subPending = 0 := by
  rw [recorded_slot] at off ⊢
  split at off
  · exact absurd (on.symm.trans off) nofun
  · next other =>
    rw [if_neg other]
    exact h.disabled i off

theorem subPending_recorded (k : EventKind) (d : U16) (e : EventUnit) (i : Fin 22) :
    (e.recorded k d).slots[i].subPending = e.slots[i].subPending := by
  rw [recorded_slot]
  split
  · next same => rw [same]; rfl
  · rfl

/-- R171: a posting to a full slot leaves the sum as it is. -/
theorem sum_recorded_of_full {k : EventKind} (full : e.slots[k.slot].count = 65535) (d : U16) :
    (e.recorded k d).sum = e.sum := by
  have total := e.sum_set k.slot (e.slots[k.slot].record e.timebase d)
  have count : (e.slots[k.slot].record e.timebase d).count = e.slots[k.slot].count := by
    rw [EventSlot.record, full]
    rfl
  rw [count] at total
  exact Nat.add_right_cancel total

/-- R172: a posting while the frame is in flight is recorded only, and its end will report it. -/
theorem Sound.post_inFlight (h : e.Sound true) (k : EventKind) (d : U16) : (e.post true p k d).Sound true := by
  cases on : e.slots[k.slot].enabled with
  | false => rwa [post_of_disabled on]
  | true =>
    rw [post_of_recorded on (.inl rfl)]
    have off := h.inFlight rfl
    refine ⟨disabled_recorded h on d, nofun, fun waits => ?_, nofun, fun _ => off, nofun⟩
    obtain due | timer := waits
    · exact absurd (off.1.symm.trans due) nofun
    · exact absurd off.2 timer

theorem Sound.post_idle (h : e.Sound false) (k : EventKind) (d : U16) : (e.post false p k d).Sound false := by
  have subs (i : Fin 22) : (e.recorded k d).slots[i].subPending = 0 :=
    (subPending_recorded k d e i).trans (h.idle rfl i)
  cases on : e.slots[k.slot].enabled with
  | false => rwa [post_of_disabled on]
  | true =>
    by_cases full : e.slots[k.slot].count = 65535
    · rw [post_of_recorded on (.inr full)]
      have sum := sum_recorded_of_full full d
      exact ⟨disabled_recorded h on d, fun _ => subs, fun waits => sum ▸ h.waiting waits,
        fun _ some => h.reported rfl (sum ▸ some), nofun, h.note⟩
    · rw [post_of_counted on full]
      have sum : (e.recorded k d).sum = e.sum + 1 := sum_recorded full
      refine ⟨disabled_recorded h on d, fun _ => subs, fun _ => ?_, fun _ _ => ?_, nofun, h.note⟩
      · exact sum.symm ▸ Nat.succ_pos e.sum
      by_cases zero : e.sum = 0
      · exact .inr (by simp [zero])
      · obtain due | timer := h.reported rfl (Nat.pos_of_ne_zero zero)
        · exact .inl (by simp [due])
        · exact .inr (by simpa [zero] using timer)

theorem Sound.post (h : e.Sound b) (p : Params) (k : EventKind) (d : U16) : (e.post b p k d).Sound b := by
  cases b
  · exact h.post_idle k d
  · exact h.post_inFlight k d

/-! ### The frame -/

theorem sound_testAfterFrame (count : 1 ≤ p.coalesceCount)
    (disabled : ∀ i : Fin 22, e.slots[i].enabled = false → e.slots[i].count = 0)
    (idle : ∀ i : Fin 22, e.slots[i].subPending = 0) (due : e.due = false) (timer : e.timer = none) :
    (e.testAfterFrame p).Sound false := by
  have slots (i : Fin 22) (off : e.slots[i].enabled = false) := And.intro (disabled i off) (idle i)
  unfold testAfterFrame
  split
  · next enough => exact ⟨slots, fun _ => idle, fun _ => Nat.le_trans count enough, fun _ _ => .inl rfl, nofun, fun _ => rfl⟩
  · split
    · next some =>
      split
      · exact ⟨slots, fun _ => idle, fun _ => some, fun _ _ => .inl rfl, nofun, fun _ => rfl⟩
      · exact ⟨slots, fun _ => idle, fun _ => some, fun _ _ => .inr nofun, nofun, fun _ => rfl⟩
    · next zero =>
      refine ⟨slots, fun _ => idle, fun waits => ?_, fun _ some => absurd some zero, nofun, fun _ => rfl⟩
      obtain now | later := waits
      · exact absurd (due.symm.trans now) nofun
      · exact absurd timer later

theorem Sound.finishFrame (h : e.Sound true) (count : 1 ≤ p.coalesceCount) : (e.finishFrame p).Sound false := by
  refine sound_testAfterFrame count (fun i off => ?_) (fun i => ?_) (h.inFlight rfl).1 (h.inFlight rfl).2
  · dsimp only at off ⊢
    rw [getElem_fin_mapTable] at off ⊢
    have zero : e.slots[i].count = 0 := (h.disabled i off).1
    dsimp only
    rw [zero]
    exact congrArg (BitVec.ofNat 16) (Nat.zero_sub _)
  · dsimp only
    rw [getElem_fin_mapTable]

theorem Sound.abandonFrame (h : e.Sound true) (count : 1 ≤ p.coalesceCount) : (e.abandonFrame p).Sound false := by
  refine sound_testAfterFrame count (fun i off => ?_) (fun i => ?_) (h.inFlight rfl).1 (h.inFlight rfl).2
  · dsimp only at off ⊢
    rw [getElem_fin_mapTable] at off ⊢
    exact (h.disabled i off).1
  · dsimp only
    rw [getElem_fin_mapTable]

theorem Sound.startFrame (h : e.Sound b) : e.startFrame.Sound true := by
  refine ⟨fun i off => ?_, nofun, fun waits => ?_, nofun, fun _ => ⟨rfl, rfl⟩, nofun⟩
  · dsimp only [EventUnit.startFrame] at off ⊢
    rw [getElem_fin_mapTable] at off ⊢
    have disabled : e.slots[i].enabled = false := by
      unfold EventSlot.freeze at off
      split at off <;> exact off
    have same : e.slots[i].freeze = e.slots[i] := by
      rw [EventSlot.freeze, disabled]
      rfl
    rw [same]
    exact h.disabled i disabled
  · obtain due | timer := waits
    · nomatch due
    · exact absurd rfl timer

/-! ### The timer, the slots and the flush -/

theorem Sound.expire (h : e.Sound b) : e.expire.Sound b := by
  unfold EventUnit.expire
  split
  · next z running =>
    split
    · have sum := h.waiting (.inr (by rw [running]; nofun))
      refine ⟨h.disabled, h.idle, fun _ => sum, fun _ _ => .inl rfl, fun inFlight => ?_, h.note⟩
      exact absurd (running.symm.trans (h.inFlight inFlight).2) nofun
    · exact h
  · exact h

/-- R173: an enabled slot counts what it has counted. -/
theorem Sound.enable (h : e.Sound b) (i : Fin 22) : (e.enable i).Sound b := by
  have slot (j : Fin 22) : (e.enable i).slots[j] = if j = i then { e.slots[i] with enabled := true } else e.slots[j] :=
    getElem_set_fin ..
  have subs (j : Fin 22) : (e.enable i).slots[j].subPending = e.slots[j].subPending := by
    rw [slot]
    split
    · next same => rw [same]
    · rfl
  have sum : (e.enable i).sum = e.sum :=
    Nat.add_right_cancel (e.sum_set i { e.slots[i] with enabled := true })
  refine ⟨fun j off => ?_, fun lane j => (subs j).trans (h.idle lane j), fun waits => sum ▸ h.waiting waits,
    fun lane some => h.reported lane (sum ▸ some), h.inFlight, h.note⟩
  rw [slot] at off ⊢
  split at off
  · nomatch off
  · next other =>
    rw [if_neg other]
    exact h.disabled j off

theorem Sound.disable (h : e.Sound b) (i : Fin 22) : (e.disable i).Sound b := by
  cases on : e.slots[i].enabled with
  | false => rwa [disable_of_disabled on]
  | true =>
    have slot (j : Fin 22) : (e.silenced i).slots[j] = if j = i then
        { e.slots[i] with enabled := false, count := 0, subPending := 0 } else e.slots[j] := getElem_set_fin ..
    have total := e.sum_silenced i
    have disabled (j : Fin 22) (off : (e.silenced i).slots[j].enabled = false) :
        (e.silenced i).slots[j].count = 0 ∧ (e.silenced i).slots[j].subPending = 0 := by
      rw [slot] at off ⊢
      split
      · exact ⟨rfl, rfl⟩
      · next other => exact h.disabled j (by rwa [if_neg other] at off)
    have idle (lane : b = false) (j : Fin 22) : (e.silenced i).slots[j].subPending = 0 := by
      rw [slot]
      split
      · rfl
      · exact h.idle lane j
    rw [disable_eq on]
    by_cases empties : e.sum = e.slots[i].count.toNat ∧ e.slots[i].count ≠ 0
    · rw [decide_eq_true empties]
      refine ⟨disabled, idle, fun waits => ?_, fun _ some => ?_, fun _ => ⟨Bool.and_false _, rfl⟩, h.note⟩
      · obtain due | timer := waits
        · exact absurd ((Bool.and_false _).symm.trans due) nofun
        · exact absurd rfl timer
      · have some' : 0 < (e.silenced i).sum := some
        omega
    · rw [decide_eq_false empties]
      have left : 0 < e.sum → 0 < (e.silenced i).sum := fun some => by
        by_contra none
        refine empties ⟨by omega, fun zero => ?_⟩
        rw [zero] at total
        simp at total
        omega
      refine ⟨disabled, idle, fun waits => left (h.waiting (by simpa using waits)), fun lane some => ?_,
        fun lane => by simpa using h.inFlight lane, h.note⟩
      have some' : 0 < (e.silenced i).sum := some
      simpa using h.reported lane (by omega)

theorem Sound.flush (h : e.Sound b) : (e.flush b).Sound b := by
  unfold EventUnit.flush
  split
  · next inFlight => exact ⟨h.disabled, h.idle, h.waiting, h.reported, h.inFlight, by rw [inFlight]; nofun⟩
  · next lane =>
    split
    · next some =>
      exact ⟨h.disabled, h.idle, fun _ => some, fun _ _ => .inl rfl, fun inFlight => absurd inFlight lane, h.note⟩
    · exact h

/-- R173: the test of a new coalesce count. -/
theorem Sound.testCount (h : e.Sound false) (count : 1 ≤ p.coalesceCount) : (e.testCount p).Sound false := by
  rw [State.testCount_eq]
  split
  · next enough => exact ⟨h.disabled, h.idle, fun _ => Nat.le_trans count enough, fun _ _ => .inl rfl, nofun, h.note⟩
  · exact h

end EventUnit

namespace State

variable {s u : State}

/-! ### The steps -/

theorem eventsSound_iff (s : State) : s.EventsSound ↔ s.events.Sound s.uplink.lane.isEvent :=
  ⟨fun h => ⟨h.disabled, h.idle, h.waiting, h.reported, h.inFlight, h.note⟩,
    fun h => ⟨h.disabled, h.idle, h.waiting, h.reported, h.inFlight, h.note⟩⟩

theorem EventsSound.of_events (h : s.EventsSound) (events : u.events = s.events)
    (lane : u.uplink.lane.isEvent = s.uplink.lane.isEvent) : u.EventsSound := by
  rw [eventsSound_iff] at h ⊢
  rwa [events, lane]

theorem EventsSound.of_side (same : u.side = s.side) (h : s.EventsSound) : u.EventsSound :=
  h.of_events (congrArg SideView.events same) (congrArg SideView.isEvent same)

theorem EventsSound.post (h : s.EventsSound) (k : EventKind) (d : U16) : (s.post k d).EventsSound := by
  rw [eventsSound_iff] at h ⊢
  exact h.post s.params k d

theorem EventsSound.transmit (h : s.EventsSound) (c : TxCell) : (s.transmit c).EventsSound := by
  rw [eventsSound_iff] at h ⊢
  simpa using h

theorem EventsSound.evaluateHold (h : s.EventsSound) : s.evaluateHold.EventsSound := by
  have held (x : HoldController) : (s.withHold x).EventsSound := h.of_events rfl rfl
  unfold State.evaluateHold
  split
  · split
    · exact ((held _).transmit _).post .holdOn _
    · exact h
  · split
    · exact ((held _).transmit _).post .holdOff _
    · exact h
  · exact h
  · exact held _

theorem EventsSound.of_Side (h : s.EventsSound) (along : s.Side u) : u.EventsSound :=
  along.keeps (P := EventsSound) EventsSound.of_side (fun _ k d h => h.post k d) (fun _ h => h.evaluateHold) h

theorem uplinkLoss_events (s : State) : s.uplinkLoss.events =
    if s.uplink.lane.isEvent then s.events.abandonFrame s.params else s.events := by
  have same : s.loseDelivery.loseManagement.uplink = s.uplink := by simp
  have events : s.loseDelivery.loseManagement.events = s.events := by simp
  have params : s.loseDelivery.loseManagement.params = s.params := by simp
  change s.loseDelivery.loseManagement.loseEvents.events = _
  rw [loseEvents, same]
  split
  · rw [withEvents_events, events, params]
  · exact events

/-- R176, R182: UPLINK LOSS abandons the frame in flight. -/
theorem EventsSound.uplinkLoss (h : s.EventsSound) (count : 1 ≤ s.params.coalesceCount) :
    s.uplinkLoss.EventsSound := by
  rw [eventsSound_iff] at h ⊢
  change s.uplinkLoss.events.Sound false
  rw [uplinkLoss_events]
  split
  · next lane =>
    rw [lane] at h
    exact h.abandonFrame count
  · next lane =>
    rw [eq_false_of_ne_true lane] at h
    exact h

theorem EventsSound.uplinkDown (h : s.EventsSound) (count : 1 ≤ s.params.coalesceCount) :
    s.uplinkDown.EventsSound := by
  unfold State.uplinkDown
  split
  · exact h
  · exact h.of_events rfl rfl
  · exact h.uplinkLoss count

theorem EventsSound.trunkUp (h : s.EventsSound) : s.trunkUp.EventsSound := by
  unfold State.trunkUp
  split
  · exact h
  · have linked : (s.changeRx fun x => { x with link := .up }).EventsSound := h.of_events rfl rfl
    exact (linked.post .trunkUp 0).evaluateHold

theorem EventsSound.dropped (h : s.EventsSound) : s.dropTransmission.quietHold.EventsSound := h.of_events rfl rfl

theorem EventsSound.trunkLoss (h : s.EventsSound) : s.trunkLoss.EventsSound := by
  unfold State.trunkLoss
  split
  · exact h
  · have linked : (s.changeRx fun x => { x with link := .down }).EventsSound := h.of_events rfl rfl
    have ended := (linked.post .trunkDown 0).of_Side (side_endContexts .trunkLoss (List.finRange 48) _)
    exact ended.dropped

theorem EventsSound.withEvents {e : EventUnit} (sound : e.Sound s.uplink.lane.isEvent) :
    (s.withEvents e).EventsSound :=
  (eventsSound_iff _).2 sound

theorem EventsSound.coalescingTimerExpiry (h : s.EventsSound) : s.coalescingTimerExpiry.EventsSound :=
  .withEvents ((eventsSound_iff s).1 h).expire

theorem EventsSound.eventFrameStart (h : s.EventsSound) : s.eventFrameStart.EventsSound := by
  unfold State.eventFrameStart
  split
  · exact .withEvents ((eventsSound_iff s).1 h).startFrame
  · exact h

theorem EventsSound.eventFrameEnd (h : s.EventsSound) (count : 1 ≤ s.params.coalesceCount) :
    s.eventFrameEnd.EventsSound := by
  unfold State.eventFrameEnd
  split
  · next lane =>
    rw [eventsSound_iff, lane] at h
    exact .withEvents (h.finishFrame count)
  · exact h
  · exact h
  · exact h

theorem EventsSound.setParam (h : s.EventsSound) (range : s.params.InRange) (t : Fin 4) (r : Request) :
    (State.setParam t r s).1.EventsSound := by
  unfold State.setParam
  split
  · next p changed =>
    have placed : (s.withParams p).EventsSound := h.of_events rfl rfl
    have inRange := range.change changed
    change ((s.withParams p).handParam (r.byte 0).toNat).EventsSound
    unfold handParam
    split
    · exact placed.evaluateHold
    · split
      · split
        · exact placed
        · next lane =>
          rw [eventsSound_iff, eq_false_of_ne_true lane] at placed
          refine .withEvents ?_
          rw [eq_false_of_ne_true lane]
          exact placed.testCount inRange.count_pos
      · exact placed
  · exact h

/-- R180: after SOFT RESTART no slot counts anything. -/
theorem eventsSound_restartEvents (s : State) : s.restartEvents.EventsSound := by
  have slot (i : Fin 22) : s.restartEvents.events.slots[i] = s.events.slots[i].restart := getElem_fin_mapTable ..
  refine (eventsSound_iff _).2 (EventUnit.sound_of_empty (fun i => ?_) (fun i => ?_) rfl rfl rfl)
  · exact congrArg EventSlot.count (slot i)
  · exact congrArg EventSlot.subPending (slot i)

theorem eventsSound_softRestart (s : State) (t : Fin 4) (r : Request) :
    (State.softRestart t r s).1.EventsSound := by
  let posted := s.cutFrame.restartReassembly.restartDelivery.restartProgram.restartHold.restartEvents
  have restarted : posted.EventsSound := eventsSound_restartEvents _
  have rebuilt (p : BlockPool) : (posted.withPool p).EventsSound := restarted.of_events rfl rfl
  exact (rebuilt _).of_Side (side_handFreeCount _)

theorem EventsSound.setEvents (h : s.EventsSound) (t : Fin 4) (r : Request) :
    (State.setEvents t r s).1.EventsSound := by
  have sound := (eventsSound_iff s).1 h
  unfold State.setEvents
  split
  · exact h
  · split
    · exact .withEvents (sound.enable _)
    · split
      · exact .withEvents (sound.disable _)
      · exact h

theorem EventsSound.flushEvents (h : s.EventsSound) (t : Fin 4) (r : Request) :
    (State.flushEvents t r s).1.EventsSound :=
  .withEvents ((eventsSound_iff s).1 h).flush

theorem eventsSound_reset : State.reset.EventsSound := by
  have slot (i : Fin 22) : State.reset.events.slots[i] = EventSlot.fresh := by simp [State.reset]
  refine (eventsSound_iff _).2 (EventUnit.sound_of_empty (fun i => ?_) (fun i => ?_) rfl rfl rfl)
  · exact congrArg EventSlot.count (slot i)
  · exact congrArg EventSlot.subPending (slot i)

theorem EventsSound.take (h : s.EventsSound) (range : s.params.InRange) {body : Execution}
    (own : ∀ t r (u : State), u.params.InRange → u.EventsSound →
      (body t r u).1.params.InRange ∧ (body t r u).1.EventsSound) (k : RequestKind) : (s.take k body).EventsSound := by
  have both := takeRequest_rel
    (R := fun s u => s.params.InRange ∧ s.EventsSound → u.params.InRange ∧ u.EventsSound) (fun _ h => h)
    (fun h h' x => h' (h x)) (fun _ _ h => ⟨h.1, h.2.of_events rfl rfl⟩) (fun t r u h => own t r u h.1 h.2) k
    (fun _ => true) s
  exact (both ⟨range, h⟩).2

theorem EventsSound.after (h : s.EventsSound) (range : s.params.InRange) (c : Instr) : (s.after c).EventsSound := by
  have count : 1 ≤ s.params.coalesceCount := range.count_pos
  by_cases stays : movesSide c = false
  · exact h.of_Side (side_after stays s)
  cases c with
  | powerOn => exact eventsSound_reset.of_events rfl rfl
  | trunkUp => exact h.trunkUp
  | trunkLoss => exact h.trunkLoss
  | coalescingTimerExpiry => exact h.coalescingTimerExpiry
  | trainingFailure => exact h.uplinkDown count
  | lossOfSignal => exact h.uplinkDown count
  | eventFrameStart => exact h.eventFrameStart
  | eventFrameEnd => exact h.eventFrameEnd count
  | setParam => exact h.take range (fun t r u hr hu => ⟨inRange_setParam t r hr, hu.setParam hr t r⟩) _
  | softRestart => exact h.take range (fun t r u hr _ => ⟨by simpa using hr, eventsSound_softRestart u t r⟩) _
  | setEvents => exact h.take range (fun t r u hr hu => ⟨by simpa using hr, hu.setEvents t r⟩) _
  | flushEvents => exact h.take range (fun t r u hr hu => ⟨hr, hu.flushEvents t r⟩) _
  | cellTransmissionEnd | refreshTimerExpiry | sendHold | sendRelease =>
    refine keeps_after (P := EventsSound) [.eventUnit, .uplinkPort] (fun u v same hu => ?_)
      (by simp [reachOfAny, Instr.reach]) h
    have events : v.events = u.events := same .eventUnit (by simp)
    have uplink : v.uplink = u.uplink := same .uplinkPort (by simp)
    rw [eventsSound_iff] at hu ⊢
    rwa [events, uplink]
  | _ => exact absurd rfl stays

end State

/-- Settles O59: postings, the two timers' ends and the frame's start and end each keep every count on its way to a
report. -/
theorem stepKeepsTheEventsSound : Obligations.StepKeepsTheEventsSound := by
  intro s t range events h
  have both := step_keeps (P := fun s => s.params.InRange ∧ s.EventsSound) (fun _ _ hs => ⟨hs.1, hs.2.of_events rfl rfl⟩)
    (fun s hs => ⟨hs.1, ?_⟩)
    (fun c s hs => ⟨State.inRange_after hs.1 c, hs.2.after hs.1 c⟩) ⟨range, events⟩ h
  · exact both.2
  · have sound := (State.eventsSound_iff s).1 hs.2
    exact (State.eventsSound_iff _).2
      ⟨sound.disabled, sound.idle, sound.waiting, sound.reported, sound.inFlight, sound.note⟩

end Sys2Proof.Machine
end

section
/-! Every step keeps the Uplink Port and the queues sound (R117, R119, R121, R137, R181, R182). -/

namespace Sys2Proof.Machine

/-- What the operations that leave the lane alone keep of a queue. -/
structure Queue.Kept (x y : Queue) : Prop where
  records : x.records.length ≤ 128 → y.records.length ≤ 128
  mark : y.inFlight = x.inFlight
  head : x.inFlight = true → ∀ r, x.records.head? = some r → y.records.head? = some r
  credit : y.credit = x.credit

namespace Queue.Kept

variable {x y z : Queue}

theorem refl (x : Queue) : Kept x x := ⟨id, rfl, fun _ _ => id, rfl⟩

theorem trans (h : Kept x y) (h' : Kept y z) : Kept x z :=
  ⟨fun short => h'.records (h.records short), h'.mark.trans h.mark,
    fun mark r head => h'.head (h.mark.trans mark) r (h.head mark r head), h'.credit.trans h.credit⟩

theorem of_same (records : y.records = x.records) (mark : y.inFlight = x.inFlight) (credit : y.credit = x.credit) :
    Kept x y :=
  ⟨fun short => records ▸ short, mark, fun _ _ head => records ▸ head, credit⟩

end Queue.Kept

namespace State

variable {s u : State}

/-- The claims of `State.UplinkSound` about the lane and the queues; the other is about the request FIFO. -/
structure LaneSound (s : State) : Prop where
  records : ∀ q : Fin 8, s.delivery.queues[q].records.length ≤ 128
  mark : ∀ q : Fin 8, s.delivery.queues[q].inFlight = true ↔ s.uplink.lane.streamingQueue = some q
  head : ∀ f, s.uplink.lane = .delivery f → f.payload = .streaming →
    s.delivery.queues[f.queue].records.head? = some f.header
  lane : s.uplink.link ≠ .up → s.uplink.lane = .idle
  credit : s.uplink.link ≠ .up → ∀ q : Fin 8, s.delivery.queues[q].credit = 0

/-- R182: with the link not UP no request waits. -/
def FifoSound (s : State) : Prop := s.uplink.link ≠ .up → s.management.fifo = []

theorem uplinkSound_iff (s : State) : s.UplinkSound ↔ s.LaneSound ∧ s.FifoSound :=
  ⟨fun h => ⟨⟨h.records, h.mark, h.head, h.lane, h.credit⟩, h.fifo⟩,
    fun ⟨h, fifo⟩ => ⟨h.records, h.mark, h.head, h.lane, fifo, h.credit⟩⟩

/-! ### The queues without the lane -/

theorem setQueue_queues (q : Fin 8) (x : Queue) (s : State) (j : Fin 8) :
    (s.setQueue q x).delivery.queues[j] = if j = q then x else s.delivery.queues[j] :=
  getElem_set_fin ..

/-- The state has the queues of `s`, each with what `Queue.Kept` keeps. -/
def QueuesKept (s u : State) : Prop := ∀ q : Fin 8, (s.delivery.queues[q]).Kept u.delivery.queues[q]

theorem queuesKept_of_delivery (h : u.delivery = s.delivery) : s.QueuesKept u := fun q => by
  rw [h]
  exact .refl _

theorem QueuesKept.trans {v : State} (h : s.QueuesKept u) (h' : u.QueuesKept v) : s.QueuesKept v :=
  fun q => (h q).trans (h' q)

theorem queuesKept_setQueue {q : Fin 8} {x : Queue} (h : (s.delivery.queues[q]).Kept x) :
    s.QueuesKept (s.setQueue q x) := fun j => by
  rw [setQueue_queues]
  split
  · next same => rwa [same]
  · exact .refl _

theorem LaneSound.of_kept (h : s.LaneSound) (queues : s.QueuesKept u) (lane : u.uplink.lane = s.uplink.lane)
    (link : u.uplink.link = s.uplink.link) : u.LaneSound := by
  refine ⟨fun q => (queues q).records (h.records q), fun q => ?_, fun f hf streaming => ?_, fun notUp => ?_,
    fun notUp q => ?_⟩
  · rw [(queues q).mark, lane]
    exact h.mark q
  · have marked : s.delivery.queues[f.queue].inFlight = true := (h.mark f.queue).2 (by
      rw [← lane, hf, Lane.streamingQueue, streaming])
    exact (queues f.queue).head marked _ (h.head f (lane ▸ hf) streaming)
  · exact lane.trans (h.lane (link ▸ notUp))
  · exact (queues q).credit.trans (h.credit (link ▸ notUp) q)

/-! ### The Classifier's offers -/

theorem queuesKept_offerCopy (m : Message) (mark : Bool) (o : Offer) (st : Nat × State) :
    st.2.QueuesKept (offerCopy m mark o st).2 := by
  unfold offerCopy
  split
  · next accepted =>
    have room := (Bool.and_eq_true _ _ ▸ accepted).1
    refine queuesKept_setQueue ⟨fun _ => ?_, rfl, fun _ r head => ?_, rfl⟩
    · simpa [queue] using room
    · exact (List.head?_append ..).trans (by rw [show (queue o.queue st.2).records.head? = some r from head]; rfl)
  · exact queuesKept_setQueue (.of_same (by rfl) (by rfl) (by rfl))

theorem queuesKept_offers (m : Message) (mark : Bool) (l : List Offer) (st : Nat × State) :
    st.2.QueuesKept (l.foldl (fun st o => offerCopy m mark o st) st).2 := by
  induction l generalizing st with
  | nil => exact queuesKept_of_delivery rfl
  | cons o l ih => exact (queuesKept_offerCopy m mark o st).trans (ih _)

theorem queuesKept_offerCopies (m : Message) (a : ClauseAction) (s : State) : s.QueuesKept (s.offerCopies m a).2 :=
  queuesKept_offers m a.mark a.offers (0, s)

theorem endEvaluated_delivery (i : Fin 48) (m : Message) (x : Properties) (s : State) :
    (s.endEvaluated i m x).delivery = ((s.countHits (s.program.active.evaluate x).hits).offerCopies m
      ((s.program.active.evaluate x).action.getD s.program.active.default.action)).2.delivery := by
  simp [endEvaluated]

theorem queuesKept_endEvaluated (i : Fin 48) (m : Message) (x : Properties) (s : State) :
    s.QueuesKept (s.endEvaluated i m x) := by
  have counted (hits : List Nat) : s.QueuesKept (s.countHits hits) := queuesKept_of_delivery rfl
  exact ((counted _).trans (queuesKept_offerCopies m _ _)).trans (queuesKept_of_delivery (endEvaluated_delivery i m x s))

theorem queuesKept_classificationEnd (s : State) : s.QueuesKept s.classificationEnd := by
  have same : s.QueuesKept s := queuesKept_of_delivery rfl
  unfold classificationEnd
  split
  · exact same
  · split
    · split
      · exact queuesKept_endEvaluated _ _ _ s
      · exact queuesKept_of_delivery (by simp [endDamaged])
    · exact same
    · exact same
    · exact same

/-! ### The queue requests and the counters -/

theorem queuesKept_forQueue {r : Request} {f : Fin 8 → State → State × Reply}
    (own : ∀ q u, QueuesKept u (f q u).1) (s : State) : s.QueuesKept (s.forQueue r f).1 := by
  unfold forQueue
  split
  · exact queuesKept_of_delivery rfl
  · exact own _ s

theorem queuesKept_haltQueue (t : Fin 4) (r : Request) (s : State) : s.QueuesKept (State.haltQueue t r s).1 :=
  queuesKept_forQueue (fun _ _ => queuesKept_setQueue (.of_same (by rfl) (by rfl) (by rfl))) s

theorem queuesKept_restartQueue (t : Fin 4) (r : Request) (s : State) : s.QueuesKept (State.restartQueue t r s).1 :=
  queuesKept_forQueue (fun _ _ => queuesKept_setQueue (.of_same (by rfl) (by rfl) (by rfl))) s

/-- R134: a flush keeps the head of a queue whose frame is in flight. -/
theorem kept_flushed (x : Queue) : x.Kept { x with records := x.flushed.1 } := by
  refine ⟨fun short => ?_, rfl, fun mark r head => ?_, rfl⟩
  · have fewer : x.flushed.1.length ≤ x.records.length := by
      unfold Queue.flushed
      split
      · exact List.length_take_le' _ _
      · exact Nat.zero_le _
    exact Nat.le_trans fewer short
  · have kept : x.flushed.1 = x.records.take 1 := congrArg Prod.fst (if_pos mark)
    dsimp only
    rw [kept, List.head?_take]
    exact head

theorem queuesKept_dropReferences (l : List Record) (s : State) : s.QueuesKept (s.dropReferences l) :=
  queuesKept_of_delivery (by simp)

theorem queuesKept_flushQueue (t : Fin 4) (r : Request) (s : State) : s.QueuesKept (State.flushQueue t r s).1 := by
  refine queuesKept_forQueue (fun q u => ?_) s
  have kept : u.QueuesKept (u.keepRecords q (u.queue q).flushed.1 (u.queue q).flushed.2) :=
    queuesKept_setQueue ((kept_flushed (u.queue q)).trans (.of_same (by rfl) (by rfl) (by rfl)))
  exact (kept.trans (queuesKept_setQueue (.of_same (by rfl) (by rfl) (by rfl)))).trans
    (queuesKept_dropReferences _ _)

theorem queuesKept_clearGroup (g : Group) (s : State) : s.QueuesKept (s.clearGroup g) := by
  cases g with
  | queue =>
    intro q
    change Queue.Kept _ (mapTable _ _)[q]
    rw [getElem_fin_mapTable]
    exact .of_same rfl rfl rfl
  | _ => exact queuesKept_of_delivery rfl

theorem LaneSound.clearGroup (h : s.LaneSound) (g : Group) : (s.clearGroup g).LaneSound := by
  refine h.of_kept (queuesKept_clearGroup g s) ?_ ?_ <;> cases g <;> rfl

theorem LaneSound.readCounters (h : s.LaneSound) (t : Fin 4) (r : Request) :
    (State.readCounters t r s).1.LaneSound := by
  unfold State.readCounters
  split
  · exact h
  · dsimp only
    split
    · exact h
    · split
      · exact h.clearGroup _
      · exact h

theorem LaneSound.clearCounters (h : s.LaneSound) (t : Fin 4) (r : Request) :
    (State.clearCounters t r s).1.LaneSound := by
  unfold State.clearCounters
  split
  · exact h
  · exact h.clearGroup _

/-! ### The link -/

theorem LaneSound.uplinkSignal (h : s.LaneSound) : s.uplinkSignal.LaneSound := by
  unfold State.uplinkSignal
  split
  · next down =>
    have notUp : s.uplink.link ≠ .up := by rw [down]; nofun
    exact ⟨h.records, h.mark, h.head, fun _ => h.lane notUp, fun _ => h.credit notUp⟩
  · exact h
  · exact h

theorem LaneSound.trainingComplete (h : s.LaneSound) : s.trainingComplete.LaneSound := by
  unfold State.trainingComplete
  split
  · exact ⟨h.records, h.mark, h.head, fun notUp => absurd rfl notUp, fun notUp => absurd rfl notUp⟩
  · exact h
  · exact h

/-- R129, R137: the queues after a loss: no credit, no mark, and as many records. -/
theorem loseDelivery_queues (s : State) (q : Fin 8) : s.loseDelivery.delivery.queues[q] =
    if s.uplink.lane.streamingQueue = some q then (s.delivery.queues[q].lose false).lose true
    else s.delivery.queues[q].lose false := by
  have credited (j : Fin 8) : (mapTable (Queue.lose false) s.delivery.queues)[j] = s.delivery.queues[j].lose false :=
    getElem_fin_mapTable ..
  cases stream : s.uplink.lane.streamingQueue with
  | none =>
    simp only [loseDelivery, stream]
    exact credited q
  | some j =>
    simp only [loseDelivery, stream, Option.some.injEq]
    rw [setQueue_queues]
    by_cases same : q = j
    · rw [if_pos same, if_pos same.symm, same]
      exact congrArg (Queue.lose true) (credited j)
    · rw [if_neg same, if_neg (Ne.symm same)]
      exact credited q

theorem length_lose (b : Bool) (x : Queue) : (x.lose b).records.length = x.records.length := by
  unfold Queue.lose
  split
  · cases x.records <;> rfl
  · rfl

theorem credit_lose (b : Bool) (x : Queue) : (x.lose b).credit = 0 := by
  cases b <;> rfl

theorem LaneSound.uplinkLoss (h : s.LaneSound) : s.uplinkLoss.LaneSound := by
  have delivery : s.uplinkLoss.delivery = s.loseDelivery.delivery := by simp [State.uplinkLoss]
  refine ⟨fun q => ?_, fun q => ?_, nofun, fun _ => rfl, fun _ q => ?_⟩ <;> rw [delivery, loseDelivery_queues]
  · split <;> simpa only [length_lose] using h.records q
  · refine ⟨fun marked => ?_, nofun⟩
    split at marked
    · nomatch marked
    · next other => exact absurd ((h.mark q).1 marked) other
  · split <;> exact credit_lose _ _

theorem LaneSound.uplinkDown (h : s.LaneSound) : s.uplinkDown.LaneSound := by
  unfold State.uplinkDown
  split
  · exact h
  · next training =>
    have notUp : s.uplink.link ≠ .up := by rw [training]; nofun
    exact ⟨h.records, h.mark, h.head, fun _ => h.lane notUp, fun _ => h.credit notUp⟩
  · exact h.uplinkLoss

/-! ### The frames -/

/-- A lane that carries no streaming delivery before and after. -/
theorem LaneSound.setLane (h : s.LaneSound) {l : Lane} (before : s.uplink.lane.streamingQueue = none)
    (after : l.streamingQueue = none) (up : s.uplink.link ≠ .up → l = .idle) (q : u.delivery = s.delivery)
    (lane : u.uplink.lane = l) (link : u.uplink.link = s.uplink.link) : u.LaneSound := by
  subst lane
  refine ⟨q ▸ h.records, fun j => ?_, fun f hf streaming => ?_, link ▸ up, ?_⟩
  · rw [q, h.mark, before, after]
  · rw [hf, Lane.streamingQueue, streaming] at after
    nomatch after
  · rw [link, q]
    exact h.credit

/-- R120, R127, R128: the end of the streaming of a frame. -/
theorem LaneSound.close (h : s.LaneSound) {f : DeliveryFrame} (lane : s.uplink.lane = .delivery f)
    (streaming : f.payload = .streaming) (closed : u.delivery.queues[f.queue].inFlight = false)
    (short : u.delivery.queues[f.queue].records.length ≤ s.delivery.queues[f.queue].records.length)
    (others : ∀ j, j ≠ f.queue → u.delivery.queues[j] = s.delivery.queues[j])
    (after : u.uplink.lane.streamingQueue = none) (link : u.uplink.link = s.uplink.link) : u.LaneSound := by
  have up : u.uplink.link = .up := by
    rw [link]
    by_contra notUp
    exact absurd (lane.symm.trans (h.lane notUp)) nofun
  have stream : s.uplink.lane.streamingQueue = some f.queue := by rw [lane, Lane.streamingQueue, streaming]
  refine ⟨fun j => ?_, fun j => ?_, fun g hg streaming => ?_, fun notUp => absurd up notUp,
    fun notUp => absurd up notUp⟩
  · by_cases same : j = f.queue
    · rw [same]
      exact Nat.le_trans short (h.records f.queue)
    · rw [others j same]
      exact h.records j
  · rw [after]
    refine ⟨fun marked => ?_, nofun⟩
    by_cases same : j = f.queue
    · rw [same, closed] at marked
      nomatch marked
    · rw [others j same, h.mark, stream] at marked
      exact absurd (Option.some.inj marked).symm same
  · rw [hg, Lane.streamingQueue, streaming] at after
    nomatch after

theorem streamingQueue_of_grant {o : Owner} (h : s.grant = some o) : s.uplink.lane.streamingQueue = none := by
  rw [(lane_of_grant h).2]
  rfl

/-- R185: a granted lane carries a RESPONSE or an EVENT frame from now on. -/
theorem LaneSound.granted (h : s.LaneSound) {o : Owner} (grant : s.grant = some o) {l : Lane}
    (other : l.streamingQueue = none) : (s.setLane l).LaneSound :=
  h.setLane (streamingQueue_of_grant grant) other (fun notUp => absurd (lane_of_grant grant).1 notUp) rfl rfl rfl

theorem LaneSound.responseFrameStart (h : s.LaneSound) : s.responseFrameStart.LaneSound := by
  unfold State.responseFrameStart
  split
  · next grant =>
    split
    · exact h.granted grant rfl
    · exact h
  · exact h

theorem LaneSound.eventFrameStart (h : s.LaneSound) : s.eventFrameStart.LaneSound := by
  unfold State.eventFrameStart
  split
  · next grant =>
    exact (h.granted grant (l := .event s.events.snapshot) rfl).of_kept (queuesKept_of_delivery rfl) rfl rfl
  · exact h

theorem LaneSound.finishFrame (h : s.LaneSound) (bytes : List Byte) (other : s.uplink.lane.streamingQueue = none) :
    (s.finishFrame bytes).LaneSound :=
  h.setLane other (l := .idle) rfl (fun _ => rfl) rfl rfl rfl

theorem LaneSound.responseFrameEnd (h : s.LaneSound) : s.responseFrameEnd.LaneSound := by
  unfold State.responseFrameEnd
  split
  · next lane =>
    have managed (m : Management) : (s.withManagement m).LaneSound := h.of_kept (queuesKept_of_delivery rfl) rfl rfl
    exact (managed _).finishFrame _ (congrArg Lane.streamingQueue lane)
  · exact h
  · exact h
  · exact h

theorem LaneSound.eventFrameEnd (h : s.LaneSound) : s.eventFrameEnd.LaneSound := by
  unfold State.eventFrameEnd
  split
  · next entries lane =>
    have sent := h.finishFrame (eventBytes entries) (congrArg Lane.streamingQueue lane)
    exact sent.of_kept (queuesKept_of_delivery rfl) rfl rfl
  · exact h
  · exact h
  · exact h

/-- R125: the started frame is that of the head record of its queue. -/
theorem LaneSound.startDelivery (h : s.LaneSound) {q : Fin 8} {r : Record} (turns : Nat)
    (idle : s.uplink.lane.streamingQueue = none) (up : s.uplink.link = .up)
    (head : s.delivery.queues[q].records.head? = some r) : (s.startDelivery q turns r).LaneSound := by
  have queues (j : Fin 8) : (s.startDelivery q turns r).delivery.queues[j] = if j = q then
      { s.queue q with inFlight := true, credit := (s.queue q).credit - 1 } else s.delivery.queues[j] :=
    getElem_set_fin ..
  refine ⟨fun j => ?_, fun j => ?_, fun f hf _ => ?_, fun notUp => absurd up notUp, fun notUp => absurd up notUp⟩
  · rw [queues]
    split
    · exact h.records q
    · exact h.records j
  · change _ ↔ some q = some j
    rw [queues, Option.some.injEq]
    split
    · next same => exact ⟨fun _ => same.symm, fun _ => rfl⟩
    · next other =>
      rw [h.mark, idle]
      exact ⟨nofun, fun same => absurd same.symm other⟩
  · obtain rfl := Lane.delivery.inj hf
    rw [queues, if_pos rfl]
    exact head

theorem LaneSound.deliveryFrameStart (h : s.LaneSound) : s.deliveryFrameStart.LaneSound := by
  unfold State.deliveryFrameStart
  split
  · next grant =>
    split
    · next q turns _ =>
      split
      · next records =>
        exact h.startDelivery turns (streamingQueue_of_grant grant) (lane_of_grant grant).1
          (congrArg List.head? records)
      · exact h
    · exact h
  · exact h

/-- R120: the removal of its head leaves a queue its mark, and the other queues alone. -/
theorem removeHead_queues (q : Fin 8) (s : State) :
    (s.removeHead q).delivery.queues[q].inFlight = s.delivery.queues[q].inFlight ∧
    (s.removeHead q).delivery.queues[q].records.length ≤ s.delivery.queues[q].records.length ∧
    ∀ j, j ≠ q → (s.removeHead q).delivery.queues[j] = s.delivery.queues[j] := by
  unfold removeHead
  split
  · exact ⟨rfl, Nat.le_refl _, fun _ _ => rfl⟩
  · next r rest records =>
    have length : s.delivery.queues[q].records.length = rest.length + 1 := congrArg List.length records
    have delivery : ((s.keepRecords q rest [r]).dropReferences [r]).delivery = (s.keepRecords q rest [r]).delivery := by
      simp
    rw [delivery]
    refine ⟨?_, ?_, fun j other => ?_⟩ <;> rw [keepRecords, setQueue_queues]
    · rw [if_pos rfl]
      rfl
    · rw [if_pos rfl, length]
      exact Nat.le_succ _
    · exact if_neg other

theorem closeHead_link (q : Fin 8) (f : QueueCounters → QueueCounters) (s : State) :
    ((s.closeFlight q f).removeHead q).uplink.link = s.uplink.link := by
  simp

theorem LaneSound.closeHead (h : s.LaneSound) {f : DeliveryFrame} (lane : s.uplink.lane = .delivery f)
    (streaming : f.payload = .streaming) (count : QueueCounters → QueueCounters) {x : Queue}
    (queue : u.delivery.queues[f.queue] = x)
    (mark : x.inFlight = ((s.closeFlight f.queue count).removeHead f.queue).delivery.queues[f.queue].inFlight)
    (records : x.records = ((s.closeFlight f.queue count).removeHead f.queue).delivery.queues[f.queue].records)
    (others : ∀ j, j ≠ f.queue → u.delivery.queues[j] =
      ((s.closeFlight f.queue count).removeHead f.queue).delivery.queues[j])
    (after : u.uplink.lane.streamingQueue = none) (link : u.uplink.link = s.uplink.link) : u.LaneSound := by
  obtain ⟨marked, fewer, apart⟩ := removeHead_queues f.queue (s.closeFlight f.queue count)
  have closed : (s.closeFlight f.queue count).delivery.queues[f.queue] = { s.queue f.queue with
      inFlight := false, counters := count (s.queue f.queue).counters } := by
    rw [closeFlight, setQueue_queues, if_pos rfl]
  rw [closed] at marked fewer
  refine h.close lane streaming ?_ ?_ (fun j other => ?_) after link
  · rw [queue, mark, marked]
  · rw [queue, records]
    exact fewer
  · rw [others j other, apart j other, closeFlight, setQueue_queues, if_neg other]

theorem LaneSound.endStreamed (h : s.LaneSound) {f : DeliveryFrame} (lane : s.uplink.lane = .delivery f)
    (streaming : f.payload = .streaming) : (s.endStreamed f).LaneSound := by
  unfold State.endStreamed
  dsimp only
  split
  · exact h
  · exact h.closeHead lane streaming (countDelivered f.header.length) rfl rfl rfl (fun _ _ => rfl) rfl
      (closeHead_link ..)

theorem LaneSound.deliveryFrameEnd (h : s.LaneSound) : s.deliveryFrameEnd.LaneSound := by
  unfold State.deliveryFrameEnd
  split
  · next f lane =>
    split
    · next streaming => exact h.endStreamed lane streaming
    · next cut => exact h.finishFrame _ (by rw [lane, Lane.streamingQueue, cut])
  · exact h
  · exact h
  · exact h

theorem LaneSound.haltOnDamage (h : s.LaneSound) {f : DeliveryFrame} (lane : s.uplink.lane = .delivery f)
    (streaming : f.payload = .streaming) (sent : List Byte) : (s.haltOnDamage f sent).LaneSound := by
  let v := (s.closeFlight f.queue fun c => { c with memoryErrors := satInc c.memoryErrors }).removeHead f.queue
  have halted (j : Fin 8) : (s.haltOnDamage f sent).delivery.queues[j] =
      if j = f.queue then { v.queue f.queue with state := .halted .memory } else v.delivery.queues[j] :=
    getElem_set_fin ..
  exact h.closeHead lane streaming _ ((halted f.queue).trans (if_pos rfl)) rfl rfl
    (fun j other => (halted j).trans (if_neg other)) rfl (closeHead_link ..)

theorem LaneSound.deliveryMemoryError (h : s.LaneSound) : s.deliveryMemoryError.LaneSound := by
  unfold State.deliveryMemoryError
  split
  · next f lane =>
    split
    · next streaming =>
      split
      · exact h.haltOnDamage lane streaming _
      · exact h
    · exact h
  · exact h
  · exact h
  · exact h

/-! ### Inbound units -/

theorem LaneSound.addCredit (h : s.LaneSound) (up : s.uplink.link = .up) (q : Fin 8) (n : Byte) :
    (s.addCredit q n).LaneSound := by
  have credited (x : Queue) (records : x.records = (s.queue q).records) (mark : x.inFlight = (s.queue q).inFlight) :
      (s.setQueue q x).LaneSound := by
    refine ⟨fun j => ?_, fun j => ?_, fun f hf streaming => ?_, fun notUp => absurd up notUp,
      fun notUp => absurd up notUp⟩ <;> rw [setQueue_queues]
    · split
      · exact records ▸ h.records q
      · exact h.records j
    · split
      · next same => rw [mark, same]; exact h.mark q
      · exact h.mark j
    · split
      · next same => rw [records, ← same]; exact h.head f hf streaming
      · exact h.head f hf streaming
  unfold State.addCredit
  dsimp only
  split
  · exact credited _ rfl rfl
  · have posted {v : State} (hv : v.LaneSound) : (v.postNat .creditOverflow q.val).LaneSound :=
      hv.of_kept (queuesKept_of_delivery (by simp)) (by simp) (by simp)
    exact posted (credited _ rfl rfl)

theorem LaneSound.frameError (h : s.LaneSound) (d : U16) : (s.frameError d).LaneSound :=
  h.of_kept (queuesKept_of_delivery (by simp)) rfl rfl

theorem LaneSound.receiveUplinkUnit (h : s.LaneSound) (u : LaneUnit) : (s.receiveUplinkUnit u).LaneSound := by
  rw [receiveUplinkUnit_eq]
  split
  · next received =>
    unfold takeInbound
    split
    · exact h.frameError _
    · exact h.of_kept (queuesKept_of_delivery (by simp)) (by simp) (by simp)
    · unfold arriveCredit
      split
      · exact h.addCredit received.1 _ _
      · exact h.frameError _
  · exact h

/-! ### SOFT RESTART -/

theorem streamingQueue_cutFrame (s : State) : s.cutFrame.uplink.lane.streamingQueue = none := by
  unfold cutFrame
  split
  · next lane =>
    split
    · rfl
    · next cut => rw [lane, Lane.streamingQueue, cut]
  · next lane => rw [lane]; rfl
  · next lane => rw [lane]; rfl
  · next lane => rw [lane]; rfl

theorem link_cutFrame (s : State) : s.cutFrame.uplink.link = s.uplink.link := by
  unfold cutFrame
  split
  · split <;> rfl
  · rfl
  · rfl
  · rfl

theorem cutFrame_idle (idle : s.uplink.lane = .idle) : s.cutFrame = s := by
  rw [cutFrame, idle]

theorem LaneSound.softRestart (h : s.LaneSound) (t : Fin 4) (r : Request) :
    (State.softRestart t r s).1.LaneSound := by
  have queues (q : Fin 8) : (State.softRestart t r s).1.delivery.queues[q] = s.delivery.queues[q].restart := by
    have delivery : s.restartParts.delivery =
        { queues := mapTable Queue.restart s.delivery.queues, current := 7, turns := 0 } := by
      simp [restartParts, restartDelivery]
    change s.restartParts.delivery.queues[q] = _
    rw [delivery]
    exact getElem_fin_mapTable ..
  have uplink : (State.softRestart t r s).1.uplink = s.cutFrame.uplink := by
    change s.restartParts.uplink = _
    simp [restartParts]
  refine ⟨fun q => ?_, fun q => ?_, fun f hf streaming => ?_, fun notUp => ?_, fun _ q => ?_⟩
  · rw [queues]
    exact Nat.zero_le _
  · rw [queues, uplink, streamingQueue_cutFrame]
    exact ⟨nofun, nofun⟩
  · have none := streamingQueue_cutFrame s
    rw [← uplink, hf, Lane.streamingQueue, streaming] at none
    nomatch none
  · rw [uplink] at notUp ⊢
    have idle := h.lane (link_cutFrame s ▸ notUp)
    rw [cutFrame_idle idle, idle]
  · rw [queues]
    rfl

/-! ### Every command -/

theorem laneSound_reset : State.reset.LaneSound := by
  have fresh (q : Fin 8) : State.reset.delivery.queues[q] = Queue.fresh := by simp [State.reset]
  refine ⟨fun q => ?_, fun q => ?_, nofun, fun _ => rfl, fun _ q => ?_⟩ <;> rw [fresh]
  · exact Nat.zero_le _
  · exact ⟨nofun, nofun⟩
  · rfl

theorem LaneSound.take (h : s.LaneSound) {body : Execution}
    (own : ∀ t r (u : State), u.LaneSound → (body t r u).1.LaneSound) (k : RequestKind) : (s.take k body).LaneSound :=
  takeRequest_rel (R := fun s u => s.LaneSound → u.LaneSound) (fun _ h => h) (fun h h' x => h' (h x))
    (fun _ _ h => h.of_kept (queuesKept_of_delivery rfl) rfl rfl) own k _ s h

theorem LaneSound.after (h : s.LaneSound) (c : Instr) : (s.after c).LaneSound := by
  cases c with
  | powerOn => exact laneSound_reset.of_kept (queuesKept_of_delivery rfl) rfl rfl
  | classificationEnd =>
    have uplink : s.classificationEnd.uplink = s.uplink := by simp
    exact h.of_kept (queuesKept_classificationEnd s) (congrArg _ uplink) (congrArg _ uplink)
  | uplinkSignal => exact h.uplinkSignal
  | trainingComplete => exact h.trainingComplete
  | trainingFailure => exact h.uplinkDown
  | lossOfSignal => exact h.uplinkDown
  | requestFrame u => exact h.receiveUplinkUnit u
  | creditFrame u => exact h.receiveUplinkUnit u
  | uplinkFrameError u => exact h.receiveUplinkUnit u
  | responseFrameStart => exact h.responseFrameStart
  | responseFrameEnd => exact h.responseFrameEnd
  | eventFrameStart => exact h.eventFrameStart
  | eventFrameEnd => exact h.eventFrameEnd
  | deliveryFrameStart => exact h.deliveryFrameStart
  | deliveryFrameEnd => exact h.deliveryFrameEnd
  | deliveryMemoryError => exact h.deliveryMemoryError
  | softRestart => exact h.take (fun t r u hu => hu.softRestart t r) _
  | haltQueue => exact h.take (fun t r u hu => hu.of_kept (queuesKept_haltQueue t r u) (by simp) (by simp)) _
  | restartQueue => exact h.take (fun t r u hu => hu.of_kept (queuesKept_restartQueue t r u) (by simp) (by simp)) _
  | flushQueue => exact h.take (fun t r u hu => hu.of_kept (queuesKept_flushQueue t r u) (by simp) (by simp)) _
  | readCounters => exact h.take (fun t r u hu => hu.readCounters t r) _
  | clearCounters => exact h.take (fun t r u hu => hu.clearCounters t r) _
  | _ =>
    refine keeps_after (P := LaneSound) [.deliveryUnit, .uplinkPort] (fun u v same hu => ?_)
      (by simp [reachOfAny, Instr.reach, Block.hold, Block.cell]) h
    have uplink : v.uplink = u.uplink := same .uplinkPort (by simp)
    exact hu.of_kept (queuesKept_of_delivery (same .deliveryUnit (by simp))) (by rw [uplink]) (by rw [uplink])

/-! ### The request FIFO -/

theorem FifoSound.of_same (h : s.FifoSound) (link : u.uplink.link = s.uplink.link)
    (fifo : u.management.fifo = s.management.fifo) : u.FifoSound :=
  fun notUp => fifo.trans (h (link ▸ notUp))

/-- R155: nothing is taken from an empty FIFO. -/
theorem nextTake_of_fifo_nil (h : s.management.fifo = []) : s.nextTake = .nothing := by
  rw [nextTake, h]
  cases s.management.unit <;> rfl

/-- What does nothing with an empty FIFO and leaves the link alone keeps `FifoSound`. -/
theorem FifoSound.of_taken (h : s.FifoSound) (nothing : s.nextTake = .nothing → u = s)
    (link : u.uplink.link = s.uplink.link) : u.FifoSound := by
  intro notUp
  have empty := h (link ▸ notUp)
  rw [nothing (nextTake_of_fifo_nil empty)]
  exact empty

theorem FifoSound.takeRequest (h : s.FifoSound) {body : Execution}
    (link : ∀ t r (u : State), (body t r u).1.uplink.link = u.uplink.link) (k : RequestKind)
    (applies : Request → Bool) : (s.takeRequest k applies body).FifoSound := by
  refine h.of_taken (fun nothing => by rw [State.takeRequest, nothing]) ?_
  exact takeRequest_rel (R := fun s u => u.uplink.link = s.uplink.link) (fun _ => rfl) (fun h h' => h'.trans h)
    (fun _ _ => rfl) link k applies s

theorem respondDeferred_fifo (t : Fin 4) (q : U16) (data : List Byte) (s : State) :
    (s.respondDeferred t q data).management.fifo = s.management.fifo := by
  unfold respondDeferred cacheDeferred
  split
  · obtain ⟨m, same, fifo⟩ := cacheResponse_eq_withManagement t q (cacheEntry RequestKind.commit.code .ok data)
      (s.queueResponse { tag := natByte t.val, sequence := q, kind := RequestKind.commit.code, status := .ok, data := data })
    rw [same]
    exact fifo
  · rfl

theorem swap_fifo (s : State) : s.swap.management.fifo = s.management.fifo := by
  unfold swap
  split
  · exact (respondDeferred_fifo ..).trans (by simp)
  · rfl
  · rfl
  · rfl

theorem answerRemoval_fifo (stations : List Addr) (n : Nat) (s : State) :
    (s.answerRemoval stations n).management.fifo = s.management.fifo := by
  unfold answerRemoval
  split
  · rfl
  · next t q k _ =>
    obtain ⟨m, same, fifo⟩ := respond_eq_withManagement t q k.code .ok (removalData k stations n)
      (s.withManagement { s.management with unit := .idle })
    rw [same]
    exact fifo

theorem removalWork_fifo (s : State) : s.removalWork.management.fifo = s.management.fifo := by
  unfold removalWork
  split
  · exact (answerRemoval_fifo ..).trans (by simp)
  · rfl
  · rfl

theorem FifoSound.uplinkSignal (h : s.FifoSound) : s.uplinkSignal.FifoSound := by
  unfold State.uplinkSignal
  split
  · next down => exact fun _ => h (by rw [down]; nofun)
  · exact h
  · exact h

theorem FifoSound.trainingComplete (h : s.FifoSound) : s.trainingComplete.FifoSound := by
  unfold State.trainingComplete
  split
  · exact fun notUp => absurd rfl notUp
  · exact h
  · exact h

theorem FifoSound.uplinkDown (h : s.FifoSound) : s.uplinkDown.FifoSound := by
  unfold State.uplinkDown
  split
  · exact h
  · next training => exact fun _ => h (by rw [training]; nofun)
  · exact fun _ => by simp [uplinkLoss, loseManagement, loseEvents, loseProgram, apply_ite]

/-! ### What leaves the link alone -/

theorem arriveCredit_link (q n : Byte) (s : State) : (s.arriveCredit q n).uplink.link = s.uplink.link := by
  unfold arriveCredit
  split
  · simp
  · rfl

theorem takeInbound_link (x : Inbound) (s : State) : (s.takeInbound x).uplink.link = s.uplink.link := by
  cases x with
  | error d => rfl
  | request r => simp [takeInbound]
  | credit q n => exact arriveCredit_link q n s

theorem responseFrameStart_link (s : State) : s.responseFrameStart.uplink.link = s.uplink.link := by
  unfold responseFrameStart
  split
  · split <;> rfl
  · rfl

theorem responseFrameEnd_link (s : State) : s.responseFrameEnd.uplink.link = s.uplink.link := by
  unfold responseFrameEnd
  split <;> rfl

theorem responseFrameEnd_fifo (s : State) : s.responseFrameEnd.management.fifo = s.management.fifo := by
  unfold responseFrameEnd
  split <;> rfl

theorem eventFrameStart_link (s : State) : s.eventFrameStart.uplink.link = s.uplink.link := by
  unfold eventFrameStart
  split <;> rfl

theorem eventFrameEnd_link (s : State) : s.eventFrameEnd.uplink.link = s.uplink.link := by
  unfold eventFrameEnd
  split <;> rfl

theorem deliveryFrameStart_link (s : State) : s.deliveryFrameStart.uplink.link = s.uplink.link := by
  unfold deliveryFrameStart
  split
  · split
    · split <;> rfl
    · rfl
  · rfl

theorem endStreamed_link (f : DeliveryFrame) (s : State) : (s.endStreamed f).uplink.link = s.uplink.link := by
  unfold endStreamed
  dsimp only
  split
  · rfl
  · exact closeHead_link ..

theorem deliveryFrameEnd_link (s : State) : s.deliveryFrameEnd.uplink.link = s.uplink.link := by
  unfold deliveryFrameEnd
  split
  · split
    · exact endStreamed_link ..
    · rfl
  · rfl
  · rfl
  · rfl

theorem deliveryMemoryError_link (s : State) : s.deliveryMemoryError.uplink.link = s.uplink.link := by
  unfold deliveryMemoryError
  split
  · split
    · split
      · exact closeHead_link ..
      · rfl
    · rfl
  · rfl
  · rfl
  · rfl

theorem softRestart_link (t : Fin 4) (r : Request) (s : State) :
    (State.softRestart t r s).1.uplink.link = s.uplink.link := by
  have uplink : s.restartParts.uplink = s.cutFrame.uplink := by simp [restartParts]
  exact (congrArg UplinkPort.link uplink).trans (link_cutFrame s)

theorem clearGroup_link (g : Group) (s : State) : (s.clearGroup g).uplink.link = s.uplink.link := by
  cases g <;> rfl

theorem readCounters_link (t : Fin 4) (r : Request) (s : State) :
    (State.readCounters t r s).1.uplink.link = s.uplink.link := by
  unfold State.readCounters
  split
  · rfl
  · dsimp only
    split
    · rfl
    · split
      · exact clearGroup_link _ s
      · rfl

theorem clearCounters_link (t : Fin 4) (r : Request) (s : State) :
    (State.clearCounters t r s).1.uplink.link = s.uplink.link := by
  unfold State.clearCounters
  split
  · rfl
  · exact clearGroup_link _ s

theorem FifoSound.receiveUplinkUnit (h : s.FifoSound) (u : LaneUnit) : (s.receiveUplinkUnit u).FifoSound := by
  rw [receiveUplinkUnit_eq]
  split
  · next received =>
    exact fun notUp => absurd received.1 (takeInbound_link (checkInbound u) s ▸ notUp)
  · exact h

theorem FifoSound.after (h : s.FifoSound) (c : Instr) : (s.after c).FifoSound := by
  cases c with
  | powerOn => exact fun _ => rfl
  | swap =>
    have uplink : s.swap.uplink = s.uplink := by simp
    exact h.of_same (congrArg _ uplink) (swap_fifo s)
  | removalWork =>
    have uplink : s.removalWork.uplink = s.uplink := by simp
    exact h.of_same (congrArg _ uplink) (removalWork_fifo s)
  | uplinkSignal => exact h.uplinkSignal
  | trainingComplete => exact h.trainingComplete
  | trainingFailure => exact h.uplinkDown
  | lossOfSignal => exact h.uplinkDown
  | requestFrame u => exact h.receiveUplinkUnit u
  | creditFrame u => exact h.receiveUplinkUnit u
  | uplinkFrameError u => exact h.receiveUplinkUnit u
  | badTag =>
    exact (h.of_taken (fun nothing => by rw [badTag, nothing]) (by simp) : s.badTag.FifoSound)
  | retryMatch =>
    exact (h.of_taken (fun nothing => by rw [retryMatch, nothing]) (by simp) : s.retryMatch.FifoSound)
  | badKind =>
    exact (h.of_taken (fun nothing => by rw [badKind, nothing]) (by simp) : s.badKind.FifoSound)
  | responseFrameStart => exact (h.of_same (responseFrameStart_link s) (by simp) : s.responseFrameStart.FifoSound)
  | responseFrameEnd => exact h.of_same (responseFrameEnd_link s) (responseFrameEnd_fifo s)
  | eventFrameStart => exact (h.of_same (eventFrameStart_link s) (by simp) : s.eventFrameStart.FifoSound)
  | eventFrameEnd => exact (h.of_same (eventFrameEnd_link s) (by simp) : s.eventFrameEnd.FifoSound)
  | deliveryFrameStart => exact (h.of_same (deliveryFrameStart_link s) (by simp) : s.deliveryFrameStart.FifoSound)
  | deliveryFrameEnd => exact (h.of_same (deliveryFrameEnd_link s) (by simp) : s.deliveryFrameEnd.FifoSound)
  | deliveryMemoryError => exact (h.of_same (deliveryMemoryError_link s) (by simp) : s.deliveryMemoryError.FifoSound)
  | softRestart => exact h.takeRequest softRestart_link _ _
  | readCounters => exact h.takeRequest readCounters_link _ _
  | clearCounters => exact h.takeRequest clearCounters_link _ _
  | getStatus | getParam | setParam | setRights | readStation | listStations | pinStation | unpinStation
  | removeStation | flushLearned | readContext | readPool | readClauseActive | readClauseStaging | readHits | openEdit
  | writeClause | writeProbes | setDefault | setCount | commit | abortEdit | readQueue | haltQueue | restartQueue
  | flushQueue | sendHold | sendRelease | setEvents | flushEvents =>
    exact h.takeRequest (fun t r u => by simp) _ _
  | _ =>
    refine keeps_after (P := FifoSound) [.managementUnit, .uplinkPort] (fun u v same hu => ?_)
      (by simp [reachOfAny, Instr.reach, Block.hold, Block.cell]) h
    have uplink : v.uplink = u.uplink := same .uplinkPort (by simp)
    have management : v.management = u.management := same .managementUnit (by simp)
    exact hu.of_same (by rw [uplink]) (by rw [management])

end State

/-- Settles O58: the lane, its queue's mark and head, and the FIFO of a link that is not UP. -/
theorem stepKeepsTheUplinkSound : Obligations.StepKeepsTheUplinkSound := by
  intro s t uplink h
  refine (State.uplinkSound_iff t).2 (step_keeps (P := fun s => s.LaneSound ∧ s.FifoSound) (fun _ _ hs => ?_)
    (fun _ hs => ?_) (fun c _ hs => ⟨hs.1.after c, hs.2.after c⟩) ((State.uplinkSound_iff s).1 uplink) h)
  · exact ⟨hs.1.of_kept (State.queuesKept_of_delivery rfl) rfl rfl, hs.2⟩
  · exact ⟨hs.1.of_kept (State.queuesKept_of_delivery rfl) rfl rfl, hs.2⟩

end Sys2Proof.Machine
end

section
/-! Every step keeps the open-context counts of the Station Table in step with the contexts (R22, R53), but in the
window between the removal of an entry and the removal work (R28, R29). -/

namespace Sys2Proof.Machine

/-! ### The ledger: counts and contexts by address -/

/-- The entry of a count for address `a` changed by `g`. -/
def onAddress (a : Addr) (g : Nat → Nat) (p : Addr × Nat) : Addr × Nat := if p.1 = a then (p.1, g p.2) else p

/-- The counts `t` by position agree with the numbers `o` by address, but for the addresses that `waits` excepts. -/
structure Ledger (t : Fin 64 → Option (Addr × Nat)) (o : Addr → Nat) (waits : Addr → Prop) : Prop where
  counted : ∀ i a n, t i = some (a, n) → ¬ waits a → n = o a
  bounded : ∀ i a n, t i = some (a, n) → n ≤ o a
  absent : ∀ a, (∀ i n, t i ≠ some (a, n)) → ¬ waits a → o a = 0

namespace Ledger

variable {t t' : Fin 64 → Option (Addr × Nat)} {o o' : Addr → Nat} {w : Addr → Prop} {a : Addr}

/-- What an entry after a change at `a` was before it. -/
theorem before_onAddress {g : Nat → Nat} (counts : ∀ i, t' i = (t i).map (onAddress a g)) {i : Fin 64} {b : Addr}
    {n : Nat} (h : t' i = some (b, n)) : ∃ m, t i = some (b, m) ∧ n = if b = a then g m else m := by
  rw [counts] at h
  obtain ⟨⟨c, m⟩, before, change⟩ := Option.map_eq_some_iff.1 h
  unfold onAddress at change
  dsimp only at change
  split at change
  · next same =>
    obtain ⟨rfl, rfl⟩ := Prod.mk.inj change
    exact ⟨m, before, (if_pos same).symm⟩
  · next other =>
    obtain ⟨rfl, rfl⟩ := Prod.mk.inj change
    exact ⟨m, before, (if_neg other).symm⟩

theorem fst_onAddress (a : Addr) (g : Nat → Nat) (p : Addr × Nat) : (onAddress a g p).1 = p.1 := by
  unfold onAddress
  split <;> rfl

theorem present_onAddress {g : Nat → Nat} (counts : ∀ i, t' i = (t i).map (onAddress a g)) {i : Fin 64} {b : Addr}
    {n : Nat} (h : t i = some (b, n)) : ∃ m, t' i = some (b, m) := by
  refine ⟨(onAddress a g (b, n)).2, ?_⟩
  rw [counts, h]
  exact congrArg some (Prod.ext (fst_onAddress a g (b, n)) rfl)

/-- A context of `a` is opened or closed, and the entry of `a`, if there is one, follows. -/
theorem change (h : Ledger t o w) {g : Nat → Nat} (counts : ∀ i, t' i = (t i).map (onAddress a g))
    (others : ∀ b, b ≠ a → o' b = o b) (follows : g (o a) = o' a) (below : ∀ n, n ≤ o a → g n ≤ o' a)
    (known : o' a = 0 ∨ o a ≠ 0 ∨ w a ∨ ∃ i n, t i = some (a, n)) : Ledger t' o' w := by
  refine ⟨fun i b n found free => ?_, fun i b n found => ?_, fun b none free => ?_⟩
  · obtain ⟨m, before, rfl⟩ := before_onAddress counts found
    have same := h.counted i b m before free
    split
    · next e => rw [e] at same ⊢; rw [same, follows]
    · next ne => rw [others b ne, same]
  · obtain ⟨m, before, rfl⟩ := before_onAddress counts found
    have bound := h.bounded i b m before
    split
    · next e => rw [e] at bound ⊢; exact below m bound
    · next ne => rwa [others b ne]
  · have lacked : ∀ i n, t i ≠ some (b, n) := fun i n found => by
      obtain ⟨m, after⟩ := present_onAddress counts found
      exact none i m after
    have zero := h.absent b lacked free
    by_cases same : b = a
    · subst same
      obtain done | some | waits | ⟨i, n, found⟩ := known
      · exact done
      · exact absurd zero some
      · exact absurd waits free
      · exact absurd found (lacked i n)
    · rw [others b same, zero]

theorem close (h : Ledger t o w) (counts : ∀ i, t' i = (t i).map (onAddress a (· - 1)))
    (numbers : ∀ b, o' b + (if b = a then 1 else 0) = o b) : Ledger t' o' w := by
  have one : o' a + 1 = o a := by simpa using numbers a
  refine h.change counts (fun b other => by simpa [other] using numbers b) (by omega) (fun n le => ?_)
    (.inr (.inl (by omega)))
  show n - 1 ≤ o' a
  omega

theorem opens (h : Ledger t o w) (counts : ∀ i, t' i = (t i).map (onAddress a (· + 1)))
    (numbers : ∀ b, o' b = o b + (if b = a then 1 else 0)) (known : w a ∨ ∃ i n, t i = some (a, n)) :
    Ledger t' o' w := by
  have one : o' a = o a + 1 := by simpa using numbers a
  refine h.change counts (fun b other => by simpa [other] using numbers b) (by omega) (fun n le => ?_)
    (.inr (.inr known))
  show n + 1 ≤ o' a
  omega

end Ledger

namespace StationTable

/-- The address and the count of the entry in position `i`. -/
def tally (x : StationTable) (i : Fin 64) : Option (Addr × Nat) := x.entries[i].map fun e => (e.address, e.openCount)

variable {x : StationTable} {a : Addr}

theorem tally_eq_some {i : Fin 64} {n : Nat} :
    x.tally i = some (a, n) ↔ ∃ e, x.entries[i] = some e ∧ e.address = a ∧ e.openCount = n := by
  rw [tally, Option.map_eq_some_iff]
  simp only [Prod.mk.injEq]

theorem lacks_iff : x.Lacks a ↔ ∀ i n, x.tally i ≠ some (a, n) := by
  constructor
  · intro lacks i n found
    obtain ⟨e, entry, address, -⟩ := tally_eq_some.1 found
    exact lacks i e entry address
  · intro none i e entry address
    exact none i e.openCount (tally_eq_some.2 ⟨e, entry, address, rfl⟩)

theorem tally_report (x : StationTable) (a : Addr) {f : StationEntry → StationEntry} {g : Nat → Nat}
    (address : ∀ e, (f e).address = e.address) (count : ∀ e, (f e).openCount = g e.openCount) (i : Fin 64) :
    (x.report a f).tally i = (x.tally i).map (onAddress a g) := by
  rw [tally, tally, report]
  dsimp only
  rw [getElem_fin_mapTable]
  cases x.entries[i] with
  | none => rfl
  | some e =>
    simp only [Option.map_some, onAddress]
    split
    · rw [address, count]
    · rfl

/-- A report removes no entry. -/
theorem lacks_of_report {b : Addr} {f : StationEntry → StationEntry} (address : ∀ e, (f e).address = e.address)
    (lacks : (x.report b f).Lacks a) : x.Lacks a := by
  intro i e entry same
  have after : (x.report b f).entries[i] = some (if e.address = b then f e else e) := by
    rw [report]
    dsimp only
    rw [getElem_fin_mapTable, entry]
    rfl
  refine lacks i _ after ?_
  split
  · exact (address e).trans same
  · exact same

theorem onAddress_id (a : Addr) : onAddress a (fun n => n) = id := by
  funext p
  unfold onAddress
  split <;> rfl

/-- A report that leaves the count alone. -/
theorem tally_report_same (x : StationTable) (a : Addr) {f : StationEntry → StationEntry}
    (address : ∀ e, (f e).address = e.address) (count : ∀ e, (f e).openCount = e.openCount) :
    (x.report a f).tally = x.tally := by
  funext i
  rw [tally_report x a address (g := fun n => n) count, onAddress_id, Option.map_id_fun, id]

end StationTable

namespace State

variable {s u : State} {w lost : Addr → Prop} {i : Fin 48} {a : Addr}

/-! ### The number of open contexts -/

theorem openContexts_eq_sum (s : State) (a : Addr) : s.openContexts a =
    (s.reassembly.contexts.toList.map fun c => if c.body.openStation = some a then 1 else 0).sum := by
  have list : ∀ l : List Context, (l.filter fun c => c.body.openStation = some a).length =
      (l.map fun c => if c.body.openStation = some a then 1 else 0).sum := by
    intro l
    induction l with
    | nil => rfl
    | cons c l ih =>
      rw [List.filter_cons, List.map_cons, List.sum_cons, ← ih]
      split
      · next h => rw [if_pos (of_decide_eq_true h), List.length_cons, Nat.add_comm]
      · next h => rw [if_neg (fun e => h (decide_eq_true e)), Nat.zero_add]
  exact list _

/-- R22: a change of one context changes the numbers of its two stations. -/
theorem openContexts_set {c : Context} (contexts : u.reassembly.contexts = s.reassembly.contexts.set i c) (a : Addr) :
    u.openContexts a + (if s.reassembly.contexts[i].body.openStation = some a then 1 else 0) =
      s.openContexts a + (if c.body.openStation = some a then 1 else 0) := by
  rw [openContexts_eq_sum, openContexts_eq_sum, contexts]
  exact sum_map_set (fun c : Context => if c.body.openStation = some a then 1 else 0) s.reassembly.contexts i c

theorem openContexts_eq_zero : s.openContexts a = 0 ↔
    ∀ i : Fin 48, s.reassembly.contexts[i].body.openStation ≠ some a := by
  rw [openContexts, List.length_eq_zero_iff, List.filter_eq_nil_iff]
  constructor
  · intro none i same
    exact none _ (by simp) (decide_eq_true same)
  · intro none c mem same
    obtain ⟨i, hi, rfl⟩ := List.mem_iff_getElem.1 mem
    exact none ⟨i, by simpa using hi⟩ (of_decide_eq_true same)

/-! ### The transitions -/

/-- R22, R53: the counts agree with the contexts, but for the stations that `w` excepts, and every station without an
entry is among the `lost`. -/
structure Balanced (s : State) (w lost : Addr → Prop) : Prop where
  unique : s.stations.Unique
  ledger : Ledger s.stations.tally s.openContexts w
  lacks : ∀ a, s.stations.Lacks a → lost a

theorem Balanced.of_same (h : s.Balanced w lost) (stations : u.stations = s.stations)
    (contexts : u.reassembly.contexts = s.reassembly.contexts) : u.Balanced w lost := by
  have numbers : u.openContexts = s.openContexts := by
    funext a
    rw [openContexts, contexts, openContexts]
  exact ⟨stations ▸ h.unique, by rw [stations, numbers]; exact h.ledger, stations ▸ h.lacks⟩

/-- A report to an entry that leaves its count alone. -/
theorem Balanced.reported (h : s.Balanced w lost) {f : StationEntry → StationEntry} (b : Addr)
    (stations : u.stations = s.stations.report b f) (address : ∀ e, (f e).address = e.address)
    (count : ∀ e, (f e).openCount = e.openCount) {c : Context}
    (contexts : u.reassembly.contexts = s.reassembly.contexts.set i c)
    (same : c.body.openStation = s.reassembly.contexts[i].body.openStation) : u.Balanced w lost := by
  have numbers : u.openContexts = s.openContexts := by
    funext a
    have total := openContexts_set contexts a
    rw [same] at total
    exact Nat.add_right_cancel total
  refine ⟨stations ▸ h.unique.report b address, ?_,
    fun d lacks => h.lacks d (StationTable.lacks_of_report address (stations ▸ lacks))⟩
  rw [stations, StationTable.tally_report_same _ b address count, numbers]
  exact h.ledger

/-- A report of an error to the entry of a station. -/
theorem Balanced.errorReported (h : s.Balanced w lost) (b : Addr)
    (stations : u.stations = s.stations.report b fun e => { e with errors := satInc e.errors })
    (contexts : u.reassembly.contexts = s.reassembly.contexts) : u.Balanced w lost :=
  h.reported b stations (fun _ => rfl) (fun _ => rfl) (i := 0) (c := s.reassembly.contexts[(0 : Fin 48)])
    (by simp [contexts]) rfl

/-- A context keeps its station. -/
theorem Balanced.put (h : s.Balanced w lost) (stations : u.stations = s.stations) {c : Context}
    (contexts : u.reassembly.contexts = s.reassembly.contexts.set i c)
    (same : c.body.openStation = s.reassembly.contexts[i].body.openStation) : u.Balanced w lost :=
  h.reported 0 (f := fun e => e) (stations.trans (report_self _ _).symm) (fun _ => rfl) (fun _ => rfl) contexts same

theorem Balanced.closed (h : s.Balanced w lost) {f : StationEntry → StationEntry}
    (stations : u.stations = s.stations.report a f) (address : ∀ e, (f e).address = e.address)
    (count : ∀ e, (f e).openCount = e.openCount - 1) {c : Context}
    (contexts : u.reassembly.contexts = s.reassembly.contexts.set i c) (new : c.body.openStation = none)
    (old : s.reassembly.contexts[i].body.openStation = some a) : u.Balanced w lost := by
  refine ⟨stations ▸ h.unique.report a address, ?_,
    fun d lacks => h.lacks d (StationTable.lacks_of_report address (stations ▸ lacks))⟩
  rw [stations]
  refine h.ledger.close (StationTable.tally_report _ a address count) fun b => ?_
  have total := openContexts_set contexts b
  rw [new, old] at total
  simpa [eq_comm] using total

theorem Balanced.opened (h : s.Balanced w lost) {f : StationEntry → StationEntry}
    (stations : u.stations = s.stations.report a f) (address : ∀ e, (f e).address = e.address)
    (count : ∀ e, (f e).openCount = e.openCount + 1) {c : Context}
    (contexts : u.reassembly.contexts = s.reassembly.contexts.set i c) (new : c.body.openStation = some a)
    (old : s.reassembly.contexts[i].body.openStation = none) (known : s.stations.Lacks a → w a) : u.Balanced w lost := by
  refine ⟨stations ▸ h.unique.report a address, ?_,
    fun d lacks => h.lacks d (StationTable.lacks_of_report address (stations ▸ lacks))⟩
  rw [stations]
  refine h.ledger.opens (StationTable.tally_report _ a address count) (fun b => ?_) ?_
  · have total := openContexts_set contexts b
    rw [new, old] at total
    simpa [eq_comm] using total
  · by_contra none
    rw [not_or] at none
    exact none.1 (known (StationTable.lacks_iff.2 fun i n found => none.2 ⟨i, n, found⟩))

/-! ### The ends of contexts -/

@[simp] theorem postAbort_reassembly (r : AbortReason) (a : Addr) (s : State) :
    (s.postAbort r a).reassembly = s.reassembly := by
  cases r <;> rfl

theorem aborted_stations (s : State) (i : Fin 48) (m : Message) (r : AbortReason) (left : ContextState) :
    (s.aborted i m r left).stations = s.stations.report m.station (abortReport r left) := by
  simp [aborted_eq]

theorem aborted_contexts (s : State) (i : Fin 48) (m : Message) (r : AbortReason) (left : ContextState) :
    (s.aborted i m r left).reassembly.contexts = s.reassembly.contexts.set i { body := left, lastAbort := r } := by
  simp [aborted_eq, afterAbort]

theorem Balanced.abortToFree (h : s.Balanced w lost) {m : Message}
    (old : s.reassembly.contexts[i].body.openStation = some m.station) (r : AbortReason) :
    (s.abortToFree i m r).Balanced w lost := by
  rw [abortToFree_eq h.unique]
  exact h.closed (aborted_stations s i m r .free) (fun _ => rfl) (fun e => by simp [abortReport])
    (aborted_contexts s i m r .free) rfl old

theorem Balanced.abortToDiscarding (h : s.Balanced w lost) {m : Message}
    (old : s.reassembly.contexts[i].body.openStation = some m.station) (r : AbortReason) :
    (s.abortToDiscarding i m r).Balanced w lost := by
  rw [abortToDiscarding_eq h.unique]
  exact h.reported m.station (aborted_stations ..) (fun _ => rfl) (fun e => by simp [abortReport])
    (aborted_contexts ..) old.symm

theorem Balanced.endContext (h : s.Balanced w lost) (r : AbortReason) (i : Fin 48) : (s.endContext r i).Balanced w lost := by
  cases body : s.reassembly.contexts[i].body with
  | free => rwa [endContext_of_free body]
  | complete m => rwa [endContext_of_complete body]
  | opened m e z =>
    rw [endContext_of_opened h.unique body, ← abortToFree_eq h.unique]
    exact h.abortToFree (congrArg ContextState.openStation body) r
  | discarding a ch z =>
    rw [endContext_of_discarding h.unique body]
    exact h.closed rfl (fun _ => rfl) (fun _ => rfl) (by rfl) rfl (congrArg ContextState.openStation body)

theorem Balanced.endContexts (h : s.Balanced w lost) (r : AbortReason) (l : List (Fin 48)) :
    (s.endContexts r l).Balanced w lost := by
  induction l generalizing s with
  | nil => exact h
  | cons i l ih => exact ih (h.endContext r i)

theorem Balanced.endKeyContext (h : s.Balanced w lost) (a : Addr) (ch : Chan) : (s.endKeyContext a ch).Balanced w lost := by
  unfold State.endKeyContext
  split
  · exact h
  · exact h.endContext _ _

/-! ### The cells -/

theorem Balanced.startMessage (h : s.Balanced w lost) (c : AdmittedCell) (whole : Bool)
    (known : s.stations.Lacks c.source → w c.source) : (s.startMessage c whole).Balanced w lost := by
  have refused (k : ReassemblyCounters) (e : EventKind) : (s.startRefused k e c.source).Balanced w lost :=
    h.errorReported c.source (by simp [startRefused]) (by simp [startRefused])
  cases available : s.availableContext c.source with
  | none =>
    rw [startMessage_of_noContext h.unique available]
    exact refused _ _
  | some i =>
    have free : s.reassembly.contexts[i].body.openStation = none :=
      congrArg ContextState.openStation (free_of_availableContext available)
    cases stored : s.pool.store c.payload none with
    | none =>
      have empty : s.pool.free = [] := by
        cases list : s.pool.free with
        | nil => rfl
        | cons b rest => exact absurd (stored.symm.trans (BlockPool.store_start_of_free_cons list)) nofun
      rw [startMessage_of_noBuffer h.unique available empty]
      exact refused _ _
    | some y =>
      cases whole with
      | true =>
        rw [startMessage_whole h.unique available stored]
        exact h.reported c.source (f := fun e => { e with completed := satInc e.completed }) (by simp [completed]; rfl)
          (fun _ => rfl) (fun _ => rfl) (c := ⟨.complete (startedMessage c y.1), _⟩) (by simp [completed]; rfl) free.symm
      | false =>
        rw [startMessage_opens h.unique available stored]
        exact h.opened rfl (fun _ => rfl) (fun _ => rfl) (c := ⟨.opened (startedMessage c y.1) (c.sequence + 1) s.gapEnd, _⟩)
          (by simp [contextPut]; rfl) rfl free known

theorem Balanced.abortAtCell (h : s.Balanced w lost) {m : Message}
    (old : s.reassembly.contexts[i].body.openStation = some m.station) (last : Bool) (r : AbortReason) :
    (s.abortAtCell last i m r).Balanced w lost := by
  cases last
  · exact h.abortToDiscarding old r
  · exact h.abortToFree old r

theorem Balanced.extendMessage (h : s.Balanced w lost) {m : Message}
    (old : s.reassembly.contexts[i].body.openStation = some m.station) (last : Bool) (e : Seq) (n : Nat) (x : Chain) :
    (s.extendMessage last i m e n x).Balanced w lost := by
  cases last with
  | false => exact h.put rfl (c := ⟨.opened _ _ _, _⟩) rfl old.symm
  | true =>
    have whole : s.extendMessage true i m e n x = s.completed i { m with byteCount := m.byteCount + n, chain := x } true :=
      completeContext_countClosed_eq h.unique i { m with byteCount := m.byteCount + n, chain := x }
    rw [whole]
    exact h.closed rfl (fun _ => rfl) (fun _ => rfl) (c := ⟨.complete _, _⟩) rfl rfl old

theorem Balanced.continueOpen (h : s.Balanced w lost) {m : Message}
    (old : s.reassembly.contexts[i].body.openStation = some m.station) (last : Bool) (c : AdmittedCell) (e : Seq) :
    (s.continueOpen last c i m e).Balanced w lost := by
  unfold State.continueOpen
  split
  · split
    · exact h.abortAtCell old last _
    · split
      · exact h.abortAtCell old last _
      · next p _ =>
        have stored : (s.storedPool p).Balanced w lost := h.of_same (by simp) (by simp)
        exact stored.extendMessage (by simpa using old) last _ _ _
  · split
    · exact h.put rfl (c := ⟨.opened _ _ _, _⟩) rfl old.symm
    · exact h.abortAtCell old last _

theorem Balanced.continueDiscarding (h : s.Balanced w lost)
    (old : s.reassembly.contexts[i].body.openStation = some a) (last : Bool) (ch : Chan) :
    (s.continueDiscarding last i a ch).Balanced w lost := by
  cases last with
  | false => exact h.put rfl (c := ⟨.discarding a ch _, _⟩) rfl old.symm
  | true =>
    rw [continueDiscarding_last h.unique]
    exact h.closed rfl (fun _ => rfl) (fun _ => rfl) (c := ⟨.free, _⟩) rfl rfl old

theorem Balanced.continueMessage (h : s.Balanced w lost) (last : Bool) (c : AdmittedCell) :
    (s.continueMessage last c).Balanced w lost := by
  unfold State.continueMessage context
  split
  · rw [orphanCell_eq h.unique]
    exact h.errorReported c.source (by simp) (by simp)
  · split
    · next body => exact h.continueOpen (congrArg ContextState.openStation body) last c _
    · next body => exact h.continueDiscarding (congrArg ContextState.openStation body) last _
    · exact h
    · exact h

theorem Balanced.gapTimerExpiry (h : s.Balanced w lost) (i : Fin 48) : (s.gapTimerExpiry i).Balanced w lost := by
  unfold State.gapTimerExpiry context
  split
  · next body =>
    split
    · exact h.abortToFree (congrArg ContextState.openStation body) _
    · exact h
  · next body =>
    split
    · rw [countClosed_eq (by exact h.unique)]
      exact h.closed rfl (fun _ => rfl) (fun _ => rfl) (c := ⟨.free, _⟩) rfl rfl (congrArg ContextState.openStation body)
    · exact h
  · exact h
  · exact h

end State
end Sys2Proof.Machine
end

section
/-! Every step keeps the open-context counts sound: the commands, by what they do to the stream, the table and the
contexts (R21, R22, R25, R28, R29, R53). -/

namespace Sys2Proof.Machine

namespace Ledger

variable {t t' : Fin 64 → Option (Addr × Nat)} {o o' : Addr → Nat} {w w' : Addr → Prop} {a : Addr}

/-- Entries go whose stations have no context, or whose removal work waits. -/
theorem shrink (h : Ledger t o w) (kept : ∀ i p, t' i = some p → t i = some p)
    (gone : ∀ i a n, t i = some (a, n) → t' i = none → w' a ∨ n = 0) (mono : ∀ a, w a → w' a) : Ledger t' o w' := by
  refine ⟨fun i a n found free => h.counted i a n (kept i _ found) fun waits => free (mono a waits),
    fun i a n found => h.bounded i a n (kept i _ found), fun a none free => ?_⟩
  by_cases entry : ∃ i n, t i = some (a, n)
  · obtain ⟨i, n, found⟩ := entry
    cases after : t' i with
    | some p => exact absurd (after.trans ((kept i p after).symm.trans found)) (none i n)
    | none =>
      obtain waits | zero := gone i a n found after
      · exact absurd waits free
      · exact (h.counted i a n found fun waits => free (mono a waits)).symm.trans zero
  · exact h.absent a (fun i n found => entry ⟨i, n, found⟩) fun waits => free (mono a waits)

/-- A new entry counts nothing. -/
theorem insert (h : Ledger t o w) {i : Fin 64} (empty : t i = none) (lacks : ∀ i n, t i ≠ some (a, n))
    (table : ∀ j, t' j = if j = i then some (a, 0) else t j) : Ledger t' o w := by
  refine ⟨fun j b n found free => ?_, fun j b n found => ?_, fun b none free => h.absent b (fun j n found => ?_) free⟩
  · rw [table] at found
    split at found
    · obtain ⟨rfl, rfl⟩ := Prod.mk.inj (Option.some.inj found)
      exact (h.absent a lacks free).symm
    · exact h.counted j b n found free
  · rw [table] at found
    split at found
    · obtain ⟨rfl, rfl⟩ := Prod.mk.inj (Option.some.inj found)
      exact Nat.zero_le _
    · exact h.bounded j b n found
  · refine none j n ((table j).trans ?_)
    split
    · next same =>
      rw [same, empty] at found
      nomatch found
    · exact found

/-- The exceptions without a context are none. -/
theorem narrow (h : Ledger t o w) (zero : ∀ a, w a → ¬ w' a → o a = 0) : Ledger t o w' := by
  refine ⟨fun i a n found free => ?_, h.bounded, fun a none free => ?_⟩
  · by_cases waits : w a
    · have bound := h.bounded i a n found
      have none := zero a waits free
      omega
    · exact h.counted i a n found waits
  · by_cases waits : w a
    · exact zero a waits free
    · exact h.absent a none waits

end Ledger

theorem StationTable.tally_set (x : StationTable) (i : Fin 64) (e : Option StationEntry) (j : Fin 64) :
    ({ x with entries := x.entries.set i e } : StationTable).tally j =
      if j = i then e.map fun e => (e.address, e.openCount) else x.tally j := by
  rw [StationTable.tally, getElem_set_fin]
  split <;> rfl

/-- An entry changed in place, its address and its count left alone. -/
theorem StationTable.tally_set_same {x : StationTable} {i : Fin 64} {e : Option StationEntry}
    (same : (e.map fun e => (e.address, e.openCount)) = x.tally i) :
    ({ x with entries := x.entries.set i e } : StationTable).tally = x.tally := by
  funext j
  rw [StationTable.tally_set]
  split
  · next at_ => rw [same, at_]
  · rfl

namespace State

variable {s u : State} {a : Addr}

/-- R21: removal work waits behind every cell of a station without an entry. -/
def Known (s : State) : Prop := ∀ before c after, s.stream = before ++ .cell c :: after → s.stations.Lacks c.source →
  ∃ l, .removal l ∈ after ∧ c.source ∈ l

theorem openCountsSound_iff (s : State) :
    s.OpenCountsSound ↔ Ledger s.stations.tally s.openContexts s.RemovalWaits ∧ s.Known := by
  constructor
  · intro h
    refine ⟨⟨fun i a n found free => ?_, fun i a n found => ?_, fun a none free => ?_⟩, h.known⟩
    · obtain ⟨e, entry, rfl, rfl⟩ := StationTable.tally_eq_some.1 found
      exact h.counted i e entry free
    · obtain ⟨e, entry, rfl, rfl⟩ := StationTable.tally_eq_some.1 found
      exact h.bounded i e entry
    · exact h.absent a (StationTable.lacks_iff.2 none) free
  · intro ⟨h, known⟩
    exact ⟨fun i e entry free => h.counted i _ _ (StationTable.tally_eq_some.2 ⟨e, entry, rfl, rfl⟩) free,
      fun i e entry => h.bounded i _ _ (StationTable.tally_eq_some.2 ⟨e, entry, rfl, rfl⟩),
      fun a lacks free => h.absent a (StationTable.lacks_iff.1 lacks) free, known⟩

theorem openContexts_of_contexts (h : u.reassembly.contexts = s.reassembly.contexts) :
    u.openContexts = s.openContexts := by
  funext a
  rw [openContexts, h, openContexts]

theorem removalWaits_of_stream (h : u.stream = s.stream) : u.RemovalWaits = s.RemovalWaits := by
  funext a
  rw [RemovalWaits, h, RemovalWaits]

/-- What leaves the stream, the addresses and the counts, and the numbers of open contexts alone. -/
theorem OpenCountsSound.of_same (h : s.OpenCountsSound) (stream : u.stream = s.stream)
    (tally : u.stations.tally = s.stations.tally) (numbers : u.openContexts = s.openContexts) : u.OpenCountsSound := by
  rw [openCountsSound_iff] at h ⊢
  obtain ⟨ledger, known⟩ := h
  refine ⟨by rwa [tally, numbers, removalWaits_of_stream stream], fun before c after found lacks => ?_⟩
  refine known before c after (stream ▸ found) (StationTable.lacks_iff.2 ?_)
  rw [← tally]
  exact StationTable.lacks_iff.1 lacks

/-! ### The cells -/

/-- R21: a cell leaves the stream, and the Reassembly Unit acts on it. -/
theorem OpenCountsSound.takeCell (h : s.OpenCountsSound) (unique : s.stations.Unique) {k : DataKind}
    {act : AdmittedCell → State → State}
    (own : ∀ (c : AdmittedCell) (u : State) (w lost : Addr → Prop), (lost c.source → w c.source) → u.Balanced w lost →
      (act c u).Balanced w lost) (stream : ∀ c (u : State), (act c u).stream = u.stream) :
    (s.takeCell k act).OpenCountsSound := by
  unfold State.takeCell
  split
  · next c rest head =>
    split
    · obtain ⟨ledger, known⟩ := (openCountsSound_iff s).1 h
      have waits : (s.withStream rest).RemovalWaits = s.RemovalWaits := by
        funext b
        rw [RemovalWaits, RemovalWaits, head]
        simp
      have own := own c (s.withStream rest) s.RemovalWaits s.stations.Lacks (fun lacks => ?_)
        ⟨unique, ledger, fun _ lacks => lacks⟩
      · have after := stream c (s.withStream rest)
        refine (openCountsSound_iff _).2 ⟨?_, fun before d rest' found lacks => ?_⟩
        · rw [removalWaits_of_stream after, waits]
          exact own.ledger
        · refine known (.cell c :: before) d rest' ?_ (own.lacks d.source lacks)
          rw [head]
          exact congrArg (StreamItem.cell c :: ·) (after.symm.trans found)
      · obtain ⟨l, waits, mem⟩ := known [] c rest head lacks
        exact ⟨l, by rw [head]; exact List.mem_cons_of_mem _ waits, mem⟩
    · exact h
  · exact h
  · exact h

theorem OpenCountsSound.startCell (h : s.OpenCountsSound) (unique : s.stations.Unique) (k : DataKind) (whole : Bool) :
    (s.takeCell k fun c t => (t.endKeyContext c.source c.channel).startMessage c whole).OpenCountsSound := by
  refine h.takeCell unique (fun c u w lost known balanced => ?_) fun c u => by simp
  have ended := balanced.endKeyContext c.source c.channel
  exact ended.startMessage c whole fun lacks => known (ended.lacks _ lacks)

theorem OpenCountsSound.continueCell (h : s.OpenCountsSound) (unique : s.stations.Unique) (k : DataKind) (last : Bool) :
    (s.takeCell k (State.continueMessage last)).OpenCountsSound :=
  h.takeCell unique (fun c _ _ _ _ balanced => balanced.continueMessage last c) fun c u => by simp

/-- What keeps the balance and the stream. -/
theorem OpenCountsSound.of_balanced (h : s.OpenCountsSound) (unique : s.stations.Unique)
    (own : ∀ w lost, s.Balanced w lost → u.Balanced w lost) (stream : u.stream = s.stream) : u.OpenCountsSound := by
  obtain ⟨ledger, known⟩ := (openCountsSound_iff s).1 h
  have balanced := own s.RemovalWaits s.stations.Lacks ⟨unique, ledger, fun _ lacks => lacks⟩
  refine (openCountsSound_iff u).2 ⟨removalWaits_of_stream stream ▸ balanced.ledger, fun before c after found lacks => ?_⟩
  exact known before c after (stream ▸ found) (balanced.lacks _ lacks)

theorem Balanced.trunkLoss {w lost : Addr → Prop} (h : s.Balanced w lost) : s.trunkLoss.Balanced w lost := by
  unfold State.trunkLoss
  split
  · exact h
  · have posted : ((s.changeRx fun x => { x with link := .down }).post .trunkDown 0).Balanced w lost :=
      h.of_same (by simp) (by simp)
    exact (posted.endContexts .trunkLoss (List.finRange 48)).of_same (by simp) (by simp)

theorem Balanced.classificationEnd {w lost : Addr → Prop} (h : s.Balanced w lost) :
    s.classificationEnd.Balanced w lost := by
  unfold State.classificationEnd context
  split
  · exact h
  · split
    · next body =>
      have old := congrArg ContextState.openStation body
      split
      · exact h.put (by simp [endEvaluated]) (c := ⟨.free, _⟩) (by simp [endEvaluated]; rfl) old.symm
      · exact h.put (by simp [endDamaged]) (c := ⟨.free, _⟩) (by simp [endDamaged]; rfl) old.symm
    · exact h
    · exact h
    · exact h

/-! ### The removal work -/

theorem endContext_body (r : AbortReason) (i : Fin 48) (s : State) (j : Fin 48) :
    (s.endContext r i).reassembly.contexts[j].body.openStation =
      if j = i then none else s.reassembly.contexts[j].body.openStation := by
  have ended (c : Context) (free : c.body = .free) : (s.reassembly.contexts.set i c)[j].body.openStation =
      if j = i then none else s.reassembly.contexts[j].body.openStation := by
    rw [getElem_set_fin]
    split
    · rw [free]
      rfl
    · rfl
  have same (closed : s.reassembly.contexts[i].body.openStation = none) :
      s.reassembly.contexts[j].body.openStation =
        if j = i then none else s.reassembly.contexts[j].body.openStation := by
    split
    · next at_ => rw [at_, closed]
    · rfl
  cases body : s.reassembly.contexts[i].body with
  | free =>
    rw [endContext_of_free body]
    exact same (congrArg _ body)
  | complete m =>
    rw [endContext_of_complete body]
    exact same (congrArg _ body)
  | opened m e z =>
    simp only [endContext, context, body, abortToFree_reassembly]
    exact ended ⟨.free, r⟩ rfl
  | discarding a ch z =>
    simp only [endContext, context, body, endDiscarding_reassembly]
    exact ended ⟨.free, r⟩ rfl

theorem endContexts_body (r : AbortReason) (l : List (Fin 48)) (s : State) (j : Fin 48) :
    (s.endContexts r l).reassembly.contexts[j].body.openStation =
      if j ∈ l then none else s.reassembly.contexts[j].body.openStation := by
  induction l generalizing s with
  | nil => rfl
  | cons i l ih =>
    refine (ih (s.endContext r i)).trans ?_
    rw [endContext_body]
    by_cases same : j = i
    · simp [same]
    · simp [same]

/-- R70: after the removal work the removed stations have no OPEN or DISCARDING context. -/
theorem openContexts_endContexts (stations : List Addr) (r : AbortReason) (mem : a ∈ stations) (s : State) :
    (s.endContexts r (s.removedContexts stations)).openContexts a = 0 := by
  refine openContexts_eq_zero.2 fun j same => ?_
  rw [endContexts_body] at same
  split at same
  · nomatch same
  · next other =>
    refine other (List.mem_filter.2 ⟨List.mem_finRange j, ?_⟩)
    rw [context, same, Option.any_some]
    exact List.contains_iff_mem.2 mem

theorem OpenCountsSound.removalWork (h : s.OpenCountsSound) (unique : s.stations.Unique) :
    s.removalWork.OpenCountsSound := by
  unfold State.removalWork
  split
  · next stations rest head =>
    obtain ⟨ledger, known⟩ := (openCountsSound_iff s).1 h
    let u := s.withStream rest
    have balanced : u.Balanced s.RemovalWaits s.stations.Lacks := ⟨unique, ledger, fun _ lacks => lacks⟩
    have ended := balanced.endContexts .flushed (s.removedContexts stations)
    have stream : (u.endContexts .flushed (s.removedContexts stations)).stream = rest := by simp [u]
    refine OpenCountsSound.of_same (s := u.endContexts .flushed (s.removedContexts stations)) ?_ (by simp [u])
      (by simp [u]) (openContexts_of_contexts (by simp [u]))
    refine (openCountsSound_iff _).2 ⟨ended.ledger.narrow fun b waits free => ?_, fun before c after found lacks => ?_⟩
    · refine openContexts_endContexts stations .flushed ?_ u
      obtain ⟨l, item, mem⟩ := waits
      rw [head] at item
      obtain same | later := List.mem_cons.1 item
      · exact StreamItem.removal.inj same ▸ mem
      · exact absurd ⟨l, stream.symm ▸ later, mem⟩ free
    · refine known (.removal stations :: before) c after ?_ (ended.lacks _ lacks)
      rw [head, ← stream, found]
      rfl
  · exact h
  · exact h

/-! ### The lookup -/

/-- An element of a list and one more: it is in the list or it is the one more. -/
theorem mem_split_append {α : Type} {l added before after : List α} {x : α} (h : l ++ added = before ++ x :: after) :
    x ∈ added ∨ ∃ r, l = before ++ x :: r ∧ after = r ++ added := by
  obtain ⟨r, -, e⟩ | ⟨r, e, e'⟩ := List.append_eq_append_iff.1 h
  · exact .inl (e ▸ List.mem_append_right r (List.mem_cons_self ..))
  · cases r with
    | nil =>
      have same : x :: after = added := e'
      exact .inl (same ▸ List.mem_cons_self ..)
    | cons y r =>
      obtain ⟨rfl, rest⟩ := List.cons.inj e'
      exact .inr ⟨r, e, rest⟩

/-- R21: an admitted cell joins the stream, its station's entry present. -/
theorem OpenCountsSound.handCell (h : s.OpenCountsSound) {c : AdmittedCell} (entry : ¬ s.stations.Lacks c.source) :
    (s.handCell c).OpenCountsSound := by
  obtain ⟨ledger, known⟩ := (openCountsSound_iff s).1 h
  have waits : (s.handCell c).RemovalWaits = s.RemovalWaits := by
    funext b
    simp [RemovalWaits, State.handCell]
  refine (openCountsSound_iff _).2 ⟨by rw [waits]; exact ledger, fun before d after found lacks => ?_⟩
  obtain last | ⟨r, old, rfl⟩ := mem_split_append (found : s.stream ++ [.cell c] = _)
  · exact absurd (StreamItem.cell.inj (List.mem_singleton.1 last) ▸ lacks) entry
  · obtain ⟨l, item, mem⟩ := known before d r old lacks
    exact ⟨l, List.mem_append_left _ item, mem⟩

/-- R20, R26: a new entry, for a station without one. -/
theorem OpenCountsSound.insert (h : s.OpenCountsSound) {i : Fin 64} {e : StationEntry}
    (empty : s.stations.entries[i] = none) (lacks : s.stations.Lacks e.address) (zero : e.openCount = 0) :
    (s.setEntry i (some e)).OpenCountsSound := by
  obtain ⟨ledger, known⟩ := (openCountsSound_iff s).1 h
  have none : s.stations.tally i = none := by rw [StationTable.tally, empty]; rfl
  have table (j : Fin 64) : (s.setEntry i (some e)).stations.tally j =
      if j = i then some (e.address, 0) else s.stations.tally j :=
    zero ▸ StationTable.tally_set s.stations i (some e) j
  refine (openCountsSound_iff _).2 ⟨ledger.insert none (StationTable.lacks_iff.1 lacks) table,
    fun before c after found lost => known before c after found fun j d entry same => ?_⟩
  refine lost j d ?_ same
  have other : j ≠ i := fun at_ => by
    rw [at_, empty] at entry
    nomatch entry
  exact (getElem_set_fin ..).trans ((if_neg other).trans entry)

/-- What changes an entry in place and leaves its address and its count alone. -/
theorem OpenCountsSound.setEntry (h : s.OpenCountsSound) {i : Fin 64} {e : Option StationEntry}
    (same : (e.map fun e => (e.address, e.openCount)) = s.stations.tally i) : (s.setEntry i e).OpenCountsSound :=
  h.of_same rfl (StationTable.tally_set_same same) rfl

theorem OpenCountsSound.foreignCell (h : s.OpenCountsSound) (a : Addr) : (s.foreignCell a).OpenCountsSound :=
  h.of_same (by simp) (by simp [State.foreignCell]; rfl) (openContexts_of_contexts (by simp))

theorem OpenCountsSound.lookupCell (h : s.OpenCountsSound) (k : DataKind) (bytes : List Byte) :
    (s.lookupCell k bytes).OpenCountsSound := by
  unfold State.lookupCell
  dsimp only
  split
  · next i found =>
    obtain ⟨e, entry, address⟩ := entry_of_findStation found
    have aged (e' : StationEntry) (address : e'.address = e.address) (count : e'.openCount = e.openCount) :
        (s.setEntry i (some e')).OpenCountsSound := by
      refine h.setEntry ?_
      rw [StationTable.tally, entry, Option.map_some, Option.map_some, address, count]
    rw [entry]
    dsimp only
    split
    · refine OpenCountsSound.handCell
        (aged { e with age := 0, accepted := satInc e.accepted } rfl rfl) fun lacks => ?_
      exact lacks i { e with age := 0, accepted := satInc e.accepted } ((getElem_set_fin ..).trans (if_pos rfl)) address
    · exact (aged { e with age := 0 } rfl rfl).of_same (by simp) (by simp [blockedCell]; rfl)
        (openContexts_of_contexts (by simp [blockedCell]))
  · next missing =>
    split
    · split
      · next i room =>
        let e := { s.learnedEntry (cellSource bytes) with age := 0, accepted := satInc 0 }
        have posted : (s.postStation .stationLearned (cellSource bytes)).OpenCountsSound :=
          h.of_same (by simp) (by simp) (openContexts_of_contexts (by simp))
        have empty : s.stations.entries[i] = none := Option.isNone_iff_eq_none.1 (firstPlace_some room)
        have inserted := posted.insert (i := i) (e := e) (by simpa using empty)
          (by simpa [e, learnedEntry] using lacks_of_findStation missing) rfl
        refine inserted.handCell fun lacks => ?_
        exact lacks i e ((getElem_set_fin ..).trans (if_pos rfl)) rfl
      · exact h.foreignCell _
    · exact h.foreignCell _

theorem OpenCountsSound.receivedCell (h : s.OpenCountsSound) (u : LaneUnit) : (s.receivedCell u).OpenCountsSound := by
  have counted (f : TrunkReceiver → TrunkReceiver) : (s.changeRx f).OpenCountsSound := h.of_same rfl rfl rfl
  have error (f : TrunkReceiver → TrunkReceiver) {v : State} (hv : v.OpenCountsSound) :
      ((v.changeRx f).post .cellError 0).OpenCountsSound :=
    hv.of_same (by simp) (by simp) (openContexts_of_contexts (by simp))
  unfold State.receivedCell
  split
  · exact h
  · exact h
  · dsimp only
    split
    · exact error _ (counted _)
    · exact error _ (counted _)
    · exact h.of_same rfl rfl rfl
    · exact h.of_same rfl rfl rfl
    · exact error _ (counted _)
    · exact (counted _).lookupCell _ _

/-! ### The entries that go -/

/-- Entries go whose stations have no context and no cell that waits, or whose removal work is handed on. -/
theorem OpenCountsSound.shrink (h : s.OpenCountsSound) (removals : List (List Addr))
    (kept : ∀ (i : Fin 64) p, u.stations.tally i = some p → s.stations.tally i = some p)
    (gone : ∀ (i : Fin 64) e, s.stations.entries[i] = some e → u.stations.tally i = none →
      (∃ l ∈ removals, e.address ∈ l) ∨ (e.openCount = 0 ∧ ∀ c, .cell c ∈ s.stream → c.source ≠ e.address))
    (contexts : u.reassembly.contexts = s.reassembly.contexts)
    (stream : u.stream = s.stream ++ removals.map StreamItem.removal) : u.OpenCountsSound := by
  obtain ⟨ledger, known⟩ := (openCountsSound_iff s).1 h
  have mono (a : Addr) : s.RemovalWaits a → u.RemovalWaits a := fun ⟨l, item, mem⟩ =>
    ⟨l, stream ▸ List.mem_append_left _ item, mem⟩
  have handed {a : Addr} (waits : ∃ l ∈ removals, a ∈ l) : u.RemovalWaits a := by
    obtain ⟨l, item, mem⟩ := waits
    exact ⟨l, stream ▸ List.mem_append_right _ (List.mem_map_of_mem item), mem⟩
  refine (openCountsSound_iff u).2 ⟨?_, fun before c after found lacks => ?_⟩
  · rw [openContexts_of_contexts contexts]
    refine ledger.shrink kept (fun i a n found none => ?_) mono
    obtain ⟨e, entry, rfl, rfl⟩ := StationTable.tally_eq_some.1 found
    obtain waits | ⟨zero, -⟩ := gone i e entry none
    · exact .inl (handed waits)
    · exact .inr zero
  · rw [stream] at found
    obtain last | ⟨r, old, rfl⟩ := mem_split_append found
    · obtain ⟨l, -, other⟩ := List.mem_map.1 last
      nomatch other
    · by_cases lacked : s.stations.Lacks c.source
      · obtain ⟨l, item, mem⟩ := known before c r old lacked
        exact ⟨l, List.mem_append_left _ item, mem⟩
      · simp only [StationTable.Lacks, not_forall, not_not] at lacked
        obtain ⟨i, e, entry, address⟩ := lacked
        have none : u.stations.tally i = none := by
          cases after : u.stations.tally i with
          | none => rfl
          | some p =>
            have same := (kept i p after).symm.trans (StationTable.tally_eq_some.2 ⟨e, entry, address, rfl⟩)
            exact absurd (after.trans same) (StationTable.lacks_iff.1 lacks i e.openCount)
        obtain ⟨l, item, mem⟩ | ⟨-, apart⟩ := gone i e entry none
        · exact ⟨l, List.mem_append_right _ (List.mem_map_of_mem item), address ▸ mem⟩
        · have waits : StreamItem.cell c ∈ s.stream := old ▸ List.mem_append_right _ (List.mem_cons_self ..)
          exact absurd address.symm (apart c waits)

theorem agingTick_entries (s : State) (i : Fin 64) : s.agingTick.stations.entries[i] =
    (s.stations.entries[i].map StationEntry.older).filter fun e => !e.removable s.params.ageLimit := by
  simp only [agingTick_eq, postAged_withEntries, withEntries_entries, sweep_all, getElem_fin_mapTable]

theorem OpenCountsSound.agingTick (h : s.OpenCountsSound) (stale : s.NoStaleCell) : s.agingTick.OpenCountsSound := by
  refine h.shrink [] (fun i p found => ?_) (fun i e entry none => .inr ?_) (by simp) (by simp)
  · obtain ⟨a, n⟩ := p
    obtain ⟨e', left, rfl, rfl⟩ := StationTable.tally_eq_some.1 found
    rw [agingTick_entries, Option.filter_eq_some_iff] at left
    obtain ⟨e, entry, rfl⟩ := Option.map_eq_some_iff.1 left.1
    exact StationTable.tally_eq_some.2 ⟨e, entry, rfl, rfl⟩
  · have removed : e.older.removable s.params.ageLimit = true := by
      rw [StationTable.tally, Option.map_eq_none_iff, agingTick_entries, entry, Option.map_some] at none
      simpa [Option.filter_some] using none
    refine ⟨?_, fun c waits same => ?_⟩
    · have parts := removed
      simp only [StationEntry.removable, Bool.and_eq_true, decide_eq_true_eq] at parts
      exact parts.2
    · exact absurd (removed.symm.trans (stale c waits i e entry same.symm)) nofun

theorem OpenCountsSound.pinStation (h : s.OpenCountsSound) (t : Fin 4) (r : Request) :
    (State.pinStation t r s).1.OpenCountsSound := by
  unfold State.pinStation
  split
  · next a adm _ _ =>
    split
    · refine h.setEntry ?_
      rw [StationTable.tally, Option.map_map]
      rfl
    · next missing =>
      split
      · next room =>
        exact h.insert (Option.isNone_iff_eq_none.1 (firstPlace_some room)) (e := pinnedEntry a adm (r.byte 3))
          (lacks_of_findStation missing) rfl
      · exact h
  · exact h
  · exact h

theorem OpenCountsSound.unpinStation (h : s.OpenCountsSound) (t : Fin 4) (r : Request) :
    (State.unpinStation t r s).1.OpenCountsSound := by
  unfold State.unpinStation
  split
  · exact h
  · split
    · exact h
    · refine h.setEntry ?_
      rw [StationTable.tally, Option.map_map]
      rfl

theorem OpenCountsSound.removeStation (h : s.OpenCountsSound) (t : Fin 4) (r : Request) :
    (State.removeStation t r s).1.OpenCountsSound := by
  unfold State.removeStation
  split
  · exact h
  · next a _ =>
    split
    · exact h
    · next i found =>
      obtain ⟨e, entry, address⟩ := entry_of_findStation found
      refine h.shrink [[a]] (fun j p found => ?_) (fun j d held gone => .inl ⟨[a], List.mem_singleton_self _, ?_⟩)
        rfl rfl
      · have table := (StationTable.tally_set s.stations i none j).symm.trans found
        split at table
        · nomatch table
        · exact table
      · have table := (StationTable.tally_set s.stations i none j).symm.trans gone
        split at table
        · next at_ =>
          rw [at_, entry] at held
          rw [← Option.some.inj held, address]
          exact List.mem_singleton_self _
        · rw [StationTable.tally, held] at table
          nomatch table

theorem OpenCountsSound.flushLearned (h : s.OpenCountsSound) (t : Fin 4) (r : Request) :
    (State.flushLearned t r s).1.OpenCountsSound := by
  have entries (i : Fin 64) : (State.flushLearned t r s).1.stations.entries[i] =
      s.stations.entries[i].filter fun x => decide (x.origin = .pinned) := getElem_fin_mapTable ..
  refine h.shrink [s.learnedAddresses] (fun i p found => ?_)
    (fun i e entry none => .inl ⟨s.learnedAddresses, List.mem_singleton_self _, ?_⟩) rfl rfl
  · obtain ⟨a, n⟩ := p
    obtain ⟨e, left, rfl, rfl⟩ := StationTable.tally_eq_some.1 found
    rw [entries] at left
    exact StationTable.tally_eq_some.2 ⟨e, (Option.filter_eq_some_iff.1 left).1, rfl, rfl⟩
  · rw [StationTable.tally, Option.map_eq_none_iff, entries, entry] at none
    have learned : e.origin = .learned := by
      cases origin : e.origin with
      | learned => rfl
      | pinned => simp [Option.filter_some, origin] at none
    refine List.mem_filterMap.2 ⟨some e, ?_, by simp [learned]⟩
    rw [← entry, Vector.mem_toList_iff]
    exact Vector.getElem_mem _

/-! ### SOFT RESTART and the counters -/

theorem OpenCountsSound.softRestart (h : s.OpenCountsSound) (t : Fin 4) (r : Request) :
    (State.softRestart t r s).1.OpenCountsSound := by
  change s.restartParts.OpenCountsSound
  have entries (i : Fin 64) : s.restartParts.stations.entries[i] =
      s.stations.entries[i].map fun e => { e with openCount := 0 } := by
    simp [restartParts, restartReassembly]
  have stream : s.restartParts.stream = s.stream := by simp [restartParts]
  have none (a : Addr) : s.restartParts.openContexts a = 0 := openContexts_eq_zero.2 fun i => by
    simp [restartParts, restartReassembly, Context.restart, ContextState.openStation]
  refine ⟨fun i e entry _ => ?_, fun i e entry => ?_, fun a _ _ => none a, fun before c after found lacks => ?_⟩
  · rw [entries] at entry
    obtain ⟨d, -, rfl⟩ := Option.map_eq_some_iff.1 entry
    exact (none _).symm
  · rw [entries] at entry
    obtain ⟨d, -, rfl⟩ := Option.map_eq_some_iff.1 entry
    exact Nat.zero_le _
  · refine h.known before c after (stream ▸ found) fun i e entry same => ?_
    exact lacks i { e with openCount := 0 } ((entries i).trans (by rw [entry]; rfl)) same

theorem OpenCountsSound.clearGroup (h : s.OpenCountsSound) (g : Group) : (s.clearGroup g).OpenCountsSound := by
  cases g with
  | station =>
    refine h.of_same rfl (funext fun i => ?_) rfl
    have entries : (s.clearGroup .station).stations.entries[i] = s.stations.entries[i].map StationEntry.clearCounters :=
      getElem_fin_mapTable ..
    rw [StationTable.tally, entries, Option.map_map]
    rfl
  | _ => exact h.of_same rfl rfl rfl

theorem OpenCountsSound.readCounters (h : s.OpenCountsSound) (t : Fin 4) (r : Request) :
    (State.readCounters t r s).1.OpenCountsSound := by
  unfold State.readCounters
  split
  · exact h
  · dsimp only
    split
    · exact h
    · split
      · exact h.clearGroup _
      · exact h

theorem OpenCountsSound.clearCounters (h : s.OpenCountsSound) (t : Fin 4) (r : Request) :
    (State.clearCounters t r s).1.OpenCountsSound := by
  unfold State.clearCounters
  split
  · exact h
  · exact h.clearGroup _

/-! ### Every command -/

theorem openCountsSound_reset : State.reset.OpenCountsSound := by
  have none (a : Addr) : State.reset.openContexts a = 0 := openContexts_eq_zero.2 fun i => by
    simp [State.reset, Context.fresh, ContextState.openStation]
  refine ⟨fun i e entry _ => ?_, fun i e entry => ?_, fun a _ _ => none a, fun before c after found => ?_⟩
  · simp [State.reset] at entry
  · simp [State.reset] at entry
  · simp [State.reset] at found

theorem classifierTake_contexts (s : State) :
    s.classifierTake.reassembly.contexts = s.reassembly.contexts := by
  unfold classifierTake
  split
  · split
    · rfl
    · split <;> rfl
  · rfl
  · rfl

theorem OpenCountsSound.take (h : s.OpenCountsSound) {body : Execution}
    (own : ∀ t r (u : State), u.OpenCountsSound → (body t r u).1.OpenCountsSound) (k : RequestKind) :
    (s.take k body).OpenCountsSound :=
  takeRequest_rel (R := fun s u => s.OpenCountsSound → u.OpenCountsSound) (fun _ h => h) (fun h h' x => h' (h x))
    (fun _ _ h => h.of_same rfl rfl rfl) own k _ s h

theorem OpenCountsSound.after (h : s.OpenCountsSound) (unique : s.stations.Unique) {c : Instr}
    (stale : c = .agingTick → s.NoStaleCell) : (s.after c).OpenCountsSound := by
  cases c with
  | powerOn => exact openCountsSound_reset.of_same rfl rfl rfl
  | trunkLoss => exact h.of_balanced (u := s.trunkLoss) unique (fun _ _ hb => hb.trunkLoss) (by simp)
  | receivedCell u => exact h.receivedCell u
  | dataOnly => exact h.startCell unique .only true
  | dataFirst => exact h.startCell unique .first false
  | dataMiddle => exact h.continueCell unique .middle false
  | dataLast => exact h.continueCell unique .last true
  | gapTimerExpiry i =>
    exact h.of_balanced (u := s.gapTimerExpiry i) unique (fun _ _ hb => hb.gapTimerExpiry i) (by simp)
  | agingTick => exact h.agingTick (stale rfl)
  | classifierTake =>
    exact h.of_same (u := s.classifierTake) (by simp) (by simp) (openContexts_of_contexts (classifierTake_contexts s))
  | classificationEnd =>
    exact h.of_balanced (u := s.classificationEnd) unique (fun _ _ hb => hb.classificationEnd) (by simp)
  | removalWork => exact h.removalWork unique
  | softRestart => exact h.take (fun t r u hu => hu.softRestart t r) _
  | pinStation => exact h.take (fun t r u hu => hu.pinStation t r) _
  | unpinStation => exact h.take (fun t r u hu => hu.unpinStation t r) _
  | removeStation => exact h.take (fun t r u hu => hu.removeStation t r) _
  | flushLearned => exact h.take (fun t r u hu => hu.flushLearned t r) _
  | readCounters => exact h.take (fun t r u hu => hu.readCounters t r) _
  | clearCounters => exact h.take (fun t r u hu => hu.clearCounters t r) _
  | _ =>
    refine keeps_after (P := OpenCountsSound) [.stationTable, .stream, .reassemblyUnit] (fun u v same hu => ?_)
      (by simp [reachOfAny, Instr.reach, Block.hold, Block.uplinkLoss]) h
    have stations : v.stations = u.stations := same .stationTable (by simp)
    have reassembly : v.reassembly = u.reassembly := same .reassemblyUnit (by simp)
    exact hu.of_same (same .stream (by simp)) (by rw [stations]) (openContexts_of_contexts (by rw [reassembly]))

end State

/-- Settles O57: the cells and the timers keep each count with its contexts; an entry that goes has no context, or its
removal work is on its way. -/
theorem stepKeepsTheOpenCountsSound : Obligations.StepKeepsTheOpenCountsSound := by
  intro s t stations counts stale h
  rcases step_cases h with ⟨-, rfl⟩ | ⟨c, rest, front, rfl⟩
  · unfold State.idle
    split
    · exact counts.of_same rfl rfl rfl
    · exact counts.of_same rfl rfl rfl
  · have queued : (s.withPending rest).OpenCountsSound := counts.of_same rfl rfl rfl
    refine queued.after stations.2.1 fun tick => stale ?_
    rw [front, tick]
    rfl

end Sys2Proof.Machine
end

section
/-! Every step keeps the Management Unit sound (R152 to R159): the room of its queues, its rights, and the retry cache. -/

namespace Sys2Proof.Machine

/-- R112, R155: the place in the response queue that a pending COMMIT keeps. -/
def EditState.owed : EditState → Nat
  | .none => 0
  | .editing _ _ _ => 0
  | .committing _ _ _ => 1

/-- R155: the place that a request that is EXECUTING keeps. -/
def UnitState.owed : UnitState → Nat
  | .idle => 0
  | .executing _ _ _ => 1

/-- R158, R159: `Session.Sound` by what it reads. -/
def Session.Settled (x : Session) (t : Fin 4) (e : EditState) (v : UnitState) : Prop :=
  match x.lastSequence with
  | none => x.inProgress = false ∧ x.cached = none ∧ x.awaitsSwap = false
  | some q =>
    if x.inProgress then
      x.cached = none ∧ if x.awaitsSwap then ∃ g, e = .committing t g q else ∃ k, v = .executing t q k
    else x.cached ≠ none ∧ x.awaitsSwap = false

namespace Session.Settled

variable {x y : Session} {t : Fin 4} {e e' : EditState} {v v' : UnitState} {q : U16}

/-- An answered request. -/
theorem of_cached (last : x.lastSequence = some q) (done : x.inProgress = false) (cached : x.cached ≠ none)
    (swapped : x.awaitsSwap = false) : x.Settled t e v := by
  rw [Settled, last, done]
  exact ⟨cached, swapped⟩

theorem of_executing {k : RequestKind} (last : x.lastSequence = some q) (running : x.inProgress = true)
    (cached : x.cached = none) (swapped : x.awaitsSwap = false) (unit : v = .executing t q k) : x.Settled t e v := by
  rw [Settled, last, running, swapped]
  exact ⟨cached, k, unit⟩

theorem of_committing {g : Program} (last : x.lastSequence = some q) (running : x.inProgress = true)
    (cached : x.cached = none) (awaits : x.awaitsSwap = true) (edit : e = .committing t g q) : x.Settled t e v := by
  rw [Settled, last, running, awaits]
  exact ⟨cached, g, edit⟩

/-- R114: a tag that waits for the swap is the tag of the pending COMMIT, and has had no newer request accepted. -/
theorem of_awaits (h : x.Settled t e v) (awaits : x.awaitsSwap = true) :
    ∃ g q, x.lastSequence = some q ∧ e = .committing t g q := by
  unfold Settled at h
  split at h
  · exact absurd (h.2.2.symm.trans awaits) nofun
  · next q last =>
    rw [awaits] at h
    split at h
    · obtain ⟨-, g, edit⟩ := h
      exact ⟨g, q, last, edit⟩
    · exact nomatch h.2

theorem change (h : x.Settled t e v)
    (edit : x.awaitsSwap = true → ∀ g q, x.lastSequence = some q → e = .committing t g q →
      ∃ g', e' = .committing t g' q)
    (unit : x.awaitsSwap = false → x.inProgress = true → ∀ q k, x.lastSequence = some q → v = .executing t q k →
      ∃ k', v' = .executing t q k') : x.Settled t e' v' := by
  unfold Settled at h ⊢
  split at h
  · exact h
  · next q last =>
    split at h
    · next running =>
      rw [if_pos running]
      cases awaits : x.awaitsSwap with
      | true =>
        rw [awaits] at h
        obtain ⟨cached, g, pending⟩ := h
        exact ⟨cached, edit awaits g q last pending⟩
      | false =>
        rw [awaits] at h
        obtain ⟨cached, k, executing⟩ := h
        exact ⟨cached, unit awaits running q k last executing⟩
    · next done =>
      rw [if_neg done]
      exact h

/-- Rights play no part. -/
theorem of_same (h : x.Settled t e v) (last : y.lastSequence = x.lastSequence) (running : y.inProgress = x.inProgress)
    (cached : y.cached = x.cached) (awaits : y.awaitsSwap = x.awaitsSwap) : y.Settled t e v := by
  unfold Settled at h ⊢
  rwa [last, running, cached, awaits]

end Session.Settled

/-- R152: the rights of the four tags. -/
def RightsOf (x : Vector Session 4) : Prop :=
  x[(0 : Fin 4)].rights = .all ∧ ∀ t : Fin 4, t ≠ 0 → x[t].rights.supervisor = false

theorem RightsOf.set {x : Vector Session 4} (h : RightsOf x) {t : Fin 4} {y : Session}
    (same : y.rights = x[t].rights) : RightsOf (x.set t y) := by
  have rights (j : Fin 4) : (x.set t y)[j].rights = x[j].rights := by
    rw [getElem_set_fin]
    split
    · next at_ => rw [same, at_]
    · rfl
  exact ⟨(rights 0).trans h.1, fun j other => by rw [rights]; exact h.2 j other⟩

namespace Management

/-- `State.ManagementSound` by what it reads: the unit and the edit state. -/
structure SoundWith (m : Management) (e : EditState) : Prop where
  fifo : m.fifo.length ≤ 8
  room : m.responses.length + e.owed + m.unit.owed ≤ 8
  rights : RightsOf m.sessions
  retry : ∀ t : Fin 4, m.sessions[t].Settled t e m.unit

/-- R155, R159: between the acceptance of request `q` of tag `t` and its answer. -/
structure AcceptedWith (m : Management) (e : EditState) (t : Fin 4) (q : U16) : Prop where
  fifo : m.fifo.length ≤ 8
  room : m.responses.length + e.owed + 1 ≤ 8
  idle : m.unit = .idle
  rights : RightsOf m.sessions
  last : m.sessions[t].lastSequence = some q
  running : m.sessions[t].inProgress = true
  cached : m.sessions[t].cached = none
  swapped : m.sessions[t].awaitsSwap = false
  others : ∀ j : Fin 4, j ≠ t → m.sessions[j].Settled j e .idle

variable {m : Management} {e e' : EditState} {t : Fin 4} {q : U16}

/-- The unit with the tags but `t` as they are. -/
theorem settled_set {x : Session} {v : UnitState} (own : x.Settled t e v)
    (others : ∀ j : Fin 4, j ≠ t → m.sessions[j].Settled j e v) (j : Fin 4) : (m.sessions.set t x)[j].Settled j e v := by
  rw [getElem_set_fin]
  split
  · next at_ => exact at_ ▸ own
  · next other => exact others j other

/-- R159: the answer of an accepted request. -/
theorem AcceptedWith.answered (h : m.AcceptedWith e t q) (r : Response) (c : CachedResponse) :
    ({ m with responses := m.responses ++ [r], sessions := m.sessions.set t { m.sessions[t] with
        inProgress := false, cached := some c, awaitsSwap := false } } : Management).SoundWith e := by
  refine ⟨h.fifo, ?_, h.rights.set rfl, settled_set (.of_cached h.last rfl nofun rfl) fun j other => ?_⟩
  · have room := h.room
    rw [h.idle, List.length_append]
    show m.responses.length + 1 + e.owed + 0 ≤ 8
    omega
  · exact h.idle ▸ h.others j other

/-- R28, R29, R155: the request waits for its removal work. -/
theorem AcceptedWith.executing (h : m.AcceptedWith e t q) (k : RequestKind) :
    ({ m with unit := .executing t q k } : Management).SoundWith e := by
  refine ⟨h.fifo, h.room, h.rights, fun j => ?_⟩
  by_cases own : j = t
  · subst own
    exact .of_executing h.last h.running h.cached h.swapped rfl
  · exact (h.others j own).change (fun _ g q _ pending => ⟨g, pending⟩) fun _ _ _ _ _ none => nomatch none

/-- An edit state in which no COMMIT is pending. -/
theorem AcceptedWith.edit (h : m.AcceptedWith e t q) (none : e.owed = 0) (none' : e'.owed = 0) :
    m.AcceptedWith e' t q := by
  refine { h with room := by have room := h.room; omega, others := fun j other => ?_ }
  refine (h.others j other).change (fun _ g q _ pending => ?_) fun _ _ _ _ _ none => nomatch none
  rw [pending] at none
  nomatch none

/-- R110, R112: the accepted request is the COMMIT that becomes pending. -/
theorem AcceptedWith.committing (h : m.AcceptedWith e t q) (none : e.owed = 0) (g : Program) :
    ({ m with sessions := m.sessions.set t { m.sessions[t] with awaitsSwap := true } } : Management).SoundWith
      (.committing t g q) := by
  have room := h.room
  rw [none] at room
  refine ⟨h.fifo, by rw [h.idle]; exact room, h.rights.set rfl,
    settled_set (.of_committing h.last h.running h.cached rfl rfl) fun j other => ?_⟩
  rw [h.idle]
  refine (h.others j other).change (fun _ g q _ pending => ?_) fun _ _ _ _ _ none => nomatch none
  rw [pending] at none
  nomatch none

/-- R114, R116, R159: the deferred answer `c` of the COMMIT `q` of tag `t`, where the tag still waits for it. -/
def deferred (m : Management) (t : Fin 4) (q : U16) (c : CachedResponse) : Management :=
  if m.sessions[t].awaitsSwap = true ∧ m.sessions[t].lastSequence = some q then
    { m with sessions := m.sessions.set t { m.sessions[t] with
        inProgress := false, cached := some c, awaitsSwap := false } }
  else m

variable {g : Program} {c : CachedResponse}

theorem deferred_fifo : (m.deferred t q c).fifo = m.fifo := by
  rw [deferred]
  split <;> rfl

theorem deferred_responses : (m.deferred t q c).responses = m.responses := by
  rw [deferred]
  split <;> rfl

theorem deferred_unit : (m.deferred t q c).unit = m.unit := by
  rw [deferred]
  split <;> rfl

theorem deferred_other {j : Fin 4} (other : j ≠ t) : (m.deferred t q c).sessions[j] = m.sessions[j] := by
  rw [deferred]
  split
  · exact (getElem_set_fin ..).trans (if_neg other)
  · rfl

/-- A tag that is not waiting for the swap keeps its entry. -/
theorem deferred_of_not_awaits (h : m.sessions[t].awaitsSwap = false) : m.deferred t q c = m :=
  if_neg fun both => nomatch both.1.symm.trans h

theorem deferred_rights (h : RightsOf m.sessions) : RightsOf (m.deferred t q c).sessions := by
  rw [deferred]
  split
  · exact h.set rfl
  · exact h

/-- With the deferred answer recorded no tag waits for a swap. -/
theorem deferred_settled {j : Fin 4} {v : UnitState} (h : m.sessions[j].Settled j (.committing t g q) v) :
    (m.deferred t q c).sessions[j].Settled j .none v := by
  by_cases own : j = t
  · subst own
    rw [deferred]
    split
    · next waits => exact (getElem_set_fin ..).trans (if_pos rfl) ▸ .of_cached waits.2 rfl nofun rfl
    · next stays =>
      refine h.change (fun awaits g q last pending => ?_) fun _ _ _ k _ unit => ⟨k, unit⟩
      cases pending
      exact absurd ⟨awaits, last⟩ stays
  · rw [deferred_other own]
    refine h.change (fun _ g q _ pending => ?_) fun _ _ _ k _ unit => ⟨k, unit⟩
    cases pending
    exact absurd rfl own

/-- R114: the deferred response of the pending COMMIT takes the place kept for it. -/
theorem SoundWith.deferred (h : m.SoundWith (.committing t g q)) (r : Response) :
    (Management.deferred { m with responses := m.responses ++ [r] } t q c).SoundWith .none := by
  refine ⟨deferred_fifo.symm ▸ h.fifo, ?_, deferred_rights h.rights, fun j => ?_⟩
  · have room : m.responses.length + 1 + m.unit.owed ≤ 8 := h.room
    rw [deferred_responses, deferred_unit, List.length_append]
    show m.responses.length + 1 + 0 + m.unit.owed ≤ 8
    omega
  · rw [deferred_unit]
    exact deferred_settled (h.retry j)

/-- R116: the restart drops the pending COMMIT while another request is being carried out. -/
theorem AcceptedWith.deferred {j : Fin 4} {y : U16} (h : m.AcceptedWith (.committing t g q) j y) :
    (m.deferred t q c).AcceptedWith .none j y := by
  have own : (m.deferred t q c).sessions[j] = m.sessions[j] := by
    by_cases same : j = t
    · rw [deferred_of_not_awaits (same ▸ h.swapped)]
    · exact deferred_other same
  refine ⟨deferred_fifo.symm ▸ h.fifo, ?_, deferred_unit.trans h.idle, deferred_rights h.rights, own ▸ h.last,
    own ▸ h.running, own ▸ h.cached, own ▸ h.swapped, fun i other => deferred_settled (h.others i other)⟩
  have room : m.responses.length + 1 + 1 ≤ 8 := h.room
  rw [deferred_responses]
  show m.responses.length + 0 + 1 ≤ 8
  omega

theorem restartedManagement_accepted (h : m.AcceptedWith e t q) :
    (State.restartedManagement e m).AcceptedWith .none t q := by
  cases e with
  | none => exact h
  | editing => exact h.edit rfl rfl
  | committing => exact AcceptedWith.deferred h

/-- With the removal answered no tag is in progress but the one that waits for the swap. -/
theorem removalAnswered_settled {k : RequestKind} {data : List Byte} {j : Fin 4}
    (h : m.sessions[j].Settled j e (.executing t q k)) :
    (m.removalAnswered t q k data).sessions[j].Settled j e .idle := by
  by_cases own : j = t
  · subst own
    rw [removalAnswered]
    split
    · next answered => exact (getElem_set_fin ..).trans (if_pos rfl) ▸ .of_cached answered rfl nofun rfl
    · next stays =>
      refine h.change (fun _ g _ _ pending => ⟨g, pending⟩) fun _ _ _ _ last unit => ?_
      cases unit
      exact absurd last stays
  · have same : (m.removalAnswered t q k data).sessions[j] = m.sessions[j] := by
      rw [removalAnswered]
      split
      · exact (getElem_set_fin ..).trans (if_neg own)
      · rfl
    rw [same]
    refine h.change (fun _ g _ _ pending => ⟨g, pending⟩) fun _ _ _ _ _ unit => ?_
    cases unit
    exact absurd rfl own

/-- R28, R29: the answer of a removal takes the place kept for it. -/
theorem SoundWith.removalAnswered {k : RequestKind} {data : List Byte} (h : m.SoundWith e)
    (unit : m.unit = .executing t q k) : (m.removalAnswered t q k data).SoundWith e := by
  have room : m.responses.length + e.owed + 1 ≤ 8 := by
    have room := h.room
    rwa [unit] at room
  have retry (j : Fin 4) : (m.removalAnswered t q k data).sessions[j].Settled j e .idle :=
    removalAnswered_settled (unit ▸ h.retry j)
  have longer (r : Response) : (m.responses ++ [r]).length + e.owed + UnitState.idle.owed ≤ 8 := by
    rw [List.length_append]
    exact (by omega : m.responses.length + 1 + e.owed + 0 ≤ 8)
  revert retry
  rw [Management.removalAnswered]
  split
  · exact fun retry => ⟨h.fifo, longer _, h.rights.set rfl, retry⟩
  · exact fun retry => ⟨h.fifo, longer _, h.rights, retry⟩

/-- An edit state in which no COMMIT is pending. -/
theorem SoundWith.edit (h : m.SoundWith e) (none : e.owed = 0) (none' : e'.owed = 0) : m.SoundWith e' := by
  refine ⟨h.fifo, by have room := h.room; omega, h.rights, fun j => ?_⟩
  refine (h.retry j).change (fun _ g q _ pending => ?_) fun _ _ _ k _ unit => ⟨k, unit⟩
  rw [pending] at none
  nomatch none

/-- R115, R167: UPLINK LOSS empties the queues and ends a session that no COMMIT has closed. -/
theorem SoundWith.lose (h : m.SoundWith e) :
    ({ m with fifo := [], responses := [] } : Management).SoundWith e.lose := by
  have room := h.room
  have kept : ({ m with fifo := [], responses := [] } : Management).SoundWith e :=
    ⟨Nat.zero_le 8, by show 0 + e.owed + m.unit.owed ≤ 8; omega, h.rights, h.retry⟩
  cases e with
  | none => exact kept
  | editing => exact kept.edit rfl rfl
  | committing => exact kept

/-- R152, R164: rights are set for a tag but tag 0, and none of them is SUPERVISOR. -/
theorem AcceptedWith.setRights (h : m.AcceptedWith e t q) {j : Fin 4} (other : j ≠ 0) {x : Rights}
    (below : x.supervisor = false) :
    ({ m with sessions := m.sessions.set j { m.sessions[j] with rights := x } } : Management).AcceptedWith e t q := by
  have entry (i : Fin 4) : (m.sessions.set j { m.sessions[j] with rights := x })[i] =
      { m.sessions[i] with rights := if i = j then x else m.sessions[i].rights } := by
    rw [getElem_set_fin]
    split
    · next same => rw [same]
    · rfl
  refine ⟨h.fifo, h.room, h.idle, ⟨?_, fun i ne => ?_⟩, by rw [entry]; exact h.last, by rw [entry]; exact h.running,
    by rw [entry]; exact h.cached, by rw [entry]; exact h.swapped, fun i ne => ?_⟩
  · rw [entry]
    exact (if_neg other.symm).trans h.rights.1
  · rw [entry]
    dsimp only
    split
    · exact below
    · exact h.rights.2 i ne
  · exact (h.others i ne).of_same (by rw [entry]) (by rw [entry]) (by rw [entry]) (by rw [entry])

end Management

namespace State

variable {s u : State} {t : Fin 4} {q : U16}

theorem commitPlace_eq (s : State) : (if s.commitPending = true then 1 else 0) = s.program.edit.owed := by
  rw [commitPending]
  cases s.program.edit <;> rfl

theorem unitPlace_eq (x : UnitState) : (if x = .idle then 0 else 1) = x.owed := by
  cases x <;> simp [UnitState.owed]

theorem managementSound_iff : s.ManagementSound ↔ s.management.SoundWith s.program.edit := by
  have room : s.QueuesBounded ↔ s.management.fifo.length ≤ 8 ∧
      s.management.responses.length + s.program.edit.owed + s.management.unit.owed ≤ 8 := by
    rw [QueuesBounded, commitPlace_eq, unitPlace_eq]
  exact ⟨fun h => ⟨(room.1 h.queues).1, (room.1 h.queues).2, h.rights, h.retry⟩,
    fun h => ⟨room.2 ⟨h.fifo, h.room⟩, h.rights, h.retry⟩⟩

theorem ManagementSound.of_same (h : s.ManagementSound) (management : u.management = s.management)
    (edit : u.program.edit = s.program.edit) : u.ManagementSound := by
  rw [managementSound_iff] at h ⊢
  rwa [management, edit]

/-- R155, R159: between the acceptance of request `q` of tag `t` and its answer. -/
def Accepted (t : Fin 4) (q : U16) (s : State) : Prop := s.management.AcceptedWith s.program.edit t q

theorem Accepted.of_same (h : s.Accepted t q) (management : u.management = s.management)
    (edit : u.program.edit = s.program.edit) : u.Accepted t q := by
  rw [Accepted] at h ⊢
  rwa [management, edit]

/-! ### Taking a request -/

/-- R112, R155: a take leaves a place for its answer beside the one kept for a pending COMMIT. -/
theorem room_of_waits {r : Request} (h : s.Waits r) :
    s.management.responses.length + s.program.edit.owed + 1 ≤ 8 := by
  have below : s.management.responses.length < s.responseLimit := h.1.2
  rw [responseLimit, commitPending] at below
  cases edit : s.program.edit <;> rw [edit] at below <;> simp [EditState.owed] at below ⊢ <;> omega

theorem ManagementSound.acceptRequest (h : s.ManagementSound) {r : Request} (waits : s.Waits r) (t : Fin 4) :
    (s.acceptRequest t r).Accepted t r.sequence := by
  have h := managementSound_iff.1 h
  have unit : s.management.unit = .idle := waits.1.1
  have room := room_of_waits waits
  have own : (s.acceptRequest t r).management.sessions[t] = { s.session t with
      lastSequence := some r.sequence, inProgress := true, cached := none, awaitsSwap := false } :=
    (getElem_set_fin ..).trans (if_pos rfl)
  refine ⟨?_, room, unit, h.rights.set rfl, by rw [own], by rw [own], by rw [own], by rw [own],
    fun j other => ?_⟩
  · exact (List.tail_sublist _).length_le.trans h.fifo
  · have same : (s.acceptRequest t r).management.sessions[j] = s.management.sessions[j] :=
      (getElem_set_fin ..).trans (if_neg other)
    exact same ▸ unit ▸ h.retry j

theorem Accepted.respond (h : s.Accepted t q) (kind : Byte) (st : Status) (data : List Byte) :
    (s.respond t q kind st data).ManagementSound := by
  rw [managementSound_iff, State.respond, cacheResponse, if_pos (by exact h.last)]
  exact h.answered _ _

/-- What the block of an accepted request leaves behind: the request still to be answered, or the sound unit. -/
def Carried (t : Fin 4) (q : U16) (x : State × Reply) : Prop :=
  match x.2 with
  | .now _ _ => x.1.Accepted t q
  | .later => x.1.ManagementSound

theorem Accepted.reply (h : s.Accepted t q) (st : Status) (data : List Byte) : Carried t q (s.reply st data) := h

theorem ManagementSound.takeRequest (h : s.ManagementSound) {body : Execution}
    (own : ∀ t r (u : State), u.Accepted t r.sequence → Carried t r.sequence (body t r u)) (k : RequestKind)
    (applies : Request → Bool) : (s.takeRequest k applies body).ManagementSound := by
  rcases takeRequest_cases k applies body s with
    same | ⟨t, r, take, ⟨st, e⟩ | ⟨u, st, data, carried, e⟩ | ⟨u, carried, e⟩⟩
  · rwa [same]
  all_goals
    have due := due_of_nextTake take
    have accepted := h.acceptRequest ⟨due.canTake, due.head⟩ t
    rw [e]
  · exact accepted.respond ..
  · have answer := own t r _ accepted
    rw [carried] at answer
    exact Accepted.respond answer ..
  · have answer := own t r _ accepted
    rw [carried] at answer
    exact answer

/-! ### The unit's own takes -/

theorem ManagementSound.popRequest (h : s.ManagementSound) : s.popRequest.ManagementSound := by
  rw [managementSound_iff] at h ⊢
  exact ⟨(List.tail_sublist _).length_le.trans h.fifo, h.room, h.rights, h.retry⟩

/-- R154: a response for which there is room. -/
theorem ManagementSound.queueResponse (h : s.ManagementSound) (idle : s.management.unit = .idle)
    (room : s.management.responses.length + s.program.edit.owed + 1 ≤ 8) (r : Response) :
    (s.queueResponse r).ManagementSound := by
  rw [managementSound_iff] at h ⊢
  refine ⟨h.fifo, ?_, h.rights, h.retry⟩
  show (s.management.responses ++ [r]).length + s.program.edit.owed + s.management.unit.owed ≤ 8
  rw [idle, List.length_append]
  show s.management.responses.length + 1 + s.program.edit.owed + 0 ≤ 8
  omega

theorem ManagementSound.badTag (h : s.ManagementSound) : s.badTag.ManagementSound := by
  unfold State.badTag
  split
  · next r take =>
    obtain ⟨x, waits, -⟩ := waits_of_nextTake (s := s) (by rw [take]; nofun)
    have room := room_of_waits waits
    exact h.popRequest.queueResponse waits.1.1 room _
  all_goals exact h

theorem ManagementSound.answerRetry (h : s.ManagementSound) {x : Request} (waits : s.Waits x) (t : Fin 4)
    (r : Request) : (s.answerRetry t r).ManagementSound := by
  have room := room_of_waits waits
  unfold State.answerRetry
  split
  · exact h.popRequest
  · split
    · next c _ => cases c <;> exact h.popRequest.queueResponse waits.1.1 room _
    · exact h.popRequest

theorem ManagementSound.retryMatch (h : s.ManagementSound) : s.retryMatch.ManagementSound := by
  unfold State.retryMatch
  split
  · next t r take =>
    obtain ⟨x, waits, -⟩ := waits_of_nextTake (s := s) (by rw [take]; nofun)
    exact h.answerRetry waits t r
  all_goals exact h

theorem ManagementSound.badKind (h : s.ManagementSound) : s.badKind.ManagementSound := by
  unfold State.badKind
  split
  · next t r take =>
    obtain ⟨x, waits, same⟩ := waits_of_nextTake (s := s) (by rw [take]; nofun)
    obtain rfl : x = r := by
      rw [take, classify] at same
      split at same
      · nomatch same
      · split at same
        · nomatch same
        · split at same
          · cases same
            rfl
          · nomatch same
    exact (h.acceptRequest waits t).respond ..
  all_goals exact h

theorem ManagementSound.arriveRequest (h : s.ManagementSound) (r : Request) : (s.arriveRequest r).ManagementSound := by
  have sound := managementSound_iff.1 h
  unfold State.arriveRequest
  split
  · next room =>
    refine managementSound_iff.2 ⟨?_, sound.room, sound.rights, sound.retry⟩
    show (s.management.fifo ++ [r]).length ≤ 8
    rw [List.length_append]
    exact room
  · have dropped : (s.withManagement { s.management with dropped := satInc s.management.dropped }).ManagementSound :=
      managementSound_iff.2 ⟨sound.fifo, sound.room, sound.rights, sound.retry⟩
    exact dropped.of_same (by simp) (by simp)

theorem ManagementSound.responseFrameEnd (h : s.ManagementSound) : s.responseFrameEnd.ManagementSound := by
  have sound := managementSound_iff.1 h
  unfold State.responseFrameEnd
  split
  · refine managementSound_iff.2 ⟨sound.fifo, ?_, sound.rights, sound.retry⟩
    have room := sound.room
    have shorter := (List.tail_sublist s.management.responses).length_le
    show s.management.responses.tail.length + s.program.edit.owed + s.management.unit.owed ≤ 8
    omega
  all_goals exact h

theorem ManagementSound.answerRemoval (h : s.ManagementSound) (stations : List Addr) (n : Nat) :
    (s.answerRemoval stations n).ManagementSound := by
  cases unit : s.management.unit with
  | idle => rwa [answerRemoval_of_idle unit]
  | executing t q k =>
    rw [answerRemoval_of_executing unit]
    exact managementSound_iff.2 ((managementSound_iff.1 h).removalAnswered unit)

theorem ManagementSound.removalWork (h : s.ManagementSound) : s.removalWork.ManagementSound := by
  unfold State.removalWork
  split
  · exact (h.of_same (by simp) (by simp) : ManagementSound _).answerRemoval ..
  · exact h
  · exact h

/-! ### The end of an editing session -/

theorem respondDeferred_deferred (t : Fin 4) (q : U16) (data : List Byte) (s : State) : s.respondDeferred t q data =
    s.withManagement (Management.deferred { s.management with responses := s.management.responses
      ++ [⟨natByte t.val, q, 0x27, .ok, data⟩] } t q (cacheEntry 0x27 .ok data)) :=
  respondDeferred_eq t q data s

theorem ManagementSound.swap (h : s.ManagementSound) : s.swap.ManagementSound := by
  have sound := managementSound_iff.1 h
  unfold State.swap
  split
  · next t g q edit _ =>
    rw [edit] at sound
    rw [respondDeferred_deferred, managementSound_iff]
    simpa using sound.deferred _
  · exact h
  · exact h
  · exact h

theorem ManagementSound.idleTimerExpiry (h : s.ManagementSound) : s.idleTimerExpiry.ManagementSound := by
  have sound := managementSound_iff.1 h
  unfold State.idleTimerExpiry
  split
  · next edit =>
    split
    · have ended : (s.setEdit .none).ManagementSound :=
        managementSound_iff.2 (sound.edit (by rw [edit]; rfl) rfl)
      exact ended.of_same (by simp) (by simp)
    · exact h
  · exact h
  · exact h

theorem ManagementSound.uplinkDown (h : s.ManagementSound) : s.uplinkDown.ManagementSound := by
  unfold State.uplinkDown
  split
  · exact h
  · exact h.of_same rfl rfl
  · have management : s.uplinkLoss.management = { s.management with fifo := [], responses := [] } := by
      simp [uplinkLoss, loseManagement, loseEvents, loseProgram, apply_ite]
    have edit : s.uplinkLoss.program.edit = s.program.edit.lose := by simp [uplinkLoss, loseProgram]
    rw [managementSound_iff, management, edit]
    exact (managementSound_iff.1 h).lose

theorem ManagementSound.classificationEnd (h : s.ManagementSound) : s.classificationEnd.ManagementSound := by
  refine h.of_same (by simp) ?_
  unfold State.classificationEnd
  split
  · rfl
  · split
    · split
      · simp [endEvaluated, countHits]
      · simp [endDamaged]
    · rfl
    · rfl
    · rfl

theorem ManagementSound.receiveUplinkUnit (h : s.ManagementSound) (x : LaneUnit) :
    (s.receiveUplinkUnit x).ManagementSound := by
  rw [receiveUplinkUnit_eq]
  split
  · cases checkInbound x with
    | request r => exact h.arriveRequest r
    | error d => exact h.of_same (by simp [takeInbound]) (by simp [takeInbound])
    | credit n k => exact h.of_same (by simp [takeInbound]) (by simp [takeInbound])
  · exact h

theorem managementSound_reset : State.reset.ManagementSound := by
  have fresh (t : Fin 4) : State.reset.management.sessions[t].lastSequence = none ∧
      State.reset.management.sessions[t].inProgress = false ∧ State.reset.management.sessions[t].cached = none ∧
      State.reset.management.sessions[t].awaitsSwap = false := by
    revert t
    decide
  refine managementSound_iff.2 ⟨Nat.zero_le 8, Nat.zero_le 8, ⟨rfl, by decide⟩, fun t => ?_⟩
  obtain ⟨last, rest⟩ := fresh t
  rw [Session.Settled, last]
  exact rest

/-! ### The requests -/

/-- A block answers and leaves the Management Unit and the edit state alone. -/
theorem Accepted.answer (h : s.Accepted t q) (st : Status) (data : List Byte)
    (management : u.management = s.management) (edit : u.program.edit = s.program.edit) :
    Carried t q (u.reply st data) :=
  h.of_same management edit

theorem Accepted.getParam (h : s.Accepted t q) (r : Request) : Carried t q (State.getParam t r s) := by
  unfold State.getParam
  split <;> exact h

theorem Accepted.setParam (h : s.Accepted t q) (r : Request) : Carried t q (State.setParam t r s) := by
  unfold State.setParam
  split
  · exact h.answer _ _ (by simp) (by simp)
  · exact h

theorem Accepted.setRights (h : s.Accepted t q) (r : Request) : Carried t q (State.setRights t r s) := by
  unfold State.setRights
  split
  · exact h
  · split
    · next allowed => exact Management.AcceptedWith.setRights h allowed.1 rfl
    · exact h

theorem Accepted.softRestart (h : s.Accepted t q) (r : Request) : Carried t q (State.softRestart t r s) := by
  have management : s.restartParts.management = restartedManagement s.program.edit s.management := by
    simp [restartParts, restartProgram_eq]
  have edit : s.restartParts.program.edit = .none := by
    simp [restartParts, restartProgram_eq, setEdit]
  show s.restartParts.management.AcceptedWith s.restartParts.program.edit t q
  rw [management, edit]
  exact Management.restartedManagement_accepted h

theorem Accepted.readStation (h : s.Accepted t q) (r : Request) : Carried t q (State.readStation t r s) := by
  unfold State.readStation
  split
  · exact h
  · split
    · exact h
    · split <;> exact h

theorem Accepted.listStations (h : s.Accepted t q) (r : Request) : Carried t q (State.listStations t r s) := by
  unfold State.listStations
  split <;> exact h

theorem Accepted.pinStation (h : s.Accepted t q) (r : Request) : Carried t q (State.pinStation t r s) := by
  unfold State.pinStation
  split
  · split
    · exact h
    · split <;> exact h
  · exact h
  · exact h

theorem Accepted.unpinStation (h : s.Accepted t q) (r : Request) : Carried t q (State.unpinStation t r s) := by
  unfold State.unpinStation
  split
  · exact h
  · split <;> exact h

theorem Accepted.handRemoval {r : Request} (h : s.Accepted t r.sequence) (k : RequestKind) (stations : List Addr) :
    Carried t r.sequence (s.handRemoval t r k stations) :=
  managementSound_iff.2 (h.executing k)

theorem Accepted.removeStation {r : Request} (h : s.Accepted t r.sequence) :
    Carried t r.sequence (State.removeStation t r s) := by
  unfold State.removeStation
  split
  · exact h
  · next a _ =>
    split
    · exact h
    · next i _ => exact (h.of_same rfl rfl : (s.setEntry i none).Accepted t r.sequence).handRemoval ..

theorem Accepted.flushLearned {r : Request} (h : s.Accepted t r.sequence) :
    Carried t r.sequence (State.flushLearned t r s) :=
  managementSound_iff.2 (h.executing .flushLearned)

theorem Accepted.readContext (h : s.Accepted t q) (r : Request) : Carried t q (State.readContext t r s) := by
  unfold State.readContext
  split <;> exact h

theorem Accepted.readClauseActive (h : s.Accepted t q) (r : Request) :
    Carried t q (State.readClauseActive t r s) := by
  unfold State.readClauseActive
  split <;> exact h

theorem Accepted.readClauseStaging (h : s.Accepted t q) (r : Request) :
    Carried t q (State.readClauseStaging t r s) := by
  unfold State.readClauseStaging
  split <;> exact h

/-- R102, R109: a session without a pending COMMIT begins, changes or ends. -/
theorem Accepted.setEdit (h : s.Accepted t q) (none : s.program.edit.owed = 0) {e : EditState} (none' : e.owed = 0) :
    (s.setEdit e).Accepted t q :=
  Management.AcceptedWith.edit h none none'

theorem Accepted.openEdit (h : s.Accepted t q) (r : Request) : Carried t q (State.openEdit t r s) := by
  unfold State.openEdit
  split
  · next edit => exact h.setEdit (by rw [edit]; rfl) rfl
  · exact h
  · exact h

/-- R101: a request of the session's holder acts on the staging program, or is refused. -/
theorem Accepted.forHolder (h : s.Accepted t q) {f : Program → State → State × Reply}
    (own : ∀ g, s.program.edit.owed = 0 → Carried t q (f g s)) : Carried t q (s.forHolder t f) := by
  unfold State.forHolder
  split
  · exact h
  · next edit =>
    split
    · exact own _ (by rw [edit]; rfl)
    · exact h
  · split <;> exact h

theorem Accepted.writeStaging (h : s.Accepted t q) (f : Program → Program) : Carried t q (s.writeStaging t f) :=
  h.forHolder fun _ none => h.setEdit none rfl

theorem Accepted.writeClause (h : s.Accepted t q) (r : Request) : Carried t q (State.writeClause t r s) := by
  unfold State.writeClause
  split
  · exact h
  · exact h.writeStaging _

theorem Accepted.setDefault (h : s.Accepted t q) (r : Request) : Carried t q (State.setDefault t r s) := by
  unfold State.setDefault
  split
  · exact h
  · exact h.writeStaging _

theorem Accepted.setCount (h : s.Accepted t q) (r : Request) : Carried t q (State.setCount t r s) := by
  unfold State.setCount
  split
  · exact h.writeStaging _
  · exact h

/-- R110, R113: a valid program makes the COMMIT pending, and may be swapped at once. -/
theorem Accepted.commit {r : Request} (h : s.Accepted t r.sequence) : Carried t r.sequence (State.commit t r s) := by
  refine h.forHolder fun g none => ?_
  split
  · exact h.setEdit none rfl
  · have pending : ((s.setEdit (.committing t g r.sequence)).awaitSwap t).ManagementSound :=
      managementSound_iff.2 (Management.AcceptedWith.committing h none g)
    exact pending.swap

theorem Accepted.abortEdit (h : s.Accepted t q) (r : Request) : Carried t q (State.abortEdit t r s) :=
  h.forHolder fun _ none => h.setEdit none rfl

theorem Accepted.forQueue (h : s.Accepted t q) (r : Request) {f : Fin 8 → State → State × Reply}
    (own : ∀ i, Carried t q (f i s)) : Carried t q (s.forQueue r f) := by
  unfold State.forQueue
  split
  · exact h
  · exact own _

theorem Accepted.flushQueue (h : s.Accepted t q) (r : Request) : Carried t q (State.flushQueue t r s) :=
  h.forQueue r fun _ => h.answer _ _ (by simp) (by simp)

theorem Accepted.sendHold (h : s.Accepted t q) (r : Request) : Carried t q (State.sendHold t r s) := by
  unfold State.sendHold
  split
  · exact h
  · split
    · exact h
    · exact h.answer _ _ (by simp) (by simp)

theorem Accepted.sendRelease (h : s.Accepted t q) (r : Request) : Carried t q (State.sendRelease t r s) := by
  unfold State.sendRelease
  split
  · exact h
  · exact h.answer _ _ (by simp) (by simp)
  · exact h

theorem Accepted.setEvents (h : s.Accepted t q) (r : Request) : Carried t q (State.setEvents t r s) := by
  unfold State.setEvents
  split
  · exact h
  · split
    · exact h
    · split <;> exact h

/-- R177, R179: among the counters cleared is that of the dropped requests. -/
theorem Accepted.clearGroup (h : s.Accepted t q) (g : Group) : (s.clearGroup g).Accepted t q := by
  cases g with
  | link => exact { h with }
  | _ => exact h

theorem Accepted.readCounters (h : s.Accepted t q) (r : Request) : Carried t q (State.readCounters t r s) := by
  unfold State.readCounters
  split
  · exact h
  · dsimp only
    split
    · exact h
    · split
      · exact h.clearGroup _
      · exact h

theorem Accepted.clearCounters (h : s.Accepted t q) (r : Request) : Carried t q (State.clearCounters t r s) := by
  unfold State.clearCounters
  split
  · exact h
  · exact h.clearGroup _

theorem ManagementSound.after (h : s.ManagementSound) (c : Instr) : (s.after c).ManagementSound := by
  cases c with
  | powerOn => exact managementSound_reset.of_same rfl rfl
  | classificationEnd => exact h.classificationEnd
  | swap => exact h.swap
  | idleTimerExpiry => exact h.idleTimerExpiry
  | trainingFailure => exact h.uplinkDown
  | lossOfSignal => exact h.uplinkDown
  | requestFrame x => exact h.receiveUplinkUnit x
  | creditFrame x => exact h.receiveUplinkUnit x
  | uplinkFrameError x => exact h.receiveUplinkUnit x
  | responseFrameEnd => exact h.responseFrameEnd
  | removalWork => exact h.removalWork
  | badTag => exact h.badTag
  | retryMatch => exact h.retryMatch
  | badKind => exact h.badKind
  | getStatus => exact h.takeRequest (body := State.getStatus) (fun _ _ _ hu => hu) _ _
  | getParam => exact h.takeRequest (fun _ r _ hu => hu.getParam r) _ _
  | setParam => exact h.takeRequest (fun _ r _ hu => hu.setParam r) _ _
  | setRights => exact h.takeRequest (fun _ r _ hu => hu.setRights r) _ _
  | softRestart => exact h.takeRequest (fun _ r _ hu => hu.softRestart r) _ _
  | readStation => exact h.takeRequest (fun _ r _ hu => hu.readStation r) _ _
  | listStations => exact h.takeRequest (fun _ r _ hu => hu.listStations r) _ _
  | pinStation => exact h.takeRequest (fun _ r _ hu => hu.pinStation r) _ _
  | unpinStation => exact h.takeRequest (fun _ r _ hu => hu.unpinStation r) _ _
  | removeStation => exact h.takeRequest (fun _ _ _ hu => hu.removeStation) _ _
  | flushLearned => exact h.takeRequest (fun _ _ _ hu => hu.flushLearned) _ _
  | readContext => exact h.takeRequest (fun _ r _ hu => hu.readContext r) _ _
  | readPool => exact h.takeRequest (body := State.readPool) (fun _ _ _ hu => hu) _ _
  | readClauseActive => exact h.takeRequest (fun _ r _ hu => hu.readClauseActive r) _ _
  | readClauseStaging => exact h.takeRequest (fun _ r _ hu => hu.readClauseStaging r) _ _
  | readHits => exact h.takeRequest (body := State.readHits) (fun _ _ _ hu => hu) _ _
  | openEdit => exact h.takeRequest (fun _ r _ hu => hu.openEdit r) _ _
  | writeClause => exact h.takeRequest (fun _ r _ hu => hu.writeClause r) _ _
  | writeProbes => exact h.takeRequest (fun _ _ _ hu => hu.writeStaging _) _ _
  | setDefault => exact h.takeRequest (fun _ r _ hu => hu.setDefault r) _ _
  | setCount => exact h.takeRequest (fun _ r _ hu => hu.setCount r) _ _
  | commit => exact h.takeRequest (fun _ _ _ hu => hu.commit) _ _
  | abortEdit => exact h.takeRequest (fun _ r _ hu => hu.abortEdit r) _ _
  | readQueue => exact h.takeRequest (body := State.readQueue) (fun _ r _ hu => hu.forQueue r fun _ => hu) _ _
  | haltQueue => exact h.takeRequest (body := State.haltQueue) (fun _ r _ hu => hu.forQueue r fun _ => hu) _ _
  | restartQueue => exact h.takeRequest (body := State.restartQueue) (fun _ r _ hu => hu.forQueue r fun _ => hu) _ _
  | flushQueue => exact h.takeRequest (fun _ r _ hu => hu.flushQueue r) _ _
  | sendHold => exact h.takeRequest (fun _ r _ hu => hu.sendHold r) _ _
  | sendRelease => exact h.takeRequest (fun _ r _ hu => hu.sendRelease r) _ _
  | readCounters => exact h.takeRequest (fun _ r _ hu => hu.readCounters r) _ _
  | clearCounters => exact h.takeRequest (fun _ r _ hu => hu.clearCounters r) _ _
  | setEvents => exact h.takeRequest (fun _ r _ hu => hu.setEvents r) _ _
  | flushEvents => exact h.takeRequest (body := State.flushEvents) (fun _ _ _ hu => hu) _ _
  | _ =>
    refine keeps_after (P := ManagementSound) [.managementUnit, .programStore] (fun u v same hu => ?_)
      (by simp [reachOfAny, Instr.reach, Block.hold, Block.cell]) h
    have management : v.management = u.management := same .managementUnit (by simp)
    have program : v.program = u.program := same .programStore (by simp)
    exact hu.of_same management (by rw [program])

end State

/-- Settles O51: a take leaves the request accepted, with its place kept; its block keeps it so or answers for it, and
what is not a take only empties queues or answers what was accepted before. -/
theorem stepKeepsTheManagementUnitSound : Obligations.StepKeepsTheManagementUnitSound :=
  fun _ _ hs h => step_keeps (P := State.ManagementSound) (fun _ _ h => h.of_same rfl rfl)
    (fun _ h => h.of_same rfl rfl) (fun c _ h => State.ManagementSound.after h c) hs h

end Sys2Proof.Machine
end

section
/-! The chains of the Block Pool: each block is once on the free list or once in one chain (R36, R37, R40), along what
the pool does with chains. -/

namespace Sys2Proof.Machine

/-! ### One place of a table -/

/-- What the places of a table hold is what place `i` holds, and the rest. -/
theorem exists_flatMap_set {α β : Type} {n : Nat} (f : α → List β) (v : Vector α n) (i : Fin n) :
    ∃ others, (v.toList.flatMap f).Perm (f v[i] ++ others) ∧
      ∀ x, ((v.set i x).toList.flatMap f).Perm (f x ++ others) := by
  have inside : i.val < v.toList.length := by simp
  have perm (x : α) : ((v.set i x).toList.flatMap f).Perm
      (f x ++ ((v.toList.take i).flatMap f ++ (v.toList.drop (i + 1)).flatMap f)) := by
    rw [Vector.toList_set, List.set_eq_take_append_cons_drop, if_pos inside, List.flatMap_append, List.flatMap_cons,
      ← List.append_assoc, ← List.append_assoc]
    exact List.perm_append_comm.append_right _
  have self : v.set i v[i] = v := by simp
  have own := perm v[i]
  rw [self] at own
  exact ⟨_, own, perm⟩

namespace Sparse

variable {α : Type} [DecidableEq α] {d : α}

/-- What is listed for a place that holds `x`. -/
def entry (d : α) (k : Nat) (x : α) : List (Nat × α) := if x = d then [] else [(k, x)]

/-- The listed places are place `k`, if it is listed, and the others. -/
theorem exists_others {m : List (Nat × α)} {low : Nat} (h : wfFrom d low m = true) (k : Nat) :
    ∃ others, m.Perm (entry d k (get d m k) ++ others) ∧ ∀ x, (set d m k x).Perm (entry d k x ++ others) := by
  have rotated (y : Nat × α) (l others : List (Nat × α)) : (y :: (l ++ others)).Perm (l ++ y :: others) :=
    List.perm_middle.symm
  induction m generalizing low with
  | nil => exact ⟨[], by simp [entry, get], fun x => by simp [entry, set]⟩
  | cons y rest ih =>
    obtain ⟨j, y⟩ := y
    simp only [wfFrom, Bool.and_eq_true, decide_eq_true_eq, Bool.not_eq_true', decide_eq_false_iff_not] at h
    by_cases before : k < j
    · have unlisted : get d rest k = d := get_below h.2 (by omega)
      have ne : k ≠ j := by omega
      refine ⟨(j, y) :: rest, ?_, fun x => ?_⟩
      · simp [get, entry, ne, unlisted]
      · by_cases none : x = d <;> simp [set, entry, before, none]
    · by_cases same : k = j
      · subst same
        refine ⟨rest, ?_, fun x => ?_⟩
        · simp [get, entry, h.1.2]
        · by_cases none : x = d <;> simp [set, entry, none]
      · obtain ⟨others, here, after⟩ := ih h.2
        refine ⟨(j, y) :: others, ?_, fun x => ?_⟩
        · simp only [get, same, if_false]
          exact (here.cons _).trans (rotated _ _ _)
        · simp only [set, before, same, if_false]
          exact ((after x).cons _).trans (rotated _ _ _)

/-- A listed place holds what is listed for it, which is not what an unlisted place holds. -/
theorem get_of_mem {m : List (Nat × α)} {low : Nat} (h : wfFrom d low m = true) {y : Nat × α} (mem : y ∈ m) :
    get d m y.1 = y.2 ∧ y.2 ≠ d ∧ low ≤ y.1 := by
  induction m generalizing low with
  | nil => nomatch mem
  | cons x rest ih =>
    obtain ⟨j, x⟩ := x
    simp only [wfFrom, Bool.and_eq_true, decide_eq_true_eq, Bool.not_eq_true', decide_eq_false_iff_not] at h
    obtain rfl | mem := List.mem_cons.1 mem
    · exact ⟨by simp [get], h.1.2, h.1.1⟩
    · obtain ⟨found, some, above⟩ := ih h.2 mem
      have ne : y.1 ≠ j := by omega
      exact ⟨by simp only [get, ne, if_false, found], some, by omega⟩

omit [DecidableEq α] in
theorem mem_of_get {m : List (Nat × α)} {k : Nat} (h : get d m k ≠ d) : (k, get d m k) ∈ m := by
  induction m with
  | nil => exact absurd rfl h
  | cons x rest ih =>
    obtain ⟨j, x⟩ := x
    by_cases same : k = j
    · subst same
      simp [get]
    · simp only [get, same, if_false] at h ⊢
      exact List.mem_cons_of_mem _ (ih h)

end Sparse

namespace BlockPool

variable {p q : BlockPool} {c : Chain} {cs cs' : List Chain} {l : List Nat} {b : Nat} {rest : List Nat}
  {payload : List Byte}

/-- R40: the chain of head block `x.1` that queue records name. -/
def namedChain (x : Nat × ChainEntry) : Chain := { head := x.1, tail := x.2.tail, count := x.2.count }

/-- R36, R37, R40: the chains `cs` are linked, and each block is once on the free list or once in one of them. -/
structure Holds (p : BlockPool) (cs : List Chain) : Prop where
  canonical : p.Canonical
  formed : ∀ c ∈ cs, ∃ l, p.Forms c l
  places : (p.free ++ cs.flatMap p.chainBlocks).Perm (List.range 2048)

theorem chainBlocks_congr (blocks : q.blocks = p.blocks) : q.chainBlocks = p.chainBlocks := by
  funext c
  exact walk_congr _ _ fun j _ => by rw [fields, fields, blocks]

namespace Holds

theorem perm (h : p.Holds cs) (same : cs.Perm cs') : p.Holds cs' :=
  ⟨h.canonical, fun c hc => h.formed c (same.mem_iff.2 hc),
    (List.Perm.append_left _ (same.flatMap_right _).symm).trans h.places⟩

/-- The chain entries play no part. -/
theorem congr (h : p.Holds cs) (canonical : q.Canonical) (free : q.free = p.free) (blocks : q.blocks = p.blocks) :
    q.Holds cs := by
  refine ⟨canonical, fun c hc => ?_, ?_⟩
  · obtain ⟨l, forms⟩ := h.formed c hc
    exact ⟨l, forms.congr fun b _ => by rw [fields, fields, blocks]⟩
  · rw [free, chainBlocks_congr blocks]
    exact h.places

/-- R41: the blocks of a released chain are free. -/
theorem release (h : p.Holds (c :: cs)) : (p.release c).Holds cs := by
  refine ⟨h.canonical, fun x hx => ?_, ?_⟩
  · obtain ⟨l, forms⟩ := h.formed x (List.mem_cons_of_mem _ hx)
    exact ⟨l, forms.congr fun _ _ => rfl⟩
  · have places := h.places
    rw [List.flatMap_cons, ← List.append_assoc] at places
    rwa [chainBlocks_congr (p := p) (q := p.release c) rfl]

theorem nodup (h : p.Holds cs) : (p.free ++ cs.flatMap p.chainBlocks).Nodup :=
  h.places.nodup_iff.2 List.nodup_range

theorem not_mem_free (h : p.Holds cs) (forms : p.Forms c l) (hc : c ∈ cs) (hb : b ∈ l) : b ∉ p.free := by
  intro free
  refine List.disjoint_of_nodup_append h.nodup free (List.mem_flatMap.2 ⟨c, hc, ?_⟩)
  rwa [forms.chainBlocks]

/-- The blocks of different chains are different. -/
theorem disjoint (h : p.Holds (c :: cs)) (forms : p.Forms c l) {x : Chain} {l' : List Nat} (hx : x ∈ cs)
    (forms' : p.Forms x l') : l.Disjoint l' := by
  have nodup := h.nodup.of_append_right
  rw [List.flatMap_cons, forms.chainBlocks] at nodup
  intro b hb hb'
  refine List.disjoint_of_nodup_append nodup hb (List.mem_flatMap.2 ⟨x, hx, ?_⟩)
  rwa [forms'.chainBlocks]

theorem head_ne (h : p.Holds (c :: cs)) {x : Chain} (hx : x ∈ cs) : x.head ≠ c.head := by
  obtain ⟨l, forms⟩ := h.formed c List.mem_cons_self
  obtain ⟨l', forms'⟩ := h.formed x (List.mem_cons_of_mem _ hx)
  intro same
  exact h.disjoint forms hx forms' (List.mem_of_head? forms.head) (same ▸ List.mem_of_head? forms'.head)

/-- A pool in which chain `c'` of the blocks `l'` takes the place of chain `c`, and whose other blocks are as before. -/
theorem replace (h : p.Holds (c :: cs)) (forms : p.Forms c l) {c' : Chain} {l' : List Nat} (forms' : q.Forms c' l')
    (canonical : q.Canonical) (blocks : (q.free ++ l').Perm (p.free ++ l))
    (apart : ∀ j, j ∉ l → j ∉ p.free → q.fields j = p.fields j) : q.Holds (c' :: cs) := by
  have others : ∀ x ∈ cs, ∃ y, p.Forms x y ∧ q.Forms x y := fun x hx => by
    obtain ⟨y, own⟩ := h.formed x (List.mem_cons_of_mem _ hx)
    refine ⟨y, own, own.congr fun j hj => apart j ?_ ?_⟩
    · exact fun mem => h.disjoint forms hx own mem hj
    · exact h.not_mem_free own (List.mem_cons_of_mem _ hx) hj
  have same : cs.flatMap q.chainBlocks = cs.flatMap p.chainBlocks := List.flatMap_congr fun x hx => by
    obtain ⟨y, own, own'⟩ := others x hx
    rw [own.chainBlocks, own'.chainBlocks]
  refine ⟨canonical, fun x hx => ?_, ?_⟩
  · obtain rfl | hx := List.mem_cons.1 hx
    · exact ⟨l', forms'⟩
    · obtain ⟨y, -, own⟩ := others x hx
      exact ⟨y, own⟩
  · have places := h.places
    rw [List.flatMap_cons, forms.chainBlocks, ← List.append_assoc] at places
    rw [List.flatMap_cons, forms'.chainBlocks, ← List.append_assoc, same]
    exact (blocks.append_right _).trans places

/-- R38: a start takes the head of the free list. -/
theorem start (h : p.Holds cs) (free : p.free = b :: rest) (small : payload.length ≤ 64) :
    (({ p with free := rest } : BlockPool).freshBlock b payload).Holds ({ head := b, tail := b, count := 1 } :: cs) := by
  have canonical : (({ p with free := rest } : BlockPool).freshBlock b payload).Canonical :=
    (h.canonical.withFree rest).freshBlock b payload
  have fields := fields_freshBlock (h.canonical.withFree rest) b payload
  have forms : (({ p with free := rest } : BlockPool).freshBlock b payload).Forms
      { head := b, tail := b, count := 1 } [b] := by
    apply forms_single <;> rw [fields, if_pos rfl]
    exact small
  have others : ∀ x ∈ cs, ∃ y, p.Forms x y ∧ (({ p with free := rest } : BlockPool).freshBlock b payload).Forms x y :=
    fun x hx => by
      obtain ⟨y, own⟩ := h.formed x hx
      refine ⟨y, own, own.congr fun j hj => ?_⟩
      have ne : j ≠ b := fun same => h.not_mem_free own hx hj (by rw [free, same]; exact List.mem_cons_self)
      rw [fields, if_neg ne]
      rfl
  have same : cs.flatMap (({ p with free := rest } : BlockPool).freshBlock b payload).chainBlocks =
      cs.flatMap p.chainBlocks := List.flatMap_congr fun x hx => by
    obtain ⟨y, own, own'⟩ := others x hx
    rw [own.chainBlocks, own'.chainBlocks]
  refine ⟨canonical, fun x hx => ?_, ?_⟩
  · obtain rfl | hx := List.mem_cons.1 hx
    · exact ⟨_, forms⟩
    · obtain ⟨y, -, own⟩ := others x hx
      exact ⟨y, own⟩
  · have places := h.places
    rw [free] at places
    rw [List.flatMap_cons, forms.chainBlocks, same]
    exact List.perm_middle.trans places

/-- R38: the storage request of a cell. -/
theorem store (h : p.Holds (c :: cs)) (small : payload.length ≤ 56) {r : Chain × BlockPool}
    (stored : p.store payload (some c) = some r) : r.2.Holds (r.1 :: cs) := by
  obtain ⟨l, forms⟩ := h.formed c List.mem_cons_self
  have room := forms.room
  by_cases fits : payload.length ≤ 64 - (p.fields c.tail).fill
  · rw [store_of_fits fits] at stored
    obtain rfl := Option.some.inj stored
    refine h.replace forms (forms.fillBlock h.canonical (by omega)) (h.canonical.fillBlock ..) (.refl _) ?_
    intro j out _
    rw [fields_fillBlock h.canonical, if_neg fun same : j = c.tail => out (same ▸ forms.tail_mem)]
  · cases free : p.free with
    | nil =>
      rw [store_of_free_nil fits free] at stored
      nomatch stored
    | cons b rest =>
      rw [store_of_free_cons fits free] at stored
      obtain rfl := Option.some.inj stored
      have fresh : b ∉ l := fun mem => h.not_mem_free forms List.mem_cons_self mem (by rw [free]; exact List.mem_cons_self)
      refine h.replace forms (forms.spill h.canonical (by omega) small fresh)
        (((h.canonical.withFree rest).fillBlock _ _ _).freshBlock _ _) ?_ ?_
      · rw [free]
        exact (List.append_assoc rest l [b] ▸ List.perm_append_singleton b (rest ++ l))
      · intro j out notFree
        rw [fields_spill h.canonical (by omega) forms.room, if_neg fun same => notFree (by simp [free, same]),
          if_neg fun same : j = c.tail => out (same ▸ forms.tail_mem)]

end Holds
end BlockPool
end Sys2Proof.Machine
end

section
/-! The chains and the records that name them (R42 to R44): reference counts and charges, along the adoption of a chain,
the removal of records and the drop of their references. -/

namespace Sys2Proof.Machine

/-- The head blocks that the records of a queue name. -/
def Queue.chains (x : Queue) : List Nat := x.records.map Record.chain

/-- The head blocks that the records of all queues name. -/
def Delivery.chains (d : Delivery) : List Nat := d.queues.toList.flatMap Queue.chains

theorem Delivery.naming_eq (d : Delivery) (h : Nat) : d.naming h = d.chains.count h := by
  have map : d.chains = (d.queues.toList.flatMap Queue.records).map Record.chain := by
    rw [Delivery.chains, List.map_flatMap]
    rfl
  rw [map, List.count, List.countP_map, naming, ← List.countP_eq_length_filter]
  exact List.countP_congr fun r _ => by simp

theorem Delivery.count_chains_set (d : Delivery) (q : Fin 8) (x : Queue) (h : Nat) :
    ({ d with queues := d.queues.set q x } : Delivery).chains.count h + d.queues[q].chains.count h =
      d.chains.count h + x.chains.count h := by
  obtain ⟨others, here, after⟩ := exists_flatMap_set Queue.chains d.queues q
  rw [Delivery.chains, Delivery.chains, (after x).count_eq, here.count_eq, List.count_append, List.count_append]
  omega

namespace BlockPool

variable {p : BlockPool} {d d' : Delivery} {loose removed : List Nat} {c : Chain} {cs cs' : List Chain} {h n : Nat}

/-- R44: the block count of the chain of head block `h`. -/
def blocksOf (p : BlockPool) (h : Nat) : Nat := (p.chainEntry h).count

/-- R43, R44, R117: the reference counts and the charges, when the records of `loose` have left their queues and still
hold their references. -/
structure Names (p : BlockPool) (d : Delivery) (loose : List Nat) : Prop where
  named : ∀ h, (p.chainEntry h).refs = d.chains.count h + loose.count h
  counts : ∀ x ∈ p.chains, x.2.refs = 1 ∨ x.2.refs = 2
  charges : ∀ q : Fin 8, d.queues[q].charge = (d.queues[q].chains.map p.blocksOf).sum

/-- R36, R37, R40 to R44: the pool with the chains `cs` beside those that records name. -/
structure Pooled (p : BlockPool) (cs : List Chain) (d : Delivery) (loose : List Nat) : Prop where
  held : p.Holds (cs ++ p.chains.map namedChain)
  names : p.Names d loose

namespace Pooled

theorem perm (hp : p.Pooled cs d loose) (same : cs.Perm cs') : p.Pooled cs' d loose :=
  ⟨hp.held.perm (same.append_right _), hp.names⟩

/-- Records that name the same chains, under the same charges. -/
theorem of_same (hp : p.Pooled cs d loose) (chains : ∀ q : Fin 8, d'.queues[q].chains = d.queues[q].chains)
    (charges : ∀ q : Fin 8, d'.queues[q].charge = d.queues[q].charge) : p.Pooled cs d' loose := by
  have all : d'.chains = d.chains := by
    rw [Delivery.chains, Delivery.chains, toList_eq_finRange, toList_eq_finRange, List.flatMap_map, List.flatMap_map]
    exact List.flatMap_congr fun q _ => chains q
  refine ⟨hp.held, fun h => all ▸ hp.names.named h, hp.names.counts, fun q => ?_⟩
  rw [charges, chains]
  exact hp.names.charges q

theorem release (hp : p.Pooled (c :: cs) d loose) : (p.release c).Pooled cs d loose :=
  ⟨hp.held.release, hp.names.named, hp.names.counts, hp.names.charges⟩

/-- R120: records leave queue `q` with their charge; their references are still to be dropped. -/
theorem keep (hp : p.Pooled cs d loose) {q : Fin 8} {x : Queue} (parts : d.queues[q].chains.Perm (x.chains ++ removed))
    (charge : x.charge = d.queues[q].charge - (removed.map p.blocksOf).sum)
    (set : d' = { d with queues := d.queues.set q x }) : p.Pooled cs d' (removed ++ loose) := by
  subst set
  refine ⟨hp.held, fun h => ?_, hp.names.counts, fun j => ?_⟩
  · have before := hp.names.named h
    have change := d.count_chains_set q x h
    rw [parts.count_eq, List.count_append] at change
    rw [List.count_append]
    omega
  · rw [getElem_set_fin]
    split
    · have all := hp.names.charges q
      rw [(parts.map p.blocksOf).sum_eq, List.map_append, List.sum_append] at all
      rw [charge, all, Nat.add_sub_cancel]
    · exact hp.names.charges j

/-! ### The reference counts -/

theorem refs_pos (hp : p.Pooled cs d (h :: loose)) : 1 ≤ (p.chainEntry h).refs := by
  have refs := hp.names.named h
  rw [List.count_cons_self] at refs
  omega

theorem entry_ne_absent (refs : 1 ≤ (p.chainEntry h).refs) : p.chainEntry h ≠ .absent := by
  intro absent
  rw [absent] at refs
  exact absurd refs (by decide)

/-- R43: what a change of one chain entry does to the counts of the others. -/
theorem names_set (hp : p.Pooled cs d loose) {e : ChainEntry} {loose' : List Nat}
    (own : e.refs = d'.chains.count h + loose'.count h)
    (others : ∀ j, j ≠ h → d'.chains.count j + loose'.count j = d.chains.count j + loose.count j)
    (count : e = .absent ∨ e.refs = 1 ∨ e.refs = 2)
    (charges : ∀ q : Fin 8, d'.queues[q].charge = (d'.queues[q].chains.map (p.setChainEntry h e).blocksOf).sum) :
    (p.setChainEntry h e).Names d' loose' := by
  have canonical := hp.held.canonical
  refine ⟨fun j => ?_, fun x hx => ?_, charges⟩
  · rw [chainEntry_setChainEntry canonical]
    split
    · next same => rw [same, own]
    · next ne => rw [others j ne, hp.names.named j]
  · obtain ⟨found, listed, -⟩ := Sparse.get_of_mem (canonical.setChainEntry h e).2.2 hx
    have entry : x.2 = if x.1 = h then e else p.chainEntry x.1 :=
      found.symm.trans (chainEntry_setChainEntry canonical h e x.1)
    split at entry
    · rw [entry] at listed ⊢
      exact count.resolve_left listed
    · rw [entry] at listed ⊢
      exact hp.names.counts (x.1, p.chainEntry x.1) (Sparse.mem_of_get listed)

/-- The entries and the chains that records name, when one entry is set. -/
theorem exists_named (canonical : p.Canonical) (h : Nat) : ∃ others,
    (p.chains.map namedChain).Perm ((Sparse.entry .absent h (p.chainEntry h)).map namedChain ++ others) ∧
      ∀ e, ((p.setChainEntry h e).chains.map namedChain).Perm ((Sparse.entry .absent h e).map namedChain ++ others) := by
  obtain ⟨others, here, after⟩ := Sparse.exists_others canonical.2.2 h
  refine ⟨others.map namedChain, ?_, fun e => ?_⟩ <;> rw [← List.map_append]
  · exact here.map namedChain
  · exact (after e).map namedChain

theorem entry_map {e : ChainEntry} (listed : e ≠ .absent) :
    (Sparse.entry .absent h e).map namedChain = [{ head := h, tail := e.tail, count := e.count }] := by
  rw [Sparse.entry, if_neg listed]
  rfl

theorem held_setChainEntry {x : List Chain} (held : p.Holds x) (h : Nat) (e : ChainEntry) :
    (p.setChainEntry h e).Holds x :=
  held.congr (held.canonical.setChainEntry h e) rfl rfl

theorem blocksOf_set (canonical : p.Canonical) (e : ChainEntry) (j : Nat) :
    (p.setChainEntry h e).blocksOf j = if j = h then e.count else p.blocksOf j := by
  rw [blocksOf, chainEntry_setChainEntry canonical]
  split <;> rfl

end Pooled

/-- R43: the pool when one record naming the chain of head block `h` is gone. -/
def dropped (p : BlockPool) (h : Nat) : BlockPool :=
  if 2 ≤ (p.chainEntry h).refs then p.setChainEntry h { p.chainEntry h with refs := (p.chainEntry h).refs - 1 }
  else (p.setChainEntry h .absent).release (p.chainOf h)

namespace Pooled

/-- R43: with two references one is left. -/
theorem drop_shared (hp : p.Pooled cs d (h :: loose)) (shared : 2 ≤ (p.chainEntry h).refs) :
    (p.setChainEntry h { p.chainEntry h with refs := (p.chainEntry h).refs - 1 }).Pooled cs d loose := by
  have canonical := hp.held.canonical
  have two : (p.chainEntry h).refs = 1 ∨ (p.chainEntry h).refs = 2 :=
    hp.names.counts _ (Sparse.mem_of_get (entry_ne_absent hp.refs_pos))
  have own := hp.names.named h
  rw [List.count_cons_self] at own
  generalize after : ({ p.chainEntry h with refs := (p.chainEntry h).refs - 1 } : ChainEntry) = e
  have refs : e.refs = (p.chainEntry h).refs - 1 := after ▸ rfl
  have tail : e.tail = (p.chainEntry h).tail := after ▸ rfl
  have count : e.count = (p.chainEntry h).count := after ▸ rfl
  have listed : e ≠ .absent := by
    rintro rfl
    have zero : ChainEntry.absent.refs = 0 := rfl
    omega
  obtain ⟨others, here, there⟩ := exists_named canonical h
  refine ⟨?_, hp.names_set (by omega) (fun j ne => ?_) (.inr (by omega)) fun q => ?_⟩
  · refine (held_setChainEntry hp.held h e).perm (List.Perm.append_left cs (here.trans ?_))
    rw [entry_map (entry_ne_absent hp.refs_pos), ← tail, ← count, ← entry_map listed]
    exact (there e).symm
  · rw [List.count_cons_of_ne ne.symm]
  · rw [hp.names.charges q]
    refine congrArg List.sum (List.map_congr_left fun j _ => ?_)
    rw [blocksOf_set canonical]
    split
    · next same => rw [same, blocksOf, count]
    · rfl

/-- R43: with the last reference the chain is released. -/
theorem drop_last (hp : p.Pooled cs d (h :: loose)) (last : ¬ 2 ≤ (p.chainEntry h).refs) :
    ((p.setChainEntry h .absent).release (p.chainOf h)).Pooled cs d loose := by
  have canonical := hp.held.canonical
  have own := hp.names.named h
  have pos := hp.refs_pos
  rw [List.count_cons_self] at own
  have unnamed : d.chains.count h = 0 := by omega
  obtain ⟨others, here, there⟩ := exists_named canonical h
  refine Pooled.release ⟨?_, hp.names_set ?_ (fun j ne => ?_) (.inl rfl) fun q => ?_⟩
  · rw [entry_map (entry_ne_absent pos)] at here
    have after := there .absent
    rw [Sparse.entry, if_pos rfl] at after
    refine (held_setChainEntry hp.held h .absent).perm ((here.append_left cs).trans ?_)
    exact List.perm_middle.trans ((after.symm.append_left cs).cons _)
  · have zero : ChainEntry.absent.refs = 0 := rfl
    omega
  · rw [List.count_cons_of_ne ne.symm]
  · rw [hp.names.charges q]
    refine congrArg List.sum (List.map_congr_left fun j mem => ?_)
    have ne : j ≠ h := by
      rintro rfl
      exact List.count_eq_zero.1 unnamed (List.mem_flatMap.2 ⟨d.queues[q], by simp, mem⟩)
    rw [blocksOf_set canonical, if_neg ne]

theorem drop (hp : p.Pooled cs d (h :: loose)) : (p.dropped h).Pooled cs d loose := by
  rw [dropped]
  split
  · next shared => exact hp.drop_shared shared
  · next last => exact hp.drop_last last

end Pooled

/-! ### The adoption of a chain -/

/-- R92, R93, R119: `n` copies of a message of `blocks` blocks, whose chain has the head block `h`, have been appended. -/
structure Offered (h blocks : Nat) (d d' : Delivery) (n : Nat) : Prop where
  naming : ∀ j, d'.chains.count j = d.chains.count j + if j = h then n else 0
  charges : ∀ f : Nat → Nat, n = 0 ∨ f h = blocks → ∀ q : Fin 8,
    d'.queues[q].charge + (d.queues[q].chains.map f).sum = d.queues[q].charge + (d'.queues[q].chains.map f).sum

namespace Pooled

/-- R42: the chain leaves its context for the records that name it. -/
theorem adopt (hp : p.Pooled (c :: cs) d []) (offered : Offered c.head c.count d d' n) (some : n = 1 ∨ n = 2) :
    (p.setChainEntry c.head { tail := c.tail, count := c.count, refs := n }).Pooled cs d' [] := by
  have canonical := hp.held.canonical
  have unlisted : p.chainEntry c.head = .absent := by
    by_contra listed
    have mem := List.mem_map_of_mem (f := namedChain) (Sparse.mem_of_get listed)
    exact hp.held.head_ne (List.mem_append_right cs mem) rfl
  have unnamed : d.chains.count c.head = 0 := by
    have own := hp.names.named c.head
    rw [unlisted, List.count_nil] at own
    exact own.symm
  generalize entry : ({ tail := c.tail, count := c.count, refs := n } : ChainEntry) = e
  have refs : e.refs = n := entry ▸ rfl
  have count : e.count = c.count := entry ▸ rfl
  have listed : e ≠ .absent := by
    rintro rfl
    have zero : ChainEntry.absent.refs = 0 := rfl
    omega
  obtain ⟨others, here, there⟩ := exists_named canonical c.head
  refine ⟨?_, hp.names_set ?_ (fun j ne => ?_) (.inr (by omega)) fun q => ?_⟩
  · rw [unlisted, Sparse.entry, if_pos rfl] at here
    have after := there e
    rw [entry_map listed, ← entry] at after
    rw [← entry] at *
    refine (held_setChainEntry hp.held c.head _).perm ?_
    exact ((here.append_left cs).cons c).trans (List.perm_middle.symm.trans (after.symm.append_left cs))
  · rw [offered.naming, if_pos rfl, unnamed, refs, List.count_nil]
    omega
  · rw [offered.naming, if_neg ne, Nat.add_zero]
  · have blocks := blocksOf_set (h := c.head) canonical e
    have old : (d.queues[q].chains.map (p.setChainEntry c.head e).blocksOf).sum = d.queues[q].charge := by
      rw [hp.names.charges q]
      refine congrArg List.sum (List.map_congr_left fun j mem => ?_)
      have ne : j ≠ c.head := by
        rintro rfl
        exact List.count_eq_zero.1 unnamed (List.mem_flatMap.2 ⟨d.queues[q], by simp, mem⟩)
      rw [blocks, if_neg ne]
    have change := offered.charges (p.setChainEntry c.head e).blocksOf (.inr (by rw [blocks, if_pos rfl, count])) q
    omega

/-- R119: no copy was accepted. -/
theorem refuse {blocks : Nat} (hp : p.Pooled cs d []) (offered : Offered h blocks d d' 0) : p.Pooled cs d' [] := by
  refine ⟨hp.held, fun j => ?_, hp.names.counts, fun q => ?_⟩
  · have zero : (if j = h then 0 else 0) = 0 := ite_self 0
    rw [offered.naming, zero, Nat.add_zero, hp.names.named]
  · have change := offered.charges p.blocksOf (.inl rfl) q
    have before := hp.names.charges q
    omega

/-! ### The storage of a cell -/

theorem store_chains {payload : List Byte} {chain : Option Chain} {r : Chain × BlockPool}
    (stored : p.store payload chain = some r) : r.2.chains = p.chains := by
  rcases p.store_cases payload chain with e | ⟨b, rest, -, -, e⟩ | ⟨c, -, -, e⟩ | ⟨c, b, rest, -, -, -, e⟩ <;>
    rw [stored] at e
  · nomatch e
  all_goals exact Option.some.inj e ▸ rfl

theorem of_held {p' : BlockPool} (hp : p.Pooled cs d loose) (held : p'.Holds (cs' ++ p.chains.map namedChain))
    (chains : p'.chains = p.chains) : p'.Pooled cs' d loose := by
  have entry : p'.chainEntry = p.chainEntry := funext fun h => by rw [chainEntry, chainEntry, chains]
  refine ⟨chains ▸ held, fun h => entry ▸ hp.names.named h, chains ▸ hp.names.counts, fun q => ?_⟩
  have blocks : p'.blocksOf = p.blocksOf := funext fun h => by rw [blocksOf, blocksOf, entry]
  rw [blocks]
  exact hp.names.charges q

/-- R38: a start takes a new chain. -/
theorem start (hp : p.Pooled cs d loose) {payload : List Byte} (small : payload.length ≤ 56) {ch : Chain}
    {p' : BlockPool} (stored : p.store payload none = some (ch, p')) : p'.Pooled (ch :: cs) d loose := by
  refine hp.of_held ?_ (store_chains stored)
  cases free : p.free with
  | nil =>
    rw [store_start_of_free_nil free] at stored
    nomatch stored
  | cons b rest =>
    rw [store_start_of_free_cons free] at stored
    obtain ⟨rfl, rfl⟩ := Prod.mk.inj (Option.some.inj stored)
    exact hp.held.start free (by omega)

/-- R38: a later cell extends its chain. -/
theorem store (hp : p.Pooled (c :: cs) d loose) {payload : List Byte} (small : payload.length ≤ 56) {ch : Chain}
    {p' : BlockPool} (stored : p.store payload (some c) = some (ch, p')) : p'.Pooled (ch :: cs) d loose :=
  hp.of_held (hp.held.store small stored) (store_chains stored)

end Pooled

namespace Offered

variable {blocks : Nat} {q : Fin 8}

theorem refl (d : Delivery) : Offered h blocks d d 0 :=
  ⟨fun j => by split <;> rfl, fun _ _ _ => rfl⟩

/-- A copy is accepted. -/
theorem append (ho : Offered h blocks d d' n) {x : Queue} (chains : x.chains = d'.queues[q].chains ++ [h])
    (charge : x.charge = d'.queues[q].charge + blocks) :
    Offered h blocks d { d' with queues := d'.queues.set q x } (n + 1) := by
  refine ⟨fun j => ?_, fun f own k => ?_⟩
  · have change := d'.count_chains_set q x j
    have before := ho.naming j
    rw [chains, List.count_append, List.count_singleton] at change
    by_cases same : j = h
    · subst same
      simp only [beq_self_eq_true, if_true] at change before ⊢
      omega
    · have apart : (h == j) = false := by simpa using fun e => same e.symm
      simp only [apart, same, Bool.false_eq_true, if_false] at change before ⊢
      omega
  · have own : f h = blocks := own.resolve_left (by omega)
    have before := ho.charges f (.inr own) k
    rw [getElem_set_fin]
    split
    · next same =>
      subst same
      rw [charge, chains, List.map_append, List.sum_append, List.map_singleton, List.sum_singleton, own]
      omega
    · exact before

/-- A queue changes in neither its chains nor its charge. -/
theorem keep (ho : Offered h blocks d d' n) {x : Queue} (chains : x.chains = d'.queues[q].chains)
    (charge : x.charge = d'.queues[q].charge) : Offered h blocks d { d' with queues := d'.queues.set q x } n := by
  refine ⟨fun j => ?_, fun f own k => ?_⟩
  · have change := d'.count_chains_set q x j
    have before := ho.naming j
    rw [chains] at change
    omega
  · have before := ho.charges f own k
    rw [getElem_set_fin]
    split
    · next same =>
      subst same
      rw [charge, chains]
      exact before
    · exact before

end Offered
end BlockPool
end Sys2Proof.Machine
end

section
/-! Every command keeps the chains linked, the blocks each in one place, and the reference counts and charges exact
(R36, R37, R40 to R44, R117), where the cells that wait carry no more than a cell holds (R6). -/

namespace Sys2Proof.Machine

namespace State

variable {s u : State} {i : Fin 48} {q : Fin 8} {loose : List Nat}

/-- The chains that OPEN and COMPLETE contexts hold. -/
def contextChains (s : State) : List Chain := s.reassembly.contexts.toList.flatMap fun c => c.body.chain.toList

/-- R36, R37, R40 to R44: the Block Pool with the chains of the contexts and the records of the queues, when those that
name the chains of `loose` have left their queues and still hold their references. -/
def Pooled (s : State) (loose : List Nat) : Prop := s.pool.Pooled s.contextChains s.delivery loose

theorem Pooled.of_same (h : s.Pooled loose) (pool : u.pool = s.pool)
    (contexts : u.reassembly.contexts = s.reassembly.contexts)
    (chains : ∀ q : Fin 8, u.delivery.queues[q].chains = s.delivery.queues[q].chains)
    (charges : ∀ q : Fin 8, u.delivery.queues[q].charge = s.delivery.queues[q].charge) : u.Pooled loose := by
  rw [Pooled, contextChains] at h ⊢
  rw [pool, contexts]
  exact BlockPool.Pooled.of_same h chains charges

theorem Pooled.of_parts (h : s.Pooled loose) (pool : u.pool = s.pool)
    (contexts : u.reassembly.contexts = s.reassembly.contexts) (delivery : u.delivery = s.delivery) : u.Pooled loose :=
  h.of_same pool contexts (fun _ => by rw [delivery]) fun _ => by rw [delivery]

/-! ### The contexts -/

theorem contextChains_set {c : Context} (contexts : u.reassembly.contexts = s.reassembly.contexts.set i c) :
    ∃ others, s.contextChains.Perm (s.reassembly.contexts[i].body.chain.toList ++ others) ∧
      u.contextChains.Perm (c.body.chain.toList ++ others) := by
  obtain ⟨others, here, after⟩ := exists_flatMap_set (fun c : Context => c.body.chain.toList) s.reassembly.contexts i
  exact ⟨others, here, by rw [contextChains, contexts]; exact after c⟩

/-- A change of one context, with what the pool makes of the chain that the context has held. -/
theorem Pooled.exchange (h : s.Pooled []) (i : Fin 48) {c : Context}
    (contexts : u.reassembly.contexts = s.reassembly.contexts.set i c)
    {old new : Option Chain} (had : s.reassembly.contexts[i].body.chain = old) (has : c.body.chain = new)
    (pool : ∀ cs, s.pool.Pooled (old.toList ++ cs) s.delivery [] → u.pool.Pooled (new.toList ++ cs) u.delivery []) :
    u.Pooled [] := by
  obtain ⟨others, here, after⟩ := contextChains_set contexts
  rw [had] at here
  rw [has] at after
  exact (pool others (BlockPool.Pooled.perm h here)).perm after.symm

theorem Pooled.put (h : s.Pooled []) (i : Fin 48) {c : Context}
    (contexts : u.reassembly.contexts = s.reassembly.contexts.set i c) (delivery : u.delivery = s.delivery)
    {old new : Option Chain} (had : s.reassembly.contexts[i].body.chain = old) (has : c.body.chain = new)
    (pool : ∀ cs, s.pool.Pooled (old.toList ++ cs) s.delivery [] → u.pool.Pooled (new.toList ++ cs) s.delivery []) :
    u.Pooled [] :=
  h.exchange i contexts had has (delivery ▸ pool)

theorem Pooled.put_same (h : s.Pooled []) (i : Fin 48) {c : Context}
    (contexts : u.reassembly.contexts = s.reassembly.contexts.set i c) (delivery : u.delivery = s.delivery)
    (pool : u.pool = s.pool) (same : c.body.chain = s.reassembly.contexts[i].body.chain) : u.Pooled [] :=
  h.put i contexts delivery rfl same fun _ hp => pool ▸ hp

/-- R41: the context gives up its chain, which is released. -/
theorem Pooled.put_released (h : s.Pooled []) (i : Fin 48) {c : Context} {ch : Chain}
    (contexts : u.reassembly.contexts = s.reassembly.contexts.set i c) (delivery : u.delivery = s.delivery)
    (pool : u.pool = s.pool.release ch) (had : s.reassembly.contexts[i].body.chain = some ch)
    (has : c.body.chain = none) : u.Pooled [] :=
  h.put i contexts delivery had has fun _ hp => pool ▸ hp.release

theorem Pooled.abortToFree (h : s.Pooled []) {m : Message} (had : s.reassembly.contexts[i].body.chain = some m.chain)
    (r : AbortReason) : (s.abortToFree i m r).Pooled [] :=
  h.put_released i (c := { body := .free, lastAbort := r }) (by simp) (by simp) (by simp) had rfl

theorem Pooled.abortToDiscarding (h : s.Pooled []) {m : Message}
    (had : s.reassembly.contexts[i].body.chain = some m.chain) (r : AbortReason) :
    (s.abortToDiscarding i m r).Pooled [] :=
  h.put_released i (c := { body := .discarding m.station m.channel s.gapExpiry, lastAbort := r }) (by simp) (by simp)
    (by simp) had rfl

theorem Pooled.abortAtCell (h : s.Pooled []) (last : Bool) {m : Message}
    (had : s.reassembly.contexts[i].body.chain = some m.chain) (r : AbortReason) :
    (s.abortAtCell last i m r).Pooled [] := by
  cases last
  · exact h.abortToDiscarding had r
  · exact h.abortToFree had r

theorem Pooled.endContext (h : s.Pooled []) (r : AbortReason) (i : Fin 48) : (s.endContext r i).Pooled [] := by
  unfold State.endContext context
  split
  · next body => exact h.abortToFree (by rw [body]; rfl) r
  · next body =>
    exact h.put_same i (c := { body := .free, lastAbort := r }) (by simp) (by simp) (by simp) (by rw [body]; rfl)
  · exact h
  · exact h

theorem Pooled.endContexts (h : s.Pooled []) (r : AbortReason) (l : List (Fin 48)) : (s.endContexts r l).Pooled [] := by
  induction l generalizing s with
  | nil => exact h
  | cons i l ih => exact ih (h.endContext r i)

theorem Pooled.endKeyContext (h : s.Pooled []) (a : Addr) (ch : Chan) : (s.endKeyContext a ch).Pooled [] := by
  unfold State.endKeyContext
  split
  · exact h
  · exact h.endContext _ _

/-! ### The cells -/

theorem Pooled.startMessage (h : s.Pooled []) (c : AdmittedCell) (whole : Bool) (small : c.payload.length ≤ 56) :
    (s.startMessage c whole).Pooled [] := by
  unfold State.startMessage
  split
  · exact h.of_parts (by simp [refuseNoContext]) (by simp [refuseNoContext]) (by simp [refuseNoContext])
  · next i available =>
    have body : s.reassembly.contexts[i].body.chain = none := by rw [free_of_availableContext available]; rfl
    split
    · exact h.of_parts (by simp [refuseNoBuffer]) (by simp [refuseNoBuffer]) (by simp [refuseNoBuffer])
    · next ch p stored =>
      have pool (cs : List Chain) (hp : s.pool.Pooled cs s.delivery []) : p.Pooled (ch :: cs) s.delivery [] :=
        hp.start small stored
      cases whole
      · exact h.put i (c := ⟨.opened (startedMessage c ch) (c.sequence + 1) (s.storedPool p).gapExpiry,
          s.reassembly.contexts[i].lastAbort⟩) (by simp) (by simp) body (new := some ch) rfl (by simpa using pool)
      · exact h.put i (c := { s.reassembly.contexts[i] with body := .complete (startedMessage c ch) }) (by simp)
          (by simp) body (new := some ch) rfl (by simpa using pool)

theorem Pooled.extendMessage (h : s.Pooled []) (last : Bool) {m : Message} {e : Seq} {n : Nat} {ch : Chain}
    {p : BlockPool} {payload : List Byte} (had : s.reassembly.contexts[i].body.chain = some m.chain)
    (small : payload.length ≤ 56) (stored : s.pool.store payload (some m.chain) = some (ch, p)) :
    ((s.storedPool p).extendMessage last i m e n ch).Pooled [] := by
  have pool (cs : List Chain) (hp : s.pool.Pooled (m.chain :: cs) s.delivery []) : p.Pooled (ch :: cs) s.delivery [] :=
    hp.store small stored
  cases last
  · exact h.put i (c := ⟨.opened { m with byteCount := m.byteCount + n, chain := ch } (e + 1)
      (s.storedPool p).gapExpiry, s.reassembly.contexts[i].lastAbort⟩) (by simp [State.extendMessage])
      (by simp [State.extendMessage]) had (new := some ch) rfl (by simpa [State.extendMessage] using pool)
  · exact h.put i (c := ⟨.complete { m with byteCount := m.byteCount + n, chain := ch },
      s.reassembly.contexts[i].lastAbort⟩) (by simp [State.extendMessage]) (by simp [State.extendMessage]) had
      (new := some ch) rfl (by simpa [State.extendMessage] using pool)

theorem Pooled.continueOpen (h : s.Pooled []) (last : Bool) (c : AdmittedCell) {m : Message} {e : Seq} {z : U32}
    (old : s.reassembly.contexts[i].body = .opened m e z) (small : c.payload.length ≤ 56) :
    (s.continueOpen last c i m e).Pooled [] := by
  have had : s.reassembly.contexts[i].body.chain = some m.chain := by rw [old]; rfl
  unfold State.continueOpen
  split
  · split
    · exact h.abortAtCell last had _
    · split
      · exact h.abortAtCell last had _
      · next stored => exact h.extendMessage last had small stored
  · split
    · exact h.put_same i (c := { s.reassembly.contexts[i] with body := .opened m e s.gapExpiry }) rfl rfl rfl had.symm
    · exact h.abortAtCell last had _

theorem Pooled.continueDiscarding (h : s.Pooled []) (last : Bool) {a : Addr} {ch : Chan} {z : U32}
    (old : s.reassembly.contexts[i].body = .discarding a ch z) : (s.continueDiscarding last i a ch).Pooled [] := by
  have had : s.reassembly.contexts[i].body.chain = none := by rw [old]; rfl
  cases last
  · exact h.put_same i (c := { s.reassembly.contexts[i] with body := .discarding a ch s.gapExpiry }) rfl rfl rfl
      had.symm
  · exact h.put_same i (c := { s.reassembly.contexts[i] with body := .free }) (by simp [State.continueDiscarding])
      (by simp [State.continueDiscarding]) (by simp [State.continueDiscarding]) had.symm

theorem Pooled.continueMessage (h : s.Pooled []) (last : Bool) (c : AdmittedCell) (small : c.payload.length ≤ 56) :
    (s.continueMessage last c).Pooled [] := by
  unfold State.continueMessage context
  split
  · exact h.of_parts (by simp) (by simp [orphanCell]) (by simp)
  · split
    · next body => exact h.continueOpen last c body small
    · next body => exact h.continueDiscarding last body
    · exact h
    · exact h

/-- R6: what a waiting cell carries. -/
def PayloadsFit (s : State) : Prop := ∀ c, .cell c ∈ s.stream → 1 ≤ c.payload.length ∧ c.payload.length ≤ 56

theorem Pooled.takeCell (h : s.Pooled []) (fit : s.PayloadsFit) {k : DataKind} {act : AdmittedCell → State → State}
    (own : ∀ c (u : State), c.payload.length ≤ 56 → u.Pooled [] → (act c u).Pooled []) :
    (s.takeCell k act).Pooled [] := by
  unfold State.takeCell
  split
  · next c rest stream =>
    split
    · exact own _ _ (fit c (by rw [stream]; exact List.mem_cons_self)).2 (h.of_parts rfl rfl rfl)
    · exact h
  · exact h
  · exact h

theorem Pooled.gapTimerExpiry (h : s.Pooled []) (i : Fin 48) : (s.gapTimerExpiry i).Pooled [] := by
  unfold State.gapTimerExpiry context
  split
  · next body =>
    split
    · exact h.abortToFree (by rw [body]; rfl) _
    · exact h
  · next body =>
    split
    · exact h.put_same i (c := { s.reassembly.contexts[i] with body := .free }) (by simp) (by simp) (by simp)
        (by rw [body]; rfl)
    · exact h
  · exact h
  · exact h

theorem Pooled.trunkLoss (h : s.Pooled []) : s.trunkLoss.Pooled [] := by
  unfold State.trunkLoss
  split
  · exact h
  · have posted : ((s.changeRx fun x => { x with link := .down }).post .trunkDown 0).Pooled [] :=
      h.of_parts (by simp) (by simp) (by simp)
    exact (posted.endContexts .trunkLoss (List.finRange 48)).of_parts (by simp) (by simp) (by simp)

theorem Pooled.removalWork (h : s.Pooled []) : s.removalWork.Pooled [] := by
  unfold State.removalWork
  split
  · next stations rest _ =>
    have streamed : (s.withStream rest).Pooled [] := h.of_parts rfl rfl rfl
    exact (streamed.endContexts .flushed (s.removedContexts stations)).of_parts (by simp) (by simp) (by simp)
  · exact h
  · exact h

/-! ### The records -/

theorem Pooled.setQueue (h : s.Pooled loose) {x : Queue} (records : x.records = s.delivery.queues[q].records)
    (charge : x.charge = s.delivery.queues[q].charge) : (s.setQueue q x).Pooled loose := by
  refine h.of_same rfl rfl (fun j => ?_) (fun j => ?_) <;> rw [setQueue_queues] <;> split
  · next same => rw [Queue.chains, records, same, Queue.chains]
  · rfl
  · next same => rw [charge, same]
  · rfl

/-- R120: records leave queue `q`; their references are still to be dropped. -/
theorem Pooled.keepRecords (h : s.Pooled loose) {kept removed : List Record}
    (parts : s.delivery.queues[q].records.Perm (kept ++ removed)) :
    (s.keepRecords q kept removed).Pooled (removed.map Record.chain ++ loose) := by
  refine BlockPool.Pooled.keep (q := q) h (x := { s.queue q with
    records := kept, charge := (s.queue q).charge - (removed.map s.recordCharge).sum }) ?_ ?_ rfl
  · rw [Queue.chains, Queue.chains, ← List.map_append]
    exact parts.map Record.chain
  · rw [List.map_map]
    rfl

theorem Pooled.dropReference {h : Nat} (hs : s.Pooled (h :: loose)) : (s.dropReference h).Pooled loose := by
  have pool : (s.dropReference h).pool = s.pool.dropped h := dropReference_pool h s
  have reassembly : (s.dropReference h).reassembly = s.reassembly := by simp
  have delivery : (s.dropReference h).delivery = s.delivery := by simp
  rw [Pooled, contextChains, pool, reassembly, delivery]
  exact BlockPool.Pooled.drop hs

theorem Pooled.dropReferences {l : List Record} (h : s.Pooled (l.map Record.chain ++ loose)) :
    (s.dropReferences l).Pooled loose := by
  induction l generalizing s with
  | nil => exact h
  | cons r l ih => exact ih (Pooled.dropReference h)

theorem Pooled.removeHead (h : s.Pooled loose) (q : Fin 8) : (s.removeHead q).Pooled loose := by
  unfold State.removeHead
  split
  · exact h
  · next r rest records =>
    have parts : s.delivery.queues[q].records.Perm (rest ++ [r]) :=
      (show s.delivery.queues[q].records = r :: rest from records) ▸ (List.perm_append_singleton r rest).symm
    exact (h.keepRecords parts).dropReferences

theorem Pooled.closeHead (h : s.Pooled loose) (q : Fin 8) (f : QueueCounters → QueueCounters) :
    ((s.closeFlight q f).removeHead q).Pooled loose :=
  have closed : (s.closeFlight q f).Pooled loose := Pooled.setQueue h rfl rfl
  closed.removeHead q

theorem Pooled.deliveryFrameEnd (h : s.Pooled loose) : s.deliveryFrameEnd.Pooled loose := by
  unfold State.deliveryFrameEnd
  split
  · split
    · unfold endStreamed
      dsimp only
      split
      · exact h
      · exact (h.closeHead _ _).of_parts rfl rfl rfl
    · exact h.of_parts rfl rfl rfl
  · exact h
  · exact h
  · exact h

theorem Pooled.haltOnDamage (h : s.Pooled loose) (f : DeliveryFrame) (sent : List Byte) :
    (s.haltOnDamage f sent).Pooled loose := by
  have removed := h.closeHead f.queue fun c => { c with memoryErrors := satInc c.memoryErrors }
  unfold State.haltOnDamage
  dsimp only
  generalize State.removeHead f.queue _ = v at removed ⊢
  exact (Pooled.setQueue removed (x := { v.queue f.queue with state := .halted .memory }) rfl rfl).of_parts (by simp)
    (by simp) (by simp)

theorem Pooled.deliveryMemoryError (h : s.Pooled loose) : s.deliveryMemoryError.Pooled loose := by
  unfold State.deliveryMemoryError
  split
  · split
    · split
      · exact h.haltOnDamage _ _
      · exact h
    · exact h
  · exact h
  · exact h
  · exact h

theorem Pooled.startDelivery (h : s.Pooled loose) (q : Fin 8) (turns : Nat) (r : Record) :
    (s.startDelivery q turns r).Pooled loose := by
  have scheduled : (s.withDelivery { s.delivery with current := q, turns := turns }).Pooled loose := h.of_same rfl rfl
    (fun _ => rfl) fun _ => rfl
  exact (scheduled.setQueue (q := q) (x := { s.queue q with inFlight := true, credit := (s.queue q).credit - 1 }) rfl
    rfl).of_parts rfl rfl rfl

theorem Pooled.deliveryFrameStart (h : s.Pooled loose) : s.deliveryFrameStart.Pooled loose := by
  unfold State.deliveryFrameStart
  split
  · split
    · split
      · exact h.startDelivery _ _ _
      · exact h
    · exact h
  · exact h

theorem flushed_parts (x : Queue) : x.records.Perm (x.flushed.1 ++ x.flushed.2) := by
  unfold Queue.flushed
  split
  · exact .of_eq (List.take_append_drop 1 x.records).symm
  · exact .refl _

theorem Pooled.flushQueue (h : s.Pooled loose) (t : Fin 4) (r : Request) : (State.flushQueue t r s).1.Pooled loose := by
  unfold State.flushQueue forQueue
  split
  · exact h
  · next q _ =>
    have kept := h.keepRecords (q := q) (flushed_parts (s.queue q))
    exact Pooled.dropReferences (Pooled.setQueue kept (q := q) rfl rfl)

/-! ### The queues without their records -/

theorem chains_lose (b : Bool) (x : Queue) : (x.lose b).chains = x.chains ∧ (x.lose b).charge = x.charge := by
  cases b with
  | false => exact ⟨rfl, rfl⟩
  | true =>
    refine ⟨?_, rfl⟩
    rw [Queue.chains, Queue.chains, Queue.lose, if_pos rfl]
    cases x.records <;> rfl

theorem Pooled.uplinkDown (h : s.Pooled loose) : s.uplinkDown.Pooled loose := by
  unfold State.uplinkDown
  split
  · exact h
  · exact h.of_parts rfl rfl rfl
  · have delivery : s.uplinkLoss.delivery = s.loseDelivery.delivery := by simp [uplinkLoss]
    refine h.of_same (by simp) (by simp) (fun q => ?_) (fun q => ?_) <;> rw [delivery, loseDelivery_queues] <;> split
    · rw [(chains_lose ..).1, (chains_lose ..).1]
    · rw [(chains_lose ..).1]
    · rw [(chains_lose ..).2, (chains_lose ..).2]
    · rw [(chains_lose ..).2]

theorem Pooled.addCredit (h : s.Pooled loose) (q : Fin 8) (n : Byte) : (s.addCredit q n).Pooled loose := by
  have added : (s.setQueue q { s.queue q with credit := satAdd (s.queue q).credit n.toNat }).Pooled loose :=
    h.setQueue rfl rfl
  unfold State.addCredit
  dsimp only
  split
  · exact added
  · exact added.of_parts (by simp) (by simp) (by simp)

theorem Pooled.receiveUplinkUnit (h : s.Pooled loose) (x : LaneUnit) : (s.receiveUplinkUnit x).Pooled loose := by
  rw [receiveUplinkUnit_eq]
  split
  · cases checkInbound x with
    | request r => exact h.of_parts (by simp [takeInbound]) (by simp [takeInbound]) (by simp [takeInbound])
    | error d => exact h.of_parts (by simp [takeInbound]) (by simp [takeInbound]) (by simp [takeInbound])
    | credit b n =>
      show (s.arriveCredit b n).Pooled loose
      unfold arriveCredit
      split
      · exact h.addCredit _ _
      · exact h.of_parts (by simp) (by simp) (by simp)
  · exact h

theorem Pooled.clearGroup (h : s.Pooled loose) (g : Group) : (s.clearGroup g).Pooled loose := by
  cases g with
  | queue =>
    have cleared (q : Fin 8) : (s.clearGroup .queue).delivery.queues[q] = s.delivery.queues[q].clearCounters :=
      getElem_fin_mapTable ..
    exact h.of_same rfl rfl (fun q => by rw [cleared]; rfl) fun q => by rw [cleared]; rfl
  | _ => exact h.of_parts rfl rfl rfl

theorem Pooled.readCounters (h : s.Pooled loose) (t : Fin 4) (r : Request) :
    (State.readCounters t r s).1.Pooled loose := by
  unfold State.readCounters
  split
  · exact h
  · dsimp only
    split
    · exact h
    · split
      · exact h.clearGroup _
      · exact h

theorem Pooled.clearCounters (h : s.Pooled loose) (t : Fin 4) (r : Request) :
    (State.clearCounters t r s).1.Pooled loose := by
  unfold State.clearCounters
  split
  · exact h
  · exact h.clearGroup _

/-! ### The end step -/

theorem offered_offerCopy {d : Delivery} {m : Message} {mark : Bool} {o : Offer} {x : Nat × State}
    (h : BlockPool.Offered m.chain.head m.chain.count d x.2.delivery x.1) :
    BlockPool.Offered m.chain.head m.chain.count d (offerCopy m mark o x).2.delivery (offerCopy m mark o x).1 := by
  unfold offerCopy
  split
  · refine h.append (q := o.queue) ?_ rfl
    rw [Queue.chains, List.map_append]
    rfl
  · have kept := h.keep (q := o.queue) (x := { x.2.queue o.queue with counters := { (x.2.queue o.queue).counters with
      droppedFull := satInc (x.2.queue o.queue).counters.droppedFull } }) rfl rfl
    have delivery : (x.2.refuseCopy o.queue).delivery = (x.2.setQueue o.queue { x.2.queue o.queue with
        counters := { (x.2.queue o.queue).counters with
          droppedFull := satInc (x.2.queue o.queue).counters.droppedFull } }).delivery := by
      simp [refuseCopy]
    rw [delivery]
    exact kept

theorem offered_offerCopies (m : Message) (a : ClauseAction) (s : State) :
    BlockPool.Offered m.chain.head m.chain.count s.delivery (s.offerCopies m a).2.delivery (s.offerCopies m a).1 := by
  have all (l : List Offer) (x : Nat × State)
      (h : BlockPool.Offered m.chain.head m.chain.count s.delivery x.2.delivery x.1) :
      BlockPool.Offered m.chain.head m.chain.count s.delivery
        (l.foldl (fun st o => offerCopy m a.mark o st) x).2.delivery
        (l.foldl (fun st o => offerCopy m a.mark o st) x).1 := by
    induction l generalizing x with
    | nil => exact h
    | cons o l ih => exact ih _ (offered_offerCopy h)
  exact all _ _ (.refl s.delivery)

/-- R83, R92, R93: an action makes at most two copies. -/
theorem copies_le_two (m : Message) (a : ClauseAction) (s : State) : (s.offerCopies m a).1 ≤ 2 := by
  have one (b : Byte) (mirrored : Bool) : (offerTo b mirrored).length ≤ 1 := by
    unfold offerTo
    split <;> simp
  have offers : a.offers.length ≤ 2 := by
    cases a with
    | none => exact Nat.zero_le 2
    | discard => exact Nat.zero_le 2
    | deliver b _ => exact (one b false).trans (by decide)
    | mirror b b2 _ =>
      have first := one b false
      have second := one b2 true
      rw [ClauseAction.offers, List.length_append]
      omega
  have all (l : List Offer) (x : Nat × State) :
      (l.foldl (fun st o => offerCopy m a.mark o st) x).1 ≤ x.1 + l.length := by
    induction l generalizing x with
    | nil => exact Nat.le_refl _
    | cons o l ih =>
      have next : (offerCopy m a.mark o x).1 ≤ x.1 + 1 := by
        unfold offerCopy
        split
        · exact Nat.le_refl _
        · exact Nat.le_succ _
      have rest := ih (offerCopy m a.mark o x)
      rw [List.foldl_cons, List.length_cons]
      omega
  have bound := all a.offers (0, s)
  rw [offerCopies]
  omega

theorem Pooled.endEvaluated (h : s.Pooled []) {m : Message} (had : s.reassembly.contexts[i].body = .complete m)
    (x : Properties) : (s.endEvaluated i m x).Pooled [] := by
  unfold State.endEvaluated
  dsimp only
  generalize s.program.active.evaluate x = v
  generalize v.action.getD s.program.active.default.action = a
  have offered : BlockPool.Offered m.chain.head m.chain.count s.delivery _ _ :=
    offered_offerCopies m a (s.countHits v.hits)
  have few := copies_le_two m a (s.countHits v.hits)
  have pool : ((s.countHits v.hits).offerCopies m a).2.pool = s.pool := by simp [countHits]
  have reassembly : ((s.countHits v.hits).offerCopies m a).2.reassembly = s.reassembly := by simp [countHits]
  generalize (s.countHits v.hits).offerCopies m a = r at offered few pool reassembly ⊢
  refine h.exchange i (c := { s.reassembly.contexts[i] with body := .free }) (by simp [reassembly])
    (old := some m.chain) (new := none) (by rw [had]; rfl) rfl fun cs hp => ?_
  simp only [idleClassifier_frame, countClassified_frame, setBody_frame, disposeChain_pool, disposeChain_frame,
    takeMessageId_frame, pool]
  split
  · next none => exact BlockPool.Pooled.refuse (hp.release) (none ▸ offered)
  · exact BlockPool.Pooled.adopt hp offered (by omega)

theorem Pooled.classificationEnd (h : s.Pooled []) : s.classificationEnd.Pooled [] := by
  unfold State.classificationEnd
  split
  · exact h
  · next i g state =>
    split
    · next m body =>
      have had : s.reassembly.contexts[i].body = .complete m := body
      split
      · exact h.endEvaluated had _
      · exact h.put_released i (c := { s.reassembly.contexts[i] with body := .free }) (ch := m.chain)
          (by simp [endDamaged]) (by simp [endDamaged]) (by simp [endDamaged]) (by rw [had]; rfl) rfl
    · exact h
    · exact h
    · exact h

/-! ### Every command -/

theorem Pooled.of_empty (canonical : s.pool.Canonical) (free : s.pool.free = List.range 2048)
    (chains : s.pool.chains = []) (contexts : ∀ i : Fin 48, s.reassembly.contexts[i].body = .free)
    (queues : ∀ q : Fin 8, s.delivery.queues[q].records = [] ∧ s.delivery.queues[q].charge = 0) : s.Pooled [] := by
  have none : s.contextChains = [] := by
    rw [contextChains, toList_eq_finRange, List.flatMap_map, List.flatMap_eq_nil_iff]
    exact fun i _ => by rw [contexts]; rfl
  have unnamed : s.delivery.chains = [] := by
    rw [Delivery.chains, toList_eq_finRange, List.flatMap_map, List.flatMap_eq_nil_iff]
    exact fun q _ => by rw [Queue.chains, (queues q).1]; rfl
  have held : s.pool.Holds [] := ⟨canonical, nofun, by rw [free]; simp⟩
  rw [Pooled, none]
  refine ⟨by rw [chains]; exact held, fun h => ?_, by rw [chains]; nofun, fun q => ?_⟩
  · rw [unnamed, BlockPool.chainEntry, chains]
    rfl
  · rw [Queue.chains, (queues q).1, (queues q).2]
    rfl

theorem pooled_restartParts (canonical : s.pool.Canonical) : s.restartParts.Pooled [] := by
  refine .of_empty ?_ (by simp [restartParts, rebuildPool]) (by simp [restartParts, rebuildPool]) (fun i => ?_)
    fun q => ?_
  · simpa [restartParts, rebuildPool] using canonical_rebuilt canonical
  · simp [restartParts, restartReassembly, Context.restart]
  · simp [restartParts, restartDelivery, Queue.restart]

theorem pooled_reset : State.reset.Pooled [] := by
  have context (i : Fin 48) : State.reset.reassembly.contexts[i] = Context.fresh := by simp [State.reset]
  have queue (q : Fin 8) : State.reset.delivery.queues[q] = Queue.fresh := by simp [State.reset]
  have pool : State.reset.pool = BlockPool.fresh := by rw [State.reset]
  exact .of_empty (by rw [pool]; exact ⟨rfl, rfl, rfl⟩) (by rw [pool, BlockPool.fresh]) (by rw [pool, BlockPool.fresh])
    (fun i => by rw [context]; rfl) fun q => by rw [queue]; exact ⟨rfl, rfl⟩

theorem Pooled.take (h : s.Pooled loose) {body : Execution}
    (own : ∀ t r (u : State), u.Pooled loose → (body t r u).1.Pooled loose) (k : RequestKind) :
    (s.take k body).Pooled loose :=
  takeRequest_rel (R := fun s u => s.Pooled loose → u.Pooled loose) (fun _ h => h) (fun h h' x => h' (h x))
    (fun _ _ h => h.of_parts rfl rfl rfl) own k _ s h

theorem Pooled.after (h : s.Pooled []) (fit : s.PayloadsFit) (c : Instr) : (s.after c).Pooled [] := by
  cases c with
  | powerOn => exact pooled_reset.of_parts rfl rfl rfl
  | trunkLoss => exact h.trunkLoss
  | dataOnly => exact h.takeCell fit fun c u small hu => (hu.endKeyContext _ _).startMessage c true small
  | dataFirst => exact h.takeCell fit fun c u small hu => (hu.endKeyContext _ _).startMessage c false small
  | dataMiddle => exact h.takeCell fit fun c u small hu => hu.continueMessage false c small
  | dataLast => exact h.takeCell fit fun c u small hu => hu.continueMessage true c small
  | gapTimerExpiry i => exact h.gapTimerExpiry i
  | classifierTake =>
    refine (h.of_parts (by simp) ?_ (by simp) : s.classifierTake.Pooled [])
    unfold State.classifierTake
    split
    · split
      · rfl
      · split <;> rfl
    · rfl
    · rfl
  | classificationEnd => exact h.classificationEnd
  | trainingFailure => exact h.uplinkDown
  | lossOfSignal => exact h.uplinkDown
  | requestFrame x => exact h.receiveUplinkUnit x
  | creditFrame x => exact h.receiveUplinkUnit x
  | uplinkFrameError x => exact h.receiveUplinkUnit x
  | deliveryFrameStart => exact h.deliveryFrameStart
  | deliveryFrameEnd => exact h.deliveryFrameEnd
  | deliveryMemoryError => exact h.deliveryMemoryError
  | removalWork => exact h.removalWork
  | softRestart => exact h.take (fun _ _ u hu => pooled_restartParts (BlockPool.Pooled.held hu).canonical) _
  | haltQueue =>
    refine h.take (fun t r u hu => ?_) _
    unfold State.haltQueue forQueue
    split
    · exact hu
    · exact Pooled.setQueue hu rfl rfl
  | restartQueue =>
    refine h.take (fun t r u hu => ?_) _
    unfold State.restartQueue forQueue
    split
    · exact hu
    · exact Pooled.setQueue hu rfl rfl
  | flushQueue => exact h.take (fun t r _ hu => hu.flushQueue t r) _
  | readCounters => exact h.take (fun t r _ hu => hu.readCounters t r) _
  | clearCounters => exact h.take (fun t r _ hu => hu.clearCounters t r) _
  | _ =>
    refine keeps_after (P := fun s => s.Pooled []) [.blockPool, .reassemblyUnit, .deliveryUnit]
      (fun u v same hu => ?_) (by simp [reachOfAny, Instr.reach, Block.hold]) h
    have pool : v.pool = u.pool := same .blockPool (by simp)
    have reassembly : v.reassembly = u.reassembly := same .reassemblyUnit (by simp)
    have delivery : v.delivery = u.delivery := same .deliveryUnit (by simp)
    exact hu.of_parts pool (by rw [reassembly]) delivery

end State
end Sys2Proof.Machine
end

section
/-! Every step keeps the Block Pool sound: beside its chains and records, the free count that the Hold Controller has
(R39) and what the waiting cells carry (R6). -/

namespace Sys2Proof.Machine

namespace State

variable {s u : State} {i : Fin 48}

/-! ### The free count -/

/-- R39: the Hold Controller has the present free count. -/
def Handed (s : State) : Prop := s.hold.lastFree = s.pool.free.length

@[simp] theorem evaluateHold_lastFree (s : State) : s.evaluateHold.hold.lastFree = s.hold.lastFree := by
  unfold evaluateHold
  split
  · split
    · simp [beginHold]
    · rfl
  · split
    · simp [endHold]
    · rfl
  · rfl
  · rfl

theorem handed_handFreeCount (s : State) : s.handFreeCount.Handed := by
  rw [Handed, handFreeCount, evaluateHold_lastFree]
  simp

theorem handed_releaseChain (c : Chain) (s : State) : (s.releaseChain c).Handed := handed_handFreeCount _

theorem Handed.of_same (h : s.Handed) (last : u.hold.lastFree = s.hold.lastFree)
    (free : u.pool.free.length = s.pool.free.length) : u.Handed := by
  rw [Handed, last, free]
  exact h

theorem Handed.of_parts (h : s.Handed) (hold : u.hold = s.hold) (pool : u.pool = s.pool) : u.Handed :=
  h.of_same (by rw [hold]) (by rw [pool])

theorem Handed.evaluateHold (h : s.Handed) : s.evaluateHold.Handed := h.of_same (by simp) (by simp)

theorem Handed.storedPool (h : s.Handed) (p : BlockPool) : (s.storedPool p).Handed := by
  unfold State.storedPool
  split
  · next same => exact h.of_same rfl same
  · exact handed_handFreeCount _

theorem Handed.dropReference (h : s.Handed) (b : Nat) : (s.dropReference b).Handed := by
  unfold State.dropReference
  dsimp only
  split
  · exact h.of_same rfl rfl
  · exact handed_releaseChain _ _

theorem Handed.dropReferences (h : s.Handed) (l : List Record) : (s.dropReferences l).Handed := by
  induction l generalizing s with
  | nil => exact h
  | cons r l ih => exact ih (h.dropReference r.chain)

theorem handed_abortToFree (i : Fin 48) (m : Message) (r : AbortReason) (s : State) : (s.abortToFree i m r).Handed := by
  have released := handed_releaseChain m.chain (s.setContext i { body := .free, lastAbort := r })
  exact released.of_parts (by simp [abortToFree]) (by simp)

theorem handed_abortAtCell (last : Bool) (i : Fin 48) (m : Message) (r : AbortReason) (s : State) :
    (s.abortAtCell last i m r).Handed := by
  cases last
  · have released := handed_releaseChain m.chain
      (s.setContext i { body := .discarding m.station m.channel s.gapExpiry, lastAbort := r })
    exact released.of_parts (by simp [abortAtCell, abortToDiscarding]) (by simp)
  · exact handed_abortToFree i m r s

theorem Handed.endContext (h : s.Handed) (r : AbortReason) (i : Fin 48) : (s.endContext r i).Handed := by
  unfold State.endContext
  split
  · exact handed_abortToFree ..
  · exact h.of_parts (by simp) (by simp)
  · exact h
  · exact h

theorem Handed.endContexts (h : s.Handed) (r : AbortReason) (l : List (Fin 48)) : (s.endContexts r l).Handed := by
  induction l generalizing s with
  | nil => exact h
  | cons i l ih => exact ih (h.endContext r i)

theorem Handed.endKeyContext (h : s.Handed) (a : Addr) (ch : Chan) : (s.endKeyContext a ch).Handed := by
  unfold State.endKeyContext
  split
  · exact h
  · exact h.endContext _ _

theorem Handed.startMessage (h : s.Handed) (c : AdmittedCell) (whole : Bool) : (s.startMessage c whole).Handed := by
  unfold State.startMessage
  split
  · exact h.of_parts (by simp) (by simp)
  · split
    · exact h.of_parts (by simp) (by simp)
    · next p _ => cases whole <;> exact (h.storedPool p).of_parts (by simp) (by simp)

theorem Handed.continueMessage (h : s.Handed) (last : Bool) (c : AdmittedCell) :
    (s.continueMessage last c).Handed := by
  unfold State.continueMessage
  split
  · exact h.of_parts (by simp) (by simp)
  · split
    · unfold continueOpen
      split
      · split
        · exact handed_abortAtCell ..
        · split
          · exact handed_abortAtCell ..
          · next p _ => exact (h.storedPool p).of_parts (by simp) (by simp)
      · split
        · exact h.of_parts (by simp) (by simp)
        · exact handed_abortAtCell ..
    · exact h.of_parts (by simp) (by simp)
    · exact h
    · exact h

theorem Handed.takeCell (h : s.Handed) {k : DataKind} {act : AdmittedCell → State → State}
    (own : ∀ c (u : State), u.Handed → (act c u).Handed) : (s.takeCell k act).Handed := by
  unfold State.takeCell
  split
  · split
    · exact own _ _ (h.of_parts rfl rfl)
    · exact h
  · exact h
  · exact h

theorem Handed.gapTimerExpiry (h : s.Handed) (i : Fin 48) : (s.gapTimerExpiry i).Handed := by
  unfold State.gapTimerExpiry
  split
  · split
    · exact handed_abortToFree ..
    · exact h
  · split
    · exact h.of_parts (by simp) (by simp)
    · exact h
  · exact h
  · exact h

theorem Handed.trunkLoss (h : s.Handed) : s.trunkLoss.Handed := by
  unfold State.trunkLoss
  split
  · exact h
  · have posted : ((s.changeRx fun x => { x with link := .down }).post .trunkDown 0).Handed :=
      h.of_parts (by simp) (by simp)
    exact (posted.endContexts .trunkLoss (List.finRange 48)).of_same (by simp [quietHold]) (by simp)

theorem Handed.removalWork (h : s.Handed) : s.removalWork.Handed := by
  unfold State.removalWork
  split
  · next stations rest _ =>
    have streamed : (s.withStream rest).Handed := h.of_parts rfl rfl
    exact (streamed.endContexts .flushed (s.removedContexts stations)).of_parts (by simp) (by simp)
  · exact h
  · exact h

theorem Handed.disposeChain (h : s.Handed) (c : Chain) (n : Nat) : (s.disposeChain c n).Handed := by
  unfold State.disposeChain
  split
  · exact handed_releaseChain c s
  · exact h.of_same rfl rfl

theorem Handed.classificationEnd (h : s.Handed) : s.classificationEnd.Handed := by
  unfold State.classificationEnd
  split
  · exact h
  · split
    · next m _ =>
      split
      · unfold endEvaluated
        dsimp only
        generalize s.program.active.evaluate _ = v
        generalize v.action.getD s.program.active.default.action = a
        have offered : ((s.countHits v.hits).offerCopies m a).2.Handed := h.of_parts (by simp) (by simp)
        generalize (s.countHits v.hits).offerCopies m a = r at offered ⊢
        have taken : (r.2.takeMessageId r.1).Handed := offered.of_parts (by simp) (by simp)
        exact (taken.disposeChain m.chain r.1).of_parts (by simp) (by simp)
      · unfold endDamaged
        exact (handed_releaseChain m.chain s).of_parts (by simp) (by simp)
    · exact h
    · exact h
    · exact h

theorem Handed.removeHead (h : s.Handed) (q : Fin 8) : (s.removeHead q).Handed := by
  unfold State.removeHead
  split
  · exact h
  · next r rest _ =>
    have kept : (s.keepRecords q rest [r]).Handed := h.of_parts rfl rfl
    exact kept.dropReferences [r]

theorem Handed.deliveryFrameEnd (h : s.Handed) : s.deliveryFrameEnd.Handed := by
  unfold State.deliveryFrameEnd
  split
  · next f _ =>
    split
    · unfold endStreamed
      dsimp only
      split
      · exact h
      · have closed : (s.closeFlight f.queue (countDelivered f.header.length)).Handed := h.of_parts rfl rfl
        exact (closed.removeHead f.queue).of_parts rfl rfl
    · exact h.of_parts rfl rfl
  · exact h
  · exact h
  · exact h

theorem Handed.deliveryMemoryError (h : s.Handed) : s.deliveryMemoryError.Handed := by
  unfold State.deliveryMemoryError
  split
  · next f _ =>
    split
    · split
      · unfold haltOnDamage
        have closed : (s.closeFlight f.queue fun c => { c with memoryErrors := satInc c.memoryErrors }).Handed :=
          h.of_parts rfl rfl
        exact (closed.removeHead f.queue).of_parts (by simp) (by simp)
      · exact h
    · exact h
  · exact h
  · exact h
  · exact h

theorem Handed.flushQueue (h : s.Handed) (t : Fin 4) (r : Request) : (State.flushQueue t r s).1.Handed := by
  unfold State.flushQueue forQueue
  split
  · exact h
  · refine Handed.dropReferences ?_ _
    exact h.of_parts rfl rfl

theorem Handed.trunkUp (h : s.Handed) : s.trunkUp.Handed := by
  unfold State.trunkUp
  split
  · exact h
  · exact Handed.evaluateHold (h.of_parts (by simp) (by simp))

theorem Handed.refreshTimerExpiry (h : s.Handed) : s.refreshTimerExpiry.Handed := by
  unfold State.refreshTimerExpiry
  split
  · exact h
  · split
    · exact h.of_same (by simp [requestHold]) (by simp)
    · exact h

theorem Handed.setParam (h : s.Handed) (t : Fin 4) (r : Request) : (State.setParam t r s).1.Handed := by
  have handParam (n : Nat) (u : State) (hu : u.Handed) : (u.handParam n).Handed := by
    unfold State.handParam
    split
    · exact hu.evaluateHold
    · split
      · split
        · exact hu
        · exact hu.of_parts rfl rfl
      · exact hu
  unfold State.setParam
  split
  · exact handParam _ _ (h.of_parts rfl rfl)
  · exact h

theorem Handed.sendHold (h : s.Handed) (t : Fin 4) (r : Request) : (State.sendHold t r s).1.Handed := by
  unfold State.sendHold
  split
  · exact h
  · split
    · exact h
    · show (s.manualHold _).Handed
      unfold manualHold
      split <;> exact h.of_same (by simp [requestHold]) (by simp)

theorem Handed.sendRelease (h : s.Handed) (t : Fin 4) (r : Request) : (State.sendRelease t r s).1.Handed := by
  unfold State.sendRelease
  split
  · exact h
  · exact h.of_parts (by simp [requestRelease, reply]) (by simp [reply])
  · exact h

theorem handed_reset : State.reset.Handed := by
  have pool : State.reset.pool = BlockPool.fresh := by rw [State.reset]
  rw [Handed, pool, BlockPool.fresh, List.length_range]
  rfl

theorem Handed.take (h : s.Handed) {body : Execution} (own : ∀ t r (u : State), u.Handed → (body t r u).1.Handed)
    (k : RequestKind) : (s.take k body).Handed :=
  takeRequest_rel (R := fun s u => s.Handed → u.Handed) (fun _ h => h) (fun h h' x => h' (h x))
    (fun _ _ h => h.of_parts rfl rfl) own k _ s h

theorem Handed.after (h : s.Handed) (c : Instr) : (s.after c).Handed := by
  cases c with
  | powerOn => exact handed_reset.of_parts rfl rfl
  | trunkUp => exact h.trunkUp
  | trunkLoss => exact h.trunkLoss
  | dataOnly => exact h.takeCell fun c _ hu => (hu.endKeyContext _ _).startMessage c true
  | dataFirst => exact h.takeCell fun c _ hu => (hu.endKeyContext _ _).startMessage c false
  | dataMiddle => exact h.takeCell fun c _ hu => hu.continueMessage false c
  | dataLast => exact h.takeCell fun c _ hu => hu.continueMessage true c
  | gapTimerExpiry i => exact h.gapTimerExpiry i
  | classificationEnd => exact h.classificationEnd
  | refreshTimerExpiry => exact h.refreshTimerExpiry
  | deliveryFrameEnd => exact h.deliveryFrameEnd
  | deliveryMemoryError => exact h.deliveryMemoryError
  | removalWork => exact h.removalWork
  | setParam => exact h.take (fun t r _ hu => hu.setParam t r) _
  | softRestart => exact h.take (fun _ _ _ _ => handed_handFreeCount _) _
  | flushQueue => exact h.take (fun t r _ hu => hu.flushQueue t r) _
  | sendHold => exact h.take (fun t r _ hu => hu.sendHold t r) _
  | sendRelease => exact h.take (fun t r _ hu => hu.sendRelease t r) _
  | _ =>
    refine keeps_after (P := Handed) [.blockPool, .holdController] (fun u v same hu => ?_)
      (by simp [reachOfAny, Instr.reach, Block.uplinkLoss]) h
    exact hu.of_parts (same .holdController (by simp)) (same .blockPool (by simp))

/-! ### What the waiting cells carry -/

theorem PayloadsFit.of_stream (h : s.PayloadsFit) (stream : ∀ c, .cell c ∈ u.stream → .cell c ∈ s.stream) :
    u.PayloadsFit :=
  fun c mem => h c (stream c mem)

theorem PayloadsFit.of_same (h : s.PayloadsFit) (stream : u.stream = s.stream) : u.PayloadsFit :=
  h.of_stream fun _ mem => stream ▸ mem

theorem PayloadsFit.withStream {rest : List StreamItem} {x : StreamItem} (h : s.PayloadsFit)
    (stream : s.stream = x :: rest) : (s.withStream rest).PayloadsFit :=
  h.of_stream fun c mem => by rw [stream]; exact List.mem_cons_of_mem _ mem

theorem PayloadsFit.takeCell (h : s.PayloadsFit) {k : DataKind} {act : AdmittedCell → State → State}
    (own : ∀ c (u : State), (act c u).stream = u.stream) : (s.takeCell k act).PayloadsFit := by
  unfold State.takeCell
  split
  · next c rest stream =>
    split
    · exact (h.withStream stream).of_same (own c _)
    · exact h
  · exact h
  · exact h

theorem PayloadsFit.removalWork (h : s.PayloadsFit) : s.removalWork.PayloadsFit := by
  unfold State.removalWork
  split
  · next stations rest stream => exact (h.withStream stream).of_same (by simp)
  · exact h
  · exact h

/-- R28, R29: removal work is no cell. -/
theorem PayloadsFit.handRemoval (h : s.PayloadsFit) (t : Fin 4) (r : Request) (k : RequestKind) (l : List Addr) :
    (s.handRemoval t r k l).1.PayloadsFit :=
  h.of_stream fun c mem => by
    obtain mem | mem := List.mem_append.1 (mem : _ ∈ s.stream ++ [.removal l])
    · exact mem
    · nomatch List.mem_singleton.1 mem

theorem PayloadsFit.removeStation (h : s.PayloadsFit) (t : Fin 4) (r : Request) :
    (State.removeStation t r s).1.PayloadsFit := by
  unfold State.removeStation
  split
  · exact h
  · next a _ =>
    split
    · exact h
    · next i _ => exact PayloadsFit.handRemoval (s := s.setEntry i none) (h.of_same rfl) t r .removeStation [a]

/-- R6: an admitted cell has a payload of 1 to 56 bytes. -/
theorem payload_of_admitted {a : Addr} {x : LaneUnit} {k : DataKind} (h : admission a x = .admitted k) :
    1 ≤ (cellPayload x.bytes).length ∧ (cellPayload x.bytes).length ≤ 56 := by
  have format : ∃ k, cellFormat x.bytes = some (.data k) := by
    unfold admission at h
    split at h
    · split at h
      · nomatch h
      · nomatch h
      · nomatch h
      · next k format => exact ⟨k, format⟩
    · nomatch h
  obtain ⟨k', format⟩ := format
  have fits : 1 ≤ cellPayloadLength x.bytes ∧ cellPayloadLength x.bytes ≤ 56 ∧
      x.bytes.length = 9 + cellPayloadLength x.bytes := by
    unfold cellFormat at format
    split at format
    · dsimp only at format
      split at format
      · next fits => exact fits
      · nomatch format
    · next k'' notData _ =>
      split at format
      · exact absurd (Option.some.inj format) fun same => notData k' (by rw [← same])
      · nomatch format
    · nomatch format
  rw [cellPayload, List.length_take, List.length_drop]
  omega

theorem PayloadsFit.handCell (h : s.PayloadsFit) {c : AdmittedCell} (fit : 1 ≤ c.payload.length ∧ c.payload.length ≤ 56) :
    (s.handCell c).PayloadsFit := by
  intro x mem
  obtain mem | mem := List.mem_append.1 (mem : _ ∈ s.stream ++ [.cell c])
  · exact h x mem
  · cases List.mem_singleton.1 mem
    exact fit

theorem PayloadsFit.lookupCell (h : s.PayloadsFit) (k : DataKind) {bytes : List Byte}
    (fit : 1 ≤ (cellPayload bytes).length ∧ (cellPayload bytes).length ≤ 56) : (s.lookupCell k bytes).PayloadsFit := by
  have accepted (v : State) (i : Fin 64) (e : StationEntry) (hv : v.PayloadsFit) :
      (v.acceptedCell i e k bytes).PayloadsFit :=
    PayloadsFit.handCell (hv.of_same rfl) fit
  unfold State.lookupCell
  dsimp only
  split
  · split
    · split
      · exact accepted _ _ _ h
      · exact h.of_same (by simp)
    · exact h
  · split
    · split
      · exact accepted _ _ _ (h.of_same (by simp))
      · exact h.of_same (by simp)
    · exact h.of_same (by simp)

theorem PayloadsFit.receivedCell (h : s.PayloadsFit) (x : LaneUnit) : (s.receivedCell x).PayloadsFit := by
  unfold State.receivedCell
  split
  · exact h
  · exact h
  · dsimp only
    split
    · exact h.of_same (by simp)
    · exact h.of_same (by simp)
    · exact h.of_same (by simp)
    · exact h.of_same (by simp)
    · exact h.of_same (by simp)
    · next admitted => exact (h.of_same rfl : PayloadsFit (changeRx _ s)).lookupCell _ (payload_of_admitted admitted)

theorem payloadsFit_reset : State.reset.PayloadsFit := nofun

theorem PayloadsFit.after (h : s.PayloadsFit) (c : Instr) : (s.after c).PayloadsFit := by
  have take {body : Execution} (own : ∀ t r (u : State), u.PayloadsFit → (body t r u).1.PayloadsFit)
      (k : RequestKind) : (s.take k body).PayloadsFit :=
    takeRequest_rel (R := fun s u => s.PayloadsFit → u.PayloadsFit) (fun _ h => h) (fun h h' x => h' (h x))
      (fun _ _ h => h.of_same rfl) own k _ s h
  cases c with
  | powerOn => exact payloadsFit_reset
  | receivedCell x => exact h.receivedCell x
  | dataOnly => exact h.takeCell fun _ _ => by simp
  | dataFirst => exact h.takeCell fun _ _ => by simp
  | dataMiddle => exact h.takeCell fun _ _ => by simp
  | dataLast => exact h.takeCell fun _ _ => by simp
  | removalWork => exact h.removalWork
  | removeStation => exact take (fun t r _ hu => hu.removeStation t r) _
  | flushLearned =>
    exact take (body := State.flushLearned)
      (fun t r _ hu => PayloadsFit.handRemoval (hu.of_same rfl) t r .flushLearned _) _
  | _ =>
    exact keeps_after (P := PayloadsFit) [.stream] (fun u v same hu => hu.of_same (same .stream (by simp)))
      (by simp [reachOfAny, Instr.reach, Block.hold, Block.uplinkLoss]) h

/-! ### The Block Pool -/

theorem chainsHeld_eq (s : State) : s.chainsHeld = s.contextChains ++ s.pool.chains.map BlockPool.namedChain := by
  rw [chainsHeld, contextChains, List.filterMap_eq_flatMap_toList]
  rfl

theorem poolSound_iff : s.PoolSound ↔ s.Pooled [] ∧ s.Handed ∧ s.PayloadsFit := by
  constructor
  · intro h
    refine ⟨⟨⟨h.canonical, chainsHeld_eq s ▸ h.formed, chainsHeld_eq s ▸ h.places⟩, fun b => ?_, h.counts, fun q => ?_⟩,
      h.handed, h.payloads⟩
    · rw [h.named, Delivery.naming_eq]
      rfl
    · rw [h.charges, Queue.chains, List.map_map]
      rfl
  · rintro ⟨⟨held, names⟩, handed, payloads⟩
    refine ⟨held.canonical, chainsHeld_eq s ▸ held.formed, chainsHeld_eq s ▸ held.places, fun b => ?_, names.counts,
      fun q => ?_, handed, payloads⟩
    · rw [names.named, Delivery.naming_eq]
      rfl
    · rw [names.charges, Queue.chains, List.map_map]
      rfl

theorem PoolSound.of_parts (h : s.PoolSound) (pool : u.pool = s.pool) (reassembly : u.reassembly = s.reassembly)
    (delivery : u.delivery = s.delivery) (hold : u.hold = s.hold) (stream : u.stream = s.stream) : u.PoolSound := by
  obtain ⟨pooled, handed, fit⟩ := poolSound_iff.1 h
  exact poolSound_iff.2 ⟨pooled.of_parts pool (by rw [reassembly]) delivery, handed.of_parts hold pool,
    fit.of_same stream⟩

theorem poolSound_reset : State.reset.PoolSound :=
  poolSound_iff.2 ⟨pooled_reset, handed_reset, payloadsFit_reset⟩

end State

/-- Settles O54: the chains and the records that name them, the free count that is handed on, and the cells that wait,
each along every command. -/
theorem stepKeepsThePoolSound : Obligations.StepKeepsThePoolSound := by
  refine fun s t hs h => step_keeps (P := State.PoolSound) (fun s l hs => ?_) (fun s hs => ?_) (fun c s hs => ?_) hs h
  · exact hs.of_parts rfl rfl rfl rfl rfl
  · exact hs.of_parts rfl rfl rfl rfl rfl
  · obtain ⟨pooled, handed, fit⟩ := State.poolSound_iff.1 hs
    exact State.poolSound_iff.2 ⟨pooled.after fit c, handed.after c, fit.after c⟩

end Sys2Proof.Machine
end

section
/-! The state after POWER-ON meets every invariant. -/

namespace Sys2Proof.Machine

/-- Settles O60: each invariant holds of the reset values, as its own section shows. -/
theorem resetMeetsTheInvariants : Obligations.ResetMeetsTheInvariants :=
  ⟨State.managementSound_reset, Params.inRange_reset, State.trunkSound_reset, State.poolSound_reset.canonical,
    State.poolSound_reset, State.programSound_reset, State.sound_reset, State.contextsSound_reset,
    State.openCountsSound_reset, (State.uplinkSound_iff _).2 ⟨State.laneSound_reset, fun _ => rfl⟩,
    State.eventsSound_reset⟩

end Sys2Proof.Machine
end

section
/-! The Uplink Port (R121, R153, R154, R175, R176, R181 to R186): what the link reports and the inbound units do, and the
RESPONSE and EVENT frames. -/

namespace Sys2Proof.Machine

namespace EventUnit

variable {e : EventUnit} {p : Params}

/-- R176: the test after a frame, when the slots left make the sum `n`. -/
def tested (e : EventUnit) (p : Params) (n : Nat) : EventUnit :=
  let x := { e with flushNote := false }
  if p.coalesceCount ≤ n ∨ (0 < n ∧ e.flushNote = true) then { x with due := true }
  else if 0 < n then { x with timer := some (e.timebase + BitVec.ofNat 32 (100 * p.coalesceTime)) }
  else x

theorem testAfterFrame_eq (e : EventUnit) (p : Params) : e.testAfterFrame p = e.tested p e.sum := by
  unfold testAfterFrame tested
  by_cases enough : p.coalesceCount ≤ e.sum
  · simp only [enough, true_or, if_true]
  · by_cases some : 0 < e.sum
    · cases note : e.flushNote <;> simp [enough, some, coalesceExpiry, expiryAfter]
    · simp only [enough, some, false_or, false_and, if_false]

/-- R176: an abandoned frame takes nothing out of the slots. -/
theorem abandonFrame_eq (e : EventUnit) (p : Params) : e.abandonFrame p =
    EventUnit.tested { e with slots := mapTable (fun x : EventSlot => { x with subPending := 0 }) e.slots } p e.sum := by
  have sum : EventUnit.sum { e with slots := mapTable (fun x : EventSlot => { x with subPending := 0 }) e.slots } =
      e.sum := by
    rw [EventUnit.sum, EventUnit.sum, toList_mapTable, List.map_map]
    rfl
  rw [abandonFrame, testAfterFrame_eq, sum]

end EventUnit

/-- R176: a difference of counts that stops at 0. -/
theorem ofNat_sub_toNat (x y : U16) : BitVec.ofNat 16 (x.toNat - y.toNat) = if y.toNat ≤ x.toNat then x - y else 0 := by
  split
  · bv_omega
  · next less =>
    rw [Nat.sub_eq_zero_of_le (by omega)]
    rfl

theorem mapTable_congr {α β : Type} {n : Nat} {f g : α → β} (h : ∀ x, f x = g x) (v : Vector α n) :
    mapTable f v = mapTable g v := by
  rw [funext h]

namespace State

variable {s : State}

/-! ### The link -/

theorem uplinkSignal_of_down (down : s.uplink.link = .down) : s.uplinkSignal = s.setUplink .training := by
  rw [uplinkSignal, down]

theorem uplinkSignal_of_ne (other : s.uplink.link ≠ .down) : s.uplinkSignal = s := by
  rw [uplinkSignal]
  cases link : s.uplink.link with
  | down => exact absurd link other
  | training => rfl
  | up => rfl

theorem trainingComplete_of_training (training : s.uplink.link = .training) :
    s.trainingComplete = s.setUplink .up := by
  rw [trainingComplete, training]

theorem trainingComplete_of_ne (other : s.uplink.link ≠ .training) : s.trainingComplete = s := by
  rw [trainingComplete]
  cases link : s.uplink.link with
  | down => rfl
  | training => exact absurd link other
  | up => rfl

/-- R129, R137: the queues after a loss. -/
def lostQueue (s : State) (q : Fin 8) : Queue :=
  let x := s.delivery.queues[q]
  if s.uplink.lane.streamingQueue = some q then
    { x with credit := 0, inFlight := false, records := match x.records with
      | [] => []
      | r :: rest => { r with replay := true } :: rest }
  else { x with credit := 0 }

theorem loseDelivery_delivery (s : State) :
    s.loseDelivery.delivery = { s.delivery with queues := Vector.ofFn s.lostQueue } := by
  have queues : s.loseDelivery.delivery.queues = Vector.ofFn s.lostQueue := by
    refine Vector.ext fun i hi => ?_
    have lost := loseDelivery_queues s ⟨i, hi⟩
    rw [Fin.getElem_fin] at lost
    rw [lost, Vector.getElem_ofFn, lostQueue]
    split
    · rfl
    · rfl
  have others : s.loseDelivery.delivery.current = s.delivery.current ∧
      s.loseDelivery.delivery.turns = s.delivery.turns := by
    unfold loseDelivery
    dsimp only
    split
    · exact ⟨rfl, rfl⟩
    · exact ⟨rfl, rfl⟩
  dsimp only
  rw [← queues, ← others.1, ← others.2]

/-- R176: the Event Unit after a loss. -/
def lostEvents (s : State) : EventUnit :=
  if s.uplink.lane.isEvent then
    EventUnit.tested { s.events with
      slots := mapTable (fun x : EventSlot => { x with subPending := 0 }) s.events.slots } s.params s.events.sum
  else s.events

theorem uplinkLoss_eq (s : State) : s.uplinkLoss = { s with
    uplink := { s.uplink with link := .down, lane := .idle }
    delivery := { s.delivery with queues := Vector.ofFn s.lostQueue }
    management := { s.management with fifo := [], responses := [] }
    program := { s.program with edit := s.program.edit.lose }
    events := s.lostEvents } := by
  have events : s.uplinkLoss.events = s.lostEvents := by
    rw [uplinkLoss_events, EventUnit.abandonFrame_eq, lostEvents]
  have delivery : s.uplinkLoss.delivery = { s.delivery with queues := Vector.ofFn s.lostQueue } := by
    rw [← loseDelivery_delivery]
    simp [uplinkLoss]
  have management : s.uplinkLoss.management = { s.management with fifo := [], responses := [] } := by
    simp [uplinkLoss, loseManagement, loseEvents, loseProgram, apply_ite]
  have program : s.uplinkLoss.program = { s.program with edit := s.program.edit.lose } := by
    simp [uplinkLoss, loseProgram]
  refine State.ext_fields ?_ ?_ ?_ ?_ ?_ ?_ ?_ program delivery ?_ ?_ management events ?_ ?_ ?_ ?_ <;>
    simp [uplinkLoss]

theorem uplinkDown_of_up (up : s.uplink.link = .up) : s.uplinkDown = s.uplinkLoss := by
  rw [uplinkDown, up]

end State

/-- Settles O43: the reports by link state; the loss block by block. -/
theorem uplinkReportsMoveTheLink : Obligations.UplinkReportsMoveTheLink := by
  intro s linked
  have down (h : s.uplink.link = .down) : s.uplinkDown = s := by rw [State.uplinkDown, h]
  have training (h : s.uplink.link = .training) : s.uplinkDown = s.setUplink .down := by rw [State.uplinkDown, h]
  refine ⟨fun h => congrArg _ (State.uplinkSignal_of_down h), fun h => congrArg _ (State.uplinkSignal_of_ne h),
    fun h => congrArg _ (State.trainingComplete_of_training h),
    fun h => congrArg _ (State.trainingComplete_of_ne h), fun row rows => ?_⟩
  have exec : exec row s = .next s.uplinkDown := by
    rcases rows with rfl | rfl <;> rfl
  rw [exec]
  refine ⟨fun h => congrArg _ (down h), fun h => congrArg _ (training h), fun up => congrArg _ ?_⟩
  rw [State.uplinkDown_of_up up, State.uplinkLoss_eq]
  rfl

end Sys2Proof.Machine
end

section
/-! What the Uplink Port takes in and sends (R121, R153, R154, R175, R176, R183 to R186). -/

namespace Sys2Proof.Machine

namespace State

variable {s : State} {u : LaneUnit} {q : Fin 8} {b n : Byte} {r : Request}

/-! ### Inbound units -/

theorem receiveUplinkUnit_of_not (h : s.uplink.link ≠ .up ∨ u.begunInUp = false) : s.receiveUplinkUnit u = s := by
  rw [receiveUplinkUnit_eq, if_neg]
  rintro ⟨up, begun⟩
  rcases h with down | before
  · exact down up
  · rw [before] at begun
    nomatch begun

theorem receiveUplinkUnit_of_up (up : s.uplink.link = .up) (begun : u.begunInUp = true) {x : Inbound}
    (h : checkInbound u = x) : s.receiveUplinkUnit u = s.takeInbound x := by
  rw [receiveUplinkUnit_eq, if_pos ⟨up, begun⟩, h]

/-- R121: a CREDIT for a queue that is there. -/
theorem arriveCredit_of_queue (queue : b.toNat = q.val) (some : n ≠ 0) : s.arriveCredit b n = s.addCredit q n := by
  have inside : b.toNat < 8 ∧ n ≠ 0 := ⟨queue ▸ q.isLt, some⟩
  have same : (⟨b.toNat, inside.1⟩ : Fin 8) = q := Fin.ext queue
  rw [arriveCredit, dif_pos inside, same]

theorem arriveCredit_of_refused (h : 7 < b.toNat ∨ n = 0) : s.arriveCredit b n = s.frameError 0x21 := by
  rw [arriveCredit, dif_neg]
  rintro ⟨inside, some⟩
  rcases h with above | zero
  · omega
  · exact some zero

theorem addCredit_of_le (h : s.delivery.queues[q].credit.toNat + n.toNat ≤ 255) : s.addCredit q n =
    s.setQueue q { s.delivery.queues[q] with credit := s.delivery.queues[q].credit + n } := by
  have sum : satAdd s.delivery.queues[q].credit n.toNat = s.delivery.queues[q].credit + n := by
    rw [satAdd, if_pos (by omega)]
    bv_omega
  exact (if_pos h).trans (congrArg (fun c => s.setQueue q { s.delivery.queues[q] with credit := c }) sum)

theorem addCredit_of_gt (h : 255 < s.delivery.queues[q].credit.toNat + n.toNat) : s.addCredit q n =
    (s.setQueue q { s.delivery.queues[q] with credit := 255 }).postNat .creditOverflow q.val := by
  have sum : satAdd s.delivery.queues[q].credit n.toNat = 255 := if_neg (by omega)
  exact (if_neg (Nat.not_le.2 h)).trans (congrArg
    (fun c => (s.setQueue q { s.delivery.queues[q] with credit := c }).postNat .creditOverflow q.val) sum)

end State

/-- Settles O44: the outcome of the four checks, with the link UP; and nothing otherwise. -/
theorem inboundFramesAreTaken : Obligations.InboundFramesAreTaken := by
  intro s u failed
  refine ⟨fun h => ?_, fun up begun => ⟨fun r checked => ⟨fun room => ?_, fun full => ?_⟩, fun b n checked => ?_,
    fun d checked => congrArg Host.Outcome.next (State.receiveUplinkUnit_of_up up begun checked)⟩⟩
  · have same := congrArg (Host.Outcome.next (φ := Fault) (ρ := Refusal)) (State.receiveUplinkUnit_of_not h)
    exact ⟨same, same, same⟩
  · exact congrArg Host.Outcome.next ((State.receiveUplinkUnit_of_up up begun checked).trans (if_pos room))
  · exact congrArg Host.Outcome.next ((State.receiveUplinkUnit_of_up up begun checked).trans
      (if_neg (Nat.not_lt.2 full)))
  · have taken : s.receiveUplinkUnit u = s.arriveCredit b n := State.receiveUplinkUnit_of_up up begun checked
    refine ⟨fun refused => congrArg _ (taken.trans (State.arriveCredit_of_refused refused)), fun q queue some => ?_⟩
    have added := taken.trans (State.arriveCredit_of_queue queue some)
    exact ⟨fun le => congrArg Host.Outcome.next (added.trans (State.addCredit_of_le le)),
      fun gt => congrArg Host.Outcome.next (added.trans (State.addCredit_of_gt gt))⟩

namespace State

variable {s : State}

/-! ### Outbound frames -/

theorem grant_of_busy (h : s.uplink.link ≠ .up ∨ s.uplink.lane ≠ .idle) : s.grant = none := by
  rw [grant, if_neg]
  rintro ⟨up, idle⟩
  rcases h with down | busy
  · exact down up
  · exact busy idle

theorem grant_of_response (up : s.uplink.link = .up) (idle : s.uplink.lane = .idle)
    (waits : s.management.responses ≠ []) : s.grant = some .management := by
  rw [grant, if_pos ⟨up, idle⟩, if_pos waits]

theorem grant_of_due (up : s.uplink.link = .up) (idle : s.uplink.lane = .idle) (none : s.management.responses = [])
    (due : s.events.due = true) : s.grant = some .event := by
  rw [grant, if_pos ⟨up, idle⟩, if_neg (fun waits => waits none), if_pos due]

theorem grant_of_rest (up : s.uplink.link = .up) (idle : s.uplink.lane = .idle) (none : s.management.responses = [])
    (due : s.events.due = false) : s.grant = if s.anyEligible then some .delivery else .none := by
  rw [grant, if_pos ⟨up, idle⟩, if_neg (fun waits => waits none), if_neg (by rw [due]; nofun)]

theorem waits_of_grant (h : s.grant = some .management) : s.management.responses ≠ [] := by
  unfold grant at h
  split at h
  · split at h
    · next waits => exact waits
    · split at h
      · nomatch h
      · split at h <;> nomatch h
  · nomatch h

theorem due_of_grant (h : s.grant = some .event) : s.management.responses = [] ∧ s.events.due = true := by
  unfold grant at h
  split at h
  · split at h
    · nomatch h
    · next none =>
      split at h
      · next due => exact ⟨by_contra none, due⟩
      · split at h <;> nomatch h
  · nomatch h

theorem responseFrameStart_of_ne (h : s.grant ≠ some .management) : s.responseFrameStart = s := if_neg h

theorem responseFrameStart_of_grant (h : s.grant = some .management) {r : Response} {rest : List Response}
    (responses : s.management.responses = r :: rest) : s.responseFrameStart = s.setLane (.response r) := by
  rw [responseFrameStart, if_pos h, responses]

theorem responseFrameEnd_of_response {r : Response} (lane : s.uplink.lane = .response r) : s.responseFrameEnd =
    (s.withManagement { s.management with responses := s.management.responses.tail }).finishFrame r.bytes := by
  rw [responseFrameEnd, lane]

theorem eventFrameStart_of_ne (h : s.grant ≠ some .event) : s.eventFrameStart = s := if_neg h

theorem eventFrameStart_of_grant (h : s.grant = some .event) : s.eventFrameStart =
    (s.setLane (.event s.events.snapshot)).withEvents s.events.startFrame := if_pos h

theorem eventFrameEnd_of_event {entries : List EventEntry} (lane : s.uplink.lane = .event entries) :
    s.eventFrameEnd = (s.finishFrame (eventBytes entries)).withEvents (s.events.finishFrame s.params) := by
  rw [eventFrameEnd, lane]

end State

/-- R175: the snapshot and the frozen slots, with the condition as the rule says it. -/
theorem EventUnit.snapshot_eq (e : EventUnit) : e.snapshot = (List.finRange 22).filterMap fun i =>
    if e.slots[i].enabled = true ∧ e.slots[i].count ≠ 0 then
      some { code := natByte (i.val + 1), count := e.slots[i].count, detail := e.slots[i].detail,
             firstTime := e.slots[i].firstTime }
    else none := by
  unfold snapshot EventSlot.entry
  simp only [Bool.and_eq_true, decide_eq_true_eq]

theorem EventUnit.startFrame_eq (e : EventUnit) : e.startFrame = { e with
    slots := mapTable (fun x : EventSlot =>
      if x.enabled = true ∧ x.count ≠ 0 then { x with subPending := x.count } else x) e.slots
    due := false
    timer := none } := by
  unfold startFrame EventSlot.freeze
  simp only [Bool.and_eq_true, decide_eq_true_eq]

theorem EventUnit.finishFrame_eq (e : EventUnit) (p : Params) : e.finishFrame p =
    let left := { e with slots := mapTable (fun x : EventSlot => { x with
      count := if x.subPending.toNat ≤ x.count.toNat then x.count - x.subPending else 0, subPending := 0 }) e.slots }
    left.tested p left.sum := by
  unfold finishFrame
  simp only [ofNat_sub_toNat]
  exact testAfterFrame_eq _ p

/-- Settles O45: what the arbiter grants, and the two ends of each frame. -/
theorem responsesAndEventsAreSent : Obligations.ResponsesAndEventsAreSent := by
  intro s carrying left
  refine ⟨fun up idle r rest responses => ?_, fun h => ?_, fun h => ?_, fun r lane => ?_,
    fun up idle none due => ?_, fun entries lane => ?_⟩
  · have granted := State.grant_of_response up idle (by rw [responses]; nofun)
    exact congrArg Host.Outcome.next (State.responseFrameStart_of_grant granted responses)
  · refine congrArg Host.Outcome.next (State.responseFrameStart_of_ne fun granted => ?_)
    rcases h with down | busy | none
    · exact absurd (granted.symm.trans (State.grant_of_busy (.inl down))) nofun
    · exact absurd (granted.symm.trans (State.grant_of_busy (.inr busy))) nofun
    · exact State.waits_of_grant granted none
  · refine congrArg Host.Outcome.next (State.eventFrameStart_of_ne fun granted => ?_)
    obtain ⟨none, due⟩ := State.due_of_grant granted
    rcases h with down | busy | waits | notDue
    · exact absurd (granted.symm.trans (State.grant_of_busy (.inl down))) nofun
    · exact absurd (granted.symm.trans (State.grant_of_busy (.inr busy))) nofun
    · exact waits none
    · exact absurd (due.symm.trans notDue) nofun
  · exact congrArg Host.Outcome.next (State.responseFrameEnd_of_response lane)
  · have started := State.eventFrameStart_of_grant (State.grant_of_due up idle none due)
    rw [EventUnit.snapshot_eq, EventUnit.startFrame_eq] at started
    exact congrArg Host.Outcome.next started
  · intro slots sum x
    have ended := State.eventFrameEnd_of_event lane
    rw [EventUnit.finishFrame_eq] at ended
    exact congrArg Host.Outcome.next ended

end Sys2Proof.Machine
end

section
/-! The scheduler and the DELIVERY frames (R120 to R128, R130, R185, R186). -/

namespace Sys2Proof.Machine

theorem Queue.eligible_iff (x : Queue) : x.eligible = true ↔ x.state = .running ∧ x.records ≠ [] ∧ 1 ≤ x.credit.toNat := by
  simp [eligible, and_assoc]

namespace State

variable {s : State} {q : Fin 8} {turns : Nat} {r : Record} {rest : List Record}

theorem anyEligible_iff (s : State) : s.anyEligible = true ↔ ∃ q : Fin 8, s.delivery.queues[q].eligible = true := by
  rw [anyEligible, toList_eq_finRange, List.any_map, List.any_eq_true]
  exact ⟨fun ⟨q, _, h⟩ => ⟨q, h⟩, fun ⟨q, h⟩ => ⟨q, List.mem_finRange q, h⟩⟩

theorem rest_of_grant (h : s.grant = some .delivery) :
    s.management.responses = [] ∧ s.events.due = false ∧ s.anyEligible = true := by
  unfold grant at h
  split at h
  · split at h
    · nomatch h
    · next none =>
      split at h
      · nomatch h
      · next notDue =>
        split at h
        · next eligible => exact ⟨by_contra none, eq_false_of_ne_true notDue, eligible⟩
        · nomatch h
  · nomatch h

/-! ### The choice -/

/-- R124: the queues after the current one, in the order of the choice. -/
theorem queuesAfter_eq (c k : Fin 8) : Fin.ofNat 8 (c.val + 1 + k.val) = c + 1 + k := by
  apply Fin.ext
  simp only [Fin.val_ofNat, Fin.val_add]
  omega

theorem find_queuesAfter {c k : Fin 8} {p : Fin 8 → Bool} (here : p (c + 1 + k) = true)
    (before : ∀ j < k, p (c + 1 + j) = false) : (queuesAfter c).find? p = some (c + 1 + k) := by
  have first : (List.range 8).find? (p ∘ fun k => Fin.ofNat 8 (c.val + 1 + k)) = some k.val := by
    rw [List.find?_range_eq_some]
    refine ⟨?_, List.mem_range.2 k.isLt, fun j hj => ?_⟩
    · rw [Function.comp, queuesAfter_eq]
      exact here
    · have inside : j < 8 := hj.trans k.isLt
      have other := before ⟨j, inside⟩ hj
      rw [Function.comp, queuesAfter_eq c ⟨j, inside⟩, other]
      rfl
  rw [queuesAfter, List.find?_map, first, Option.map_some, queuesAfter_eq]

theorem choose_of_chooses (h : s.Chooses q turns) : s.delivery.choose s.params.weights = some (q, turns) ∧
    s.delivery.queues[q].eligible = true := by
  unfold Chooses at h
  simp only [← Queue.eligible_iff] at h
  unfold Delivery.choose
  split at h
  · next stays =>
    obtain ⟨rfl, left⟩ := h
    exact ⟨by rw [if_pos stays, ← left]; rfl, stays.1⟩
  · next moves =>
    obtain ⟨k, rfl, eligible, before, rfl⟩ := h
    have found := find_queuesAfter (p := fun q => s.delivery.queues[q].eligible) eligible
      fun j hj => eq_false_of_ne_true (before j hj)
    exact ⟨by rw [if_neg moves, found]; rfl, eligible⟩

theorem deliveryFrameStart_of_ne (h : s.grant ≠ some .delivery) : s.deliveryFrameStart = s := if_neg h

theorem deliveryFrameStart_of_grant (h : s.grant = some .delivery)
    (chosen : s.delivery.choose s.params.weights = some (q, turns)) (records : s.delivery.queues[q].records = r :: rest) :
    s.deliveryFrameStart = s.startDelivery q turns r := by
  have head : (s.queue q).records = r :: rest := records
  simp only [deliveryFrameStart, h, if_true, chosen, head]

end State

/-- Settles O46: with no grant to the Delivery Unit nothing starts; with one, the queue is the scheduler's choice. -/
theorem schedulerStartsADelivery : Obligations.SchedulerStartsADelivery := by
  refine ⟨fun s h => congrArg Host.Outcome.next (State.deliveryFrameStart_of_ne fun granted => ?_),
    fun s q turns r rest up idle none due chooses records => ?_⟩
  · obtain ⟨empty, notDue, eligible⟩ := State.rest_of_grant granted
    rcases h with down | busy | waits | due | no
    · exact absurd (granted.symm.trans (State.grant_of_busy (.inl down))) nofun
    · exact absurd (granted.symm.trans (State.grant_of_busy (.inr busy))) nofun
    · exact waits empty
    · exact absurd (due.symm.trans notDue) nofun
    · obtain ⟨q, found⟩ := (State.anyEligible_iff s).1 eligible
      exact no q ((Queue.eligible_iff _).1 found)
  · obtain ⟨chosen, eligible⟩ := State.choose_of_chooses chooses
    have granted : s.grant = some .delivery :=
      (State.grant_of_rest up idle none due).trans (if_pos ((State.anyEligible_iff s).2 ⟨q, eligible⟩))
    exact congrArg Host.Outcome.next (State.deliveryFrameStart_of_grant granted chosen records)

namespace State

variable {s : State} {q : Fin 8} {f : DeliveryFrame}

/-! ### The end of a delivery -/

theorem removeHead_eq (q : Fin 8) (s : State) : s.removeHead q = s.headRemoved q := by
  unfold removeHead headRemoved
  have same : (s.queue q).records = s.delivery.queues[q].records := rfl
  rw [same]
  cases s.delivery.queues[q].records <;> rfl

theorem headRemoved_frame (q : Fin 8) (s : State) :
    (s.headRemoved q).uplink = s.uplink ∧ (s.headRemoved q).outputs = s.outputs := by
  rw [← removeHead_eq]
  simp

theorem transmit_withDelivery (c : TxCell) (d : Delivery) (s : State) :
    (s.withDelivery d).transmit c = (s.transmit c).withDelivery d := by
  unfold transmit
  cases link : s.trunkRx.link <;> cases flight : s.trunkTx.inFlight <;> simp [link, flight] <;> rfl

/-- What the Hold Controller does, it does whatever the queues hold. -/
theorem evaluateHold_withDelivery (d : Delivery) (s : State) :
    (s.withDelivery d).evaluateHold = s.evaluateHold.withDelivery d := by
  have begins : (s.withDelivery d).beginHold = s.beginHold.withDelivery d :=
    congrArg (State.postNat .holdOn s.hold.lastFree) (transmit_withDelivery _ d
      (s.withHold { s.hold with mode := .holding (s.refreshExpiry s.params.holdDuration) }))
  have ends : (s.withDelivery d).endHold = s.endHold.withDelivery d :=
    congrArg (State.postNat .holdOff s.hold.lastFree) (transmit_withDelivery _ d
      (s.withHold { s.hold with mode := .quiet }))
  unfold evaluateHold
  simp only [withDelivery_trunkRx, withDelivery_hold, withDelivery_params, begins, ends]
  split
  · split <;> rfl
  · split <;> rfl
  · rfl
  · rfl

theorem dropReference_withDelivery (h : Nat) (d : Delivery) (s : State) :
    (s.withDelivery d).dropReference h = (s.dropReference h).withDelivery d := by
  have dropped (p : BlockPool) : ((s.withDelivery d).withPool p).handFreeCount =
      (s.withPool p).handFreeCount.withDelivery d :=
    evaluateHold_withDelivery d ((s.withPool p).withHold { s.hold with lastFree := p.free.length })
  unfold dropReference
  dsimp only [withDelivery_pool]
  split
  · rfl
  · exact dropped _

theorem removeHead_setQueue_nil {x : Queue} (records : x.records = []) :
    (s.setQueue q x).removeHead q = s.setQueue q x := by
  rw [removeHead, queue_setQueue, records]

/-- R120: the removal of the head of a queue that has just been changed. -/
theorem removeHead_setQueue_cons {x : Queue} {r : Record} {rest : List Record} (records : x.records = r :: rest) :
    (s.setQueue q x).removeHead q =
      (s.dropReference r.chain).setQueue q { x with records := rest, charge := x.charge - s.recordCharge r } := by
  have delivery : (s.dropReference r.chain).delivery = s.delivery := by simp
  have kept : (s.setQueue q x).keepRecords q rest [r] =
      s.setQueue q { x with records := rest, charge := x.charge - s.recordCharge r } := by
    rw [keepRecords, queue_setQueue, setQueue_setQueue]
    rfl
  rw [removeHead, queue_setQueue, records]
  dsimp only
  rw [kept]
  refine (dropReference_withDelivery r.chain _ s).trans ?_
  rw [setQueue, delivery]

/-- R128: it makes no difference whether the queue is halted before or after its head is removed. -/
theorem halt_removeHead (x : Queue) : ((s.setQueue q x).removeHead q).setQueue q
      { ((s.setQueue q x).removeHead q).queue q with state := .halted .memory } =
    (s.setQueue q { x with state := .halted .memory }).removeHead q := by
  by_cases none : x.records = []
  · rw [removeHead_setQueue_nil none, removeHead_setQueue_nil (by exact none), queue_setQueue, setQueue_setQueue]
  · obtain ⟨r, rest, records⟩ := List.exists_cons_of_ne_nil none
    rw [removeHead_setQueue_cons records, removeHead_setQueue_cons (by exact records), queue_setQueue,
      setQueue_setQueue]

theorem damagedAfter_of_verified {c : Chain} (h : ∀ b ∈ s.pool.chainBlocks c, s.pool.verifies b = true) :
    s.pool.damagedAfter c = none :=
  if_pos (List.all_eq_true.2 h)

/-- R45: the payload before the first block that does not verify. -/
theorem damagedAfter_of_damaged {c : Chain} {before after : List Nat} {b : Nat}
    (blocks : s.pool.chainBlocks c = before ++ b :: after) (good : ∀ x ∈ before, s.pool.verifies x = true)
    (bad : s.pool.verifies b = false) : s.pool.damagedAfter c = some (before.flatMap s.pool.blockContent) := by
  have some : ¬ (s.pool.chainBlocks c).all s.pool.verifies = true := by
    rw [blocks, List.all_eq_true]
    exact fun all => absurd ((all b (by simp)).symm.trans bad) nofun
  have first : (s.pool.chainBlocks c).takeWhile s.pool.verifies = before := by
    rw [blocks, List.takeWhile_append_of_pos good, List.takeWhile_cons_of_neg (by rw [bad]; nofun), List.append_nil]
  rw [BlockPool.damagedAfter, if_neg some, first]

theorem deliveryFrameEnd_of_cut {sent : List Byte} {t : Trailer} (lane : s.uplink.lane = .delivery f)
    (cut : f.payload = .cut sent t) : s.deliveryFrameEnd = s.finishFrame (deliveryBytes f.queue f.header sent t) := by
  simp only [deliveryFrameEnd, lane, cut]

theorem deliveryFrameEnd_of_verified (lane : s.uplink.lane = .delivery f) (streaming : f.payload = .streaming)
    (verified : s.pool.damagedAfter (s.pool.chainOf f.header.chain) = none) : s.deliveryFrameEnd =
      ((s.closeFlight f.queue (countDelivered f.header.length)).headRemoved f.queue).finishFrame
        (deliveryBytes f.queue f.header
          ((s.pool.payload (s.pool.chainOf f.header.chain)).take f.header.length) .ok) := by
  simp only [deliveryFrameEnd, lane, streaming, endStreamed, verified, removeHead_eq]

theorem deliveryMemoryError_of_damaged {sent : List Byte} (lane : s.uplink.lane = .delivery f)
    (streaming : f.payload = .streaming)
    (damaged : s.pool.damagedAfter (s.pool.chainOf f.header.chain) = some sent) :
    s.deliveryMemoryError = s.haltOnDamage f sent := by
  simp only [deliveryMemoryError, lane, streaming, damaged]

/-- R128: the queue after a memory error, but for its head. -/
def damagedQueue (x : Queue) : Queue :=
  { x with inFlight := false, state := .halted .memory,
           counters := { x.counters with memoryErrors := satInc x.counters.memoryErrors } }

theorem haltOnDamage_eq (f : DeliveryFrame) (sent : List Byte) (s : State) : s.haltOnDamage f sent =
    (((s.setQueue f.queue (damagedQueue (s.queue f.queue))).headRemoved f.queue).setLane
      (.delivery { f with payload := .cut sent .abortedMemory })).postNat .memoryError f.queue.val := by
  rw [haltOnDamage, closeFlight]
  dsimp only
  rw [halt_removeHead, removeHead_eq]
  rfl

end State

/-- Settles O47: the frame by what its blocks verify to; the halt and the removal of the head commute. -/
theorem deliveriesEnd : Obligations.DeliveriesEnd := by
  intro s f lane x blocks put
  refine ⟨fun streaming verified => ?_, fun streaming before b after parts good bad => ?_,
    fun sent t cut => congrArg Host.Outcome.next (State.deliveryFrameEnd_of_cut lane cut)⟩
  · intro v sent
    have ended := State.deliveryFrameEnd_of_verified lane streaming (State.damagedAfter_of_verified verified)
    obtain ⟨uplink, outputs⟩ := State.headRemoved_frame f.queue
      (s.closeFlight f.queue (State.countDelivered f.header.length))
    refine congrArg Host.Outcome.next (ended.trans ?_)
    rw [State.finishFrame, State.setLane, uplink, outputs]
    rfl
  · intro v
    have halted := State.deliveryMemoryError_of_damaged lane streaming
      (State.damagedAfter_of_damaged parts good bad)
    have uplink := (State.headRemoved_frame f.queue
      (s.setQueue f.queue (State.damagedQueue (s.queue f.queue)))).1
    refine congrArg Host.Outcome.next (halted.trans ?_)
    rw [State.haltOnDamage_eq, State.setLane, uplink]
    rfl

end Sys2Proof.Machine
end

section
/-! The outbound frames of R187, byte by byte, and the fields that a byte boundary cuts. -/

namespace Sys2Proof.Machine

/-! ### Fields that a byte boundary cuts -/

theorem extract_append_high {n m : Nat} (a : BitVec n) (b : BitVec m) : (a ++ b).extractLsb' m n = a := by
  apply BitVec.eq_of_getLsbD_eq
  intro i hi
  simp [BitVec.getLsbD_append, hi]

theorem extract_append_low {n m : Nat} (a : BitVec n) (b : BitVec m) : (a ++ b).extractLsb' 0 m = b := by
  apply BitVec.eq_of_getLsbD_eq
  intro i hi
  simp [BitVec.getLsbD_append, hi]

theorem append_extract {n m : Nat} (x : BitVec (n + m)) : x.extractLsb' m n ++ x.extractLsb' 0 m = x := by
  apply BitVec.eq_of_getLsbD_eq
  intro i hi
  rw [BitVec.getLsbD_append, BitVec.getLsbD_extractLsb', BitVec.getLsbD_extractLsb']
  by_cases low : i < m
  · simp [low]
  · simp [low, show i - m < n by omega, show m + (i - m) = i by omega]

theorem zeroExtend_eq_append {n k : Nat} (x : BitVec n) : x.zeroExtend (k + n) = (0 : BitVec k) ++ x := by
  apply BitVec.eq_of_getLsbD_eq
  intro i hi
  rw [BitVec.getLsbD_append, BitVec.zeroExtend_eq_setWidth, BitVec.getLsbD_setWidth]
  by_cases low : i < n
  · simp [low, hi]
  · simp [low, BitVec.getLsbD_of_ge x i (by omega)]

theorem extract_zeroExtend_high {n m k : Nat} (x : BitVec (n + m)) :
    (x.zeroExtend (k + (n + m))).extractLsb' m (k + n) = (0 : BitVec k) ++ x.extractLsb' m n := by
  apply BitVec.eq_of_getLsbD_eq
  intro i hi
  rw [zeroExtend_eq_append, BitVec.getLsbD_append, BitVec.getLsbD_extractLsb', BitVec.getLsbD_append]
  by_cases low : i < n
  · simp [low, hi, show m + i < n + m by omega]
  · simp [low, show ¬ m + i < n + m by omega]

theorem extract_zeroExtend_low {n m : Nat} (x : BitVec n) (h : m ≤ n) {k : Nat} :
    (x.zeroExtend (k + n)).extractLsb' 0 m = x.extractLsb' 0 m := by
  apply BitVec.eq_of_getLsbD_eq
  intro i hi
  rw [zeroExtend_eq_append, BitVec.getLsbD_extractLsb', BitVec.getLsbD_append, BitVec.getLsbD_extractLsb']
  simp [hi, show i < n by omega]

theorem be16_zeroExtend (x : Addr) :
    be16 (x.zeroExtend 16) = [(0 : BitVec 4) ++ x.extractLsb' 8 4, x.extractLsb' 0 8] := by
  have high : (x.zeroExtend 16).extractLsb' 8 8 = (0 : BitVec 4) ++ x.extractLsb' 8 4 :=
    extract_zeroExtend_high (n := 4) (m := 8) (k := 4) x
  have low : (x.zeroExtend 16).extractLsb' 0 8 = x.extractLsb' 0 8 :=
    extract_zeroExtend_low (n := 12) (k := 4) x (by decide)
  rw [be16, high, low]

theorem zeroExtend_chan (x : Chan) : x.zeroExtend 8 = (0 : BitVec 4) ++ x :=
  zeroExtend_eq_append (n := 4) (k := 4) x

/-! ### Outbound frames -/

/-- R187: a frame by its type, its body length and its body. -/
def framed (type : Byte) (length : U16) (body : List Byte) : List Byte :=
  [type, length.extractLsb' 8 8, length.extractLsb' 0 8] ++ body
    ++ be32 (crc32 ([type, length.extractLsb' 8 8, length.extractLsb' 0 8] ++ body))

theorem frameBytes_eq {body body' : List Byte} {length : U16} (same : body = body')
    (h : BitVec.ofNat 16 body'.length = length) (type : Byte) : frameBytes type body = framed type length body' := by
  subst same h
  rfl

theorem flags_eq (r : Record) : r.flags =
    (if r.mark then 1 else 0) + (if r.replay then 2 else 0) + (if r.mirrored then 4 else 0) := by
  rw [Record.flags]
  cases r.mark <;> cases r.replay <;> cases r.mirrored <;> rfl

theorem length_flatMap_const {α β : Type} {f : α → List β} {n : Nat} (h : ∀ x, (f x).length = n) (l : List α) :
    (l.flatMap f).length = n * l.length := by
  rw [List.length_flatMap, funext h, List.map_const', List.sum_replicate, smul_eq_mul, Nat.mul_comm]

/-- Settles O50: each body by its fields, and its length. -/
theorem outboundFramesAreLaidOut : Obligations.OutboundFramesAreLaidOut := by
  refine ⟨fun r => frameBytes_eq rfl ?_ _, by decide, fun entries => frameBytes_eq rfl ?_ _, fun q r sent t fits => ?_⟩
  · rw [List.length_append]
    exact BitVec.ofNat_add 7 r.data.length
  · rw [List.length_cons, length_flatMap_const (n := 9) (fun _ => rfl), Nat.add_comm, BitVec.ofNat_add, BitVec.ofNat_mul]
    rfl
  · refine frameBytes_eq ?_ ?_ _
    · rw [deliveryHeader, flags_eq, be16_zeroExtend, zeroExtend_chan]
      rfl
    · refine Eq.trans (congrArg _ ?_) (BitVec.ofNat_add 17 r.length)
      simp only [List.length_append, List.length_cons, List.length_nil, List.length_replicate]
      omega

end Sys2Proof.Machine
end

section
/-! The cells of R187, composed and read back (R5, R6, R10, R13). -/

namespace Sys2Proof.Machine

theorem check_composed (front : List Byte) (long : 7 ≤ front.length) :
    cellCheckGood { bytes := front ++ be16 (crc16 front), codingError := false, begunInUp := true } = true := by
  have length : (front ++ be16 (crc16 front)).length - 2 = front.length := by simp
  refine cellCheckGood_iff.2 ⟨by simpa using long, rfl, ?_⟩
  rw [length, List.take_left, word16At_end]

theorem toNat_natByte {n : Nat} (small : n < 256) : (natByte n).toNat = n := by
  rw [natByte, BitVec.toNat_ofNat]
  exact Nat.mod_eq_of_lt small

/-- R187: the destination and the source share a byte. -/
theorem destination_parts (d s : Addr) :
    d.extractLsb' 4 8 ++ (d.extractLsb' 0 4 ++ s.extractLsb' 8 4 : Byte).extractLsb' 4 4 = d :=
  (congrArg (d.extractLsb' 4 8 ++ ·) (extract_append_high (n := 4) (m := 4) _ _)).trans
    (append_extract (n := 8) (m := 4) d)

theorem source_parts (d : BitVec 4) (s : Addr) :
    (d ++ s.extractLsb' 8 4 : Byte).extractLsb' 0 4 ++ s.extractLsb' 0 8 = s :=
  (congrArg (· ++ s.extractLsb' 0 8) (extract_append_low (n := 4) (m := 4) _ _)).trans
    (append_extract (n := 4) (m := 8) s)

/-- Settles O48: the fields are read from the bytes that hold them. -/
theorem composedCellsAreReadBack : Obligations.ComposedCellsAreReadBack := by
  refine ⟨fun k channel destination source sequence cls payload some small => ?_, fun c => ?_⟩
  · intro code front bytes
    have kind : cellCode bytes = code := extract_append_high (n := 4) (m := 4) code channel
    have length : cellPayloadLength bytes = payload.length := toNat_natByte (by omega)
    have data : IsData bytes k := by
      refine ⟨?_, by omega, by omega, ?_⟩
      · rw [kind]
        cases k <;> rfl
      · rw [length]
        simp only [bytes, front, List.length_append, List.length_cons, List.length_nil, length_be16]
        omega
    refine ⟨check_composed front (by simp [front]), cellFormat_of_data data,
      extract_append_low (n := 4) (m := 4) code channel, destination_parts destination source,
      source_parts (destination.extractLsb' 0 4) source, extract_append_high (n := 6) (m := 2) sequence 0, rfl, ?_⟩
    rw [cellPayload, length]
    exact List.take_left
  · have check : cellCheckGood { bytes := c.bytes, codingError := false, begunInUp := true } = true :=
      check_composed c.header (by cases c <;> exact Nat.le_refl 7)
    have length : c.bytes.length = 9 := by cases c <;> rfl
    cases c with
    | hold source d =>
      have code : (cellCode (TxCell.hold source d).bytes).toNat = 8 :=
        (by decide : ((0x80 : Byte).extractLsb' 4 4).toNat = 8)
      have channel : cellChannel (TxCell.hold source d).bytes = 0 :=
        (by decide : (0x80 : Byte).extractLsb' 0 4 = 0)
      exact ⟨check, length, channel, destination_parts 4095 source, rfl,
        by simp only [cellFormat, cellKind, code, length, if_true], source_parts 0xF source,
        append_extract (n := 8) (m := 8) d⟩
    | release source =>
      have code : (cellCode (TxCell.release source).bytes).toNat = 9 :=
        (by decide : ((0x90 : Byte).extractLsb' 4 4).toNat = 9)
      have channel : cellChannel (TxCell.release source).bytes = 0 :=
        (by decide : (0x90 : Byte).extractLsb' 0 4 = 0)
      have none : (0 : Byte) ++ (0 : Byte) = (0 : U16) := by decide
      exact ⟨check, length, channel, destination_parts 4095 source, rfl,
        by simp only [cellFormat, cellKind, code, length, if_true], source_parts 0xF source, none⟩

end Sys2Proof.Machine
end

section
/-! Inbound units (R183, R187): the four checks in order, and the frames that pass them. -/

namespace Sys2Proof.Machine

variable {u : LaneUnit}

/-- R183 step 1. -/
def FrameGood (u : LaneUnit) : Prop :=
  7 ≤ u.bytes.length ∧ u.bytes.length ≤ 80 ∧ u.codingError = false ∧
    crc32 (u.bytes.take (u.bytes.length - 4)) = word32At u.bytes (u.bytes.length - 4)

theorem frameCheckGood_iff : frameCheckGood u = true ↔ FrameGood u := by
  simp [frameCheckGood, FrameGood, and_assoc]

/-- R187: the body of a unit. -/
def bodyOf (u : LaneUnit) : List Byte := (u.bytes.drop 3).take (u.bytes.length - 7)

theorem length_bodyOf (u : LaneUnit) : (bodyOf u).length = u.bytes.length - 7 := by
  rw [bodyOf, List.length_take, List.length_drop]
  omega

theorem byteAt_bodyOf {i : Nat} (inside : i < u.bytes.length - 7) : byteAt (bodyOf u) i = byteAt u.bytes (3 + i) := by
  rw [byteAt, byteAt, bodyOf, List.getD_eq_getElem?_getD, List.getD_eq_getElem?_getD, List.getElem?_take_of_lt inside,
    List.getElem?_drop]

theorem word16At_bodyOf {i : Nat} (inside : i + 1 < u.bytes.length - 7) :
    word16At (bodyOf u) i = word16At u.bytes (3 + i) := by
  rw [word16At, word16At, byteAt_bodyOf (by omega), byteAt_bodyOf inside]
  rfl

theorem drop_bodyOf (n : Nat) : (bodyOf u).drop n = (u.bytes.drop (3 + n)).take (u.bytes.length - 7 - n) := by
  rw [bodyOf, List.drop_take, List.drop_drop]

/-! ### The checks, one by one -/

/-- R183: the type and the body of a good unit with a fitting length field. -/
def checkBody (type : Byte) (body : List Byte) : Inbound :=
  if type = 0x20 then
    if 6 ≤ body.length ∧ body.length = 6 + (word16At body 4).toNat then .request (requestOfBody body)
    else .error (type.zeroExtend 16)
  else if type = 0x21 then
    if body.length = 2 then .credit (byteAt body 0) (byteAt body 1) else .error (type.zeroExtend 16)
  else .error (type.zeroExtend 16)

theorem checkInbound_of_bad (bad : ¬ FrameGood u) : checkInbound u = .error 0 :=
  if_neg fun good => bad (frameCheckGood_iff.1 good)

theorem checkInbound_of_length (good : FrameGood u) (other : (word16At u.bytes 1).toNat ≠ u.bytes.length - 7) :
    checkInbound u = .error ((byteAt u.bytes 0).zeroExtend 16) :=
  (if_pos (frameCheckGood_iff.2 good)).trans (if_neg other)

theorem checkInbound_of_fits (good : FrameGood u) (fits : (word16At u.bytes 1).toNat = u.bytes.length - 7) :
    checkInbound u = checkBody (byteAt u.bytes 0) (bodyOf u) :=
  (if_pos (frameCheckGood_iff.2 good)).trans (if_pos fits)

theorem checkBody_credit {body : List Byte} (length : body.length = 2) :
    checkBody 0x21 body = .credit (byteAt body 0) (byteAt body 1) :=
  if_pos length

theorem checkBody_request {body : List Byte} (length : body.length = 6 + (word16At body 4).toNat) :
    checkBody 0x20 body = .request (requestOfBody body) :=
  (if_pos rfl).trans (if_pos ⟨by omega, length⟩)

/-! ### A frame that is composed -/

theorem length_frameBytes (type : Byte) (body : List Byte) : (frameBytes type body).length = body.length + 7 := by
  simp only [frameBytes, List.length_append, List.length_cons, length_natBe16, length_be32]
  omega

/-- R183, R187: a composed frame passes the first two checks, and its type and body are read back. -/
theorem checkInbound_frameBytes {type : Byte} {body : List Byte} (noCoding : u.codingError = false)
    (small : body.length ≤ 73) (bytes : u.bytes = frameBytes type body) : checkInbound u = checkBody type body := by
  have length : u.bytes.length = body.length + 7 := by rw [bytes, length_frameBytes]
  have unit : (type :: natBe16 body.length ++ body).length = u.bytes.length - 4 := by
    simp only [List.length_append, List.length_cons, length_natBe16]
    omega
  have good : FrameGood u := by
    refine ⟨by omega, by omega, noCoding, ?_⟩
    rw [← unit, bytes, frameBytes, List.take_left, word32At_end]
  have field : word16At u.bytes 1 = BitVec.ofNat 16 body.length := by
    rw [bytes]
    exact append_extract (n := 8) (m := 8) _
  have fits : (word16At u.bytes 1).toNat = u.bytes.length - 7 := by
    rw [field, BitVec.toNat_ofNat]
    omega
  have same : bodyOf u = body := by
    rw [bodyOf, length, bytes, Nat.add_sub_cancel]
    exact List.take_left
  have first : byteAt u.bytes 0 = type := by
    rw [bytes]
    rfl
  rw [checkInbound_of_fits good fits, same, first]

/-- R187: the body of a REQUEST frame is read back. -/
theorem checkBody_requestBody (r : Request) (small : r.args.length ≤ 67) :
    checkBody 0x20 ([r.tag] ++ be16 r.sequence ++ [r.kind] ++ natBe16 r.args.length ++ r.args) = .request r := by
  have field : word16At ([r.tag] ++ be16 r.sequence ++ [r.kind] ++ natBe16 r.args.length ++ r.args) 4 =
      BitVec.ofNat 16 r.args.length :=
    append_extract (n := 8) (m := 8) _
  rw [checkBody_request]
  · refine congrArg Inbound.request ?_
    have sequence : word16At ([r.tag] ++ be16 r.sequence ++ [r.kind] ++ natBe16 r.args.length ++ r.args) 1 =
        r.sequence := append_extract (n := 8) (m := 8) r.sequence
    rw [requestOfBody, sequence]
    rfl
  · rw [field, BitVec.toNat_ofNat]
    simp only [List.length_append, List.length_cons, List.length_nil, length_be16, length_natBe16]
    omega

/-- Settles O49: the checks in their order; a composed frame passes them. -/
theorem inboundUnitsAreCheckedAndReadBack : Obligations.InboundUnitsAreCheckedAndReadBack := by
  refine ⟨fun u => ?_, fun u r noCoding small bytes => ?_, fun u q n noCoding bytes => ?_⟩
  · intro n type good fits
    refine ⟨checkInbound_of_bad, checkInbound_of_length, fun hg hf notRequest notCredit => ?_,
      fun hg hf credit other => ?_, fun hg hf credit two => ?_, fun hg hf request other => ?_,
      fun hg hf request length => ?_⟩ <;> refine (checkInbound_of_fits hg hf).trans ?_
    · exact (if_neg notRequest).trans (if_neg notCredit)
    · rw [show byteAt u.bytes 0 = 0x21 from credit]
      exact if_neg fun two => other ((length_bodyOf u).symm.trans two)
    · rw [show byteAt u.bytes 0 = 0x21 from credit, checkBody_credit ((length_bodyOf u).trans two),
        byteAt_bodyOf (by omega), byteAt_bodyOf (by omega)]
    · rw [show byteAt u.bytes 0 = 0x20 from request]
      refine (if_pos rfl).trans (if_neg ?_)
      rintro ⟨six, length⟩
      rw [length_bodyOf] at six length
      rw [word16At_bodyOf (by omega)] at length
      rcases other with short | other
      · exact absurd six (Nat.not_le.2 short)
      · exact other length
    · have six : 6 ≤ u.bytes.length - 7 := by omega
      rw [show byteAt u.bytes 0 = 0x20 from request, checkBody_request
        (by rw [length_bodyOf, word16At_bodyOf (by omega)]; exact length), requestOfBody, byteAt_bodyOf (by omega),
        byteAt_bodyOf (by omega), word16At_bodyOf (by omega), drop_bodyOf]
      rfl
  · refine (checkInbound_frameBytes noCoding ?_ bytes).trans (checkBody_requestBody r small)
    simp only [List.length_append, List.length_cons, List.length_nil, length_be16, length_natBe16]
    omega
  · exact checkInbound_frameBytes noCoding (by simp) bytes

end Sys2Proof.Machine
end

section
/-! The step on an empty queue (log 2): which work is ready, in the order of the choice, and what one microsecond of the
timebase brings (R21, R24, R76, R113, R155, R156, R169, R185). -/

namespace Sys2Proof.Machine

/-! ### Time -/

/-- R169: an expiry that lies ahead is not reached. -/
theorem reached_of_before (start : U32) {n d : Nat} (short : d < 2 ^ 31) (before : n < d) :
    reached (start + BitVec.ofNat 32 n) (start + BitVec.ofNat 32 d) = false := by
  refine decide_eq_false (Nat.not_lt.2 ?_)
  simp only [BitVec.toNat_sub, BitVec.toNat_add, BitVec.toNat_ofNat]
  omega

/-- R169: an expiry is reached when the timebase has come to it, and for 2^31 microseconds more. -/
theorem reached_of_after (start : U32) {n d : Nat} (come : d ≤ n) (recent : n < d + 2 ^ 31) :
    reached (start + BitVec.ofNat 32 n) (start + BitVec.ofNat 32 d) = true := by
  refine decide_eq_true ?_
  simp only [BitVec.toNat_sub, BitVec.toNat_add, BitVec.toNat_ofNat]
  omega

namespace State

variable {s : State} {c : Instr} {r : Request} {t : Fin 4}

/-! ### The step on an empty queue -/

theorem step_of_ready (empty : s.pending = []) (ready : s.readyWork = some c) :
    step s = .next (s.withPending [c]) := by
  simp only [step, empty, idle, ready]

theorem step_of_nothingReady (empty : s.pending = []) (nothing : s.readyWork = none) :
    step s = .next (s.advance.withPending (s.agingDue ++ s.advance.expiries)) := by
  simp only [step, empty, idle, nothing]

/-! ### The work that is ready -/

theorem classifierWork_of_commit (idle : s.classifier.state = .idle) (commits : s.commitPending = true) :
    s.classifierWork = some .swap := by
  simp only [classifierWork, idle, commits, if_true]

theorem classifierWork_of_list (idle : s.classifier.state = .idle) (quiet : s.commitPending = false)
    (list : s.reassembly.pendingList ≠ []) : s.classifierWork = some .classifierTake := by
  simp only [classifierWork, idle, quiet, Bool.false_eq_true, if_false, if_pos list]

theorem classifierWork_of_rest (idle : s.classifier.state = .idle) (quiet : s.commitPending = false)
    (list : s.reassembly.pendingList = []) : s.classifierWork = none := by
  simp only [classifierWork, idle, quiet, Bool.false_eq_true, if_false, list, ne_eq, not_true_eq_false]

theorem classifierWork_of_busy (busy : s.classifier.state ≠ .idle) : s.classifierWork = none := by
  cases state : s.classifier.state with
  | idle => exact absurd state busy
  | classifying _ _ => simp only [classifierWork, state]

/-- R76, R113: the Classifier's work is ahead of all other. -/
theorem readyWork_of_classifier (work : s.classifierWork = some c) : s.readyWork = some c := by
  rw [readyWork, work]
  rfl

/-- R21: next is the head of the stream. -/
theorem readyWork_of_stream (none : s.classifierWork = none) {x : StreamItem} {rest : List StreamItem}
    (stream : s.stream = x :: rest) : s.readyWork = some x.command := by
  rw [readyWork, none, stream]
  rfl

/-- R155: next is the take of the Management Unit. -/
theorem readyWork_of_take (none : s.classifierWork = none) (stream : s.stream = [])
    (take : s.nextTake.command = some c) : s.readyWork = some c := by
  rw [readyWork, none, stream, take]
  rfl

/-- R185: the grant of the arbiter is last. -/
theorem readyWork_of_grant (none : s.classifierWork = none) (stream : s.stream = []) (noRequest : ∀ r, ¬ s.Waits r) :
    s.readyWork = s.grant.map Owner.command := by
  have nothing : s.nextTake = .nothing := by
    by_contra take
    obtain ⟨r, waits, _⟩ := waits_of_nextTake take
    exact noRequest r waits
  rw [readyWork, none, stream, nothing]
  rfl

/-- R156 steps 1 to 3: the row of the request that waits. -/
theorem readyWork_of_waits (none : s.classifierWork = none) (stream : s.stream = []) (waits : s.Waits r) :
    (4 ≤ r.tag.toNat → s.readyWork = some .badTag) ∧
      ∀ t : Fin 4, r.tag.toNat = t.val →
        (s.management.sessions[t].lastSequence = some r.sequence → s.readyWork = some .retryMatch) ∧
        (s.management.sessions[t].lastSequence ≠ some r.sequence →
          (∀ k : RequestKind, r.kind = k.code → s.readyWork = some (k.command r)) ∧
          ((∀ x ∈ catalogue, x.code ≠ r.kind) → s.readyWork = some .badKind)) := by
  refine ⟨fun above => ?_, fun t tag => ⟨fun last => ?_, fun fresh => ⟨fun k kind => ?_, fun unknown => ?_⟩⟩⟩ <;>
    refine readyWork_of_take none stream ?_
  · rw [waits.nextTake_badTag above, Take.command]
  · rw [waits.nextTake_retry tag last, Take.command]
  · have due : s.Due t k r := ⟨waits.1, waits.2, tag, fresh, kind⟩
    rw [due.nextTake, Take.command]
  · rw [waits.nextTake_badKind tag fresh unknown, Take.command]

theorem anyEligible_eq_false (h : ∀ q : Fin 8, ¬ s.delivery.queues[q].eligible = true) : s.anyEligible = false :=
  eq_false_of_ne_true fun any => (anyEligible_iff s).1 any |>.elim h

/-! ### One microsecond -/

@[simp] theorem advance_now (s : State) : s.advance.now = s.events.timebase + 1 := rfl
@[simp] theorem advance_timer (s : State) : s.advance.events.timer = s.events.timer := rfl
@[simp] theorem advance_program (s : State) : s.advance.program = s.program := rfl
@[simp] theorem advance_hold (s : State) : s.advance.hold = s.hold := rfl

/-- R24: the aging tick comes with the last microsecond of the second. -/
theorem agingDue_eq (counts : s.stations.microsSinceTick < 1000000) :
    s.agingDue = if s.stations.microsSinceTick = 999999 then [.agingTick] else [] := by
  by_cases second : s.stations.microsSinceTick = 999999
  · rw [agingDue, if_neg (by omega), if_pos second]
  · rw [agingDue, if_pos (by omega), if_neg second]

/-- R169, R24: the timebase and the count of microseconds, one microsecond later. -/
theorem advance_eq (counts : s.stations.microsSinceTick < 1000000) :
    s.advance = (s.withEvents { s.events with timebase := s.events.timebase + 1 }).withStations
      { s.stations with
        microsSinceTick :=
          if s.stations.microsSinceTick = 999999 then 0 else s.stations.microsSinceTick + 1 } := by
  by_cases second : s.stations.microsSinceTick = 999999
  · rw [advance, if_neg (by omega), if_pos second]
  · rw [advance, if_pos (by omega), if_neg second]

end State

/-! ### The obligation -/

/-- Settles O2: an empty queue takes the first work that is ready, by the branches of `readyWork`, or one microsecond
passes. -/
theorem emptyQueueMakesReadyWorkOrTimePasses : Obligations.EmptyQueueMakesReadyWorkOrTimePasses := by
  refine ⟨fun s c => State.step_of_ready, fun s => ?_, fun s empty nothing counts => ?_,
    fun start d n short => ⟨reached_of_before start short, reached_of_after start⟩⟩
  · intro idle commits eligible
    have quiet (h : ¬ commits) : s.commitPending = false :=
      State.commitPending_eq_false fun k g q edit => h ⟨k, g, q, edit⟩
    refine ⟨fun isIdle ⟨_, _, _, edit⟩ => ?_, fun isIdle none list => ?_, fun rest => ?_⟩
    · exact State.readyWork_of_classifier
        (State.classifierWork_of_commit isIdle (State.commitPending_of_committing edit))
    · exact State.readyWork_of_classifier (State.classifierWork_of_list isIdle (quiet none) list)
    have noWork : s.classifierWork = none := by
      by_cases isIdle : idle
      · obtain busy | ⟨none, list⟩ := rest
        · exact absurd isIdle busy
        · exact State.classifierWork_of_rest isIdle (quiet none) list
      · exact State.classifierWork_of_busy isIdle
    refine ⟨fun l rest stream => State.readyWork_of_stream noWork stream,
      fun c rest stream => State.readyWork_of_stream noWork stream,
      fun stream r waits => State.readyWork_of_waits noWork stream waits, fun stream noRequest => ?_⟩
    rw [State.readyWork_of_grant noWork stream noRequest]
    have isEligible (q : Fin 8) : eligible q ↔ s.delivery.queues[q].eligible = true :=
      (Queue.eligible_iff s.delivery.queues[q]).symm
    refine ⟨fun up free => ⟨fun waits => ?_, fun none due => ?_, fun none notDue ⟨q, h⟩ => ?_, fun none notDue h => ?_⟩,
      fun busy => ?_⟩
    · rw [State.grant_of_response up free waits]
      rfl
    · rw [State.grant_of_due up free none due]
      rfl
    · rw [State.grant_of_rest up free none notDue, if_pos ((State.anyEligible_iff s).2 ⟨q, (isEligible q).1 h⟩)]
      rfl
    · have nobody := State.anyEligible_eq_false fun q => (isEligible q).not.1 (h q)
      rw [State.grant_of_rest up free none notDue, nobody]
      rfl
    · rw [State.grant_of_busy busy]
      rfl
  · intro now second
    rw [State.step_of_nothingReady empty nothing, State.agingDue_eq counts]
    refine congrArg Host.Outcome.next (congrArg₂ State.withPending (State.advance_eq counts) ?_)
    simp only [State.expiries, List.append_assoc]
    refine congrArg₂ _ rfl (congrArg₂ _ (congrArg _ ?gaps) (congrArg₂ _ ?idle (congrArg₂ _ ?refresh ?coalescing)))
    case gaps => rfl
    case idle =>
      cases edit : s.program.edit <;>
        simp only [State.idleExpired, State.advance_program, State.advance_now, edit, Bool.false_eq_true, if_false]
      rfl
    case refresh =>
      cases mode : s.hold.mode <;>
        simp only [State.refreshExpired, State.advance_hold, State.advance_now, mode, Bool.false_eq_true, if_false]
      rfl
    case coalescing =>
      cases timer : s.events.timer <;>
        simp only [State.coalescingExpired, State.advance_timer, State.advance_now, timer, Option.any,
          Bool.false_eq_true, if_false]
      rfl

end Sys2Proof.Machine
end
